-- ==== Sys2Proof/Word.lean ====
section
/-! DEFINITION. The word types of the HSC-440 (00_scope.md 4.1; R3; R180): bytes on the ports, the 16-bit halves of a
count, the 32-bit extended counts and wrapping counters. -/

namespace Sys2Proof

/-- One byte clocked over a master port (R157). -/
abbrev Byte := BitVec 8

/-- The hw count and the extension of a channel (R3). -/
abbrev Half := BitVec 16

/-- An extended count, the distance accumulator, the uptime count (R3, R11, R17). -/
abbrev Word := BitVec 32

end Sys2Proof
end

