-- ==== Sys2Proof/Syntax.lean ====
section
/-! DEFINITION. The commands of the HSC-440: one constructor of `Instr` for each row of spec/opcode_table.json, with
the row's operands. A request frame is carried as it comes over the port: its payload bytes (R180, R184) and the
number of padding bytes clocked in after it (R158). -/

namespace Sys2Proof

/-- The three master ports (00_scope.md 1.1). -/
inductive PortId where
  | cab | chassis | route
  deriving DecidableEq, Repr

/-- The eight counter channels, in channel order 0 to 7 (01, section 1.1). -/
inductive ChanId where
  | gnd | tmot | bmain | barml | barmr | slewl | slewr | fan
  deriving DecidableEq, Repr

/-- The quadrature channels (R1). -/
inductive QuadChan where
  | gnd | tmot | slewl | slewr
  deriving DecidableEq, Repr

/-- The pulse channels (R2). -/
inductive PulseChan where
  | bmain | barml | barmr | fan
  deriving DecidableEq, Repr

/-- The two side-brush arms (05), and the two ANGULAR channels that go with them (R7, R83). -/
inductive Side where
  | left | right
  deriving DecidableEq, Repr

/-- The units with a lift and position switches: the two arms and the pickup group (R85, R90, R96). -/
inductive Equip where
  | left | right | pickup
  deriving DecidableEq, Repr

/-- The two position switches of a unit (05, sections 5.1 and 5.6). -/
inductive SwitchEnd where
  | up | down
  deriving DecidableEq, Repr

/-- The four nozzle banks (07, section 7.1). -/
inductive BankId where
  | b0 | b1 | b2 | b3
  deriving DecidableEq, Repr

/-- The two full resets (00_scope.md 4.5). Their effect is the same; after a power-on reset RSTN is not held
(log entry 6). -/
inductive ResetKind where
  | powerOn | rstn
  deriving DecidableEq, Repr

/-- A transaction that carried a valid frame: the port, the payload bytes of the request, and how many bytes the
master clocked in beyond the frame (padding, R158). -/
structure Frame where
  port : PortId
  payload : List Byte
  padding : Nat
  deriving DecidableEq, Repr

/-- The commands. A transaction's row is found from its command code (R183) and, for ARM_SET and PICKUP_SET, from the
action it carries (log entry 24). -/
inductive Instr where
  -- transactions: link (R158 to R167)
  | nop (f : Frame)
  | badFrame (port : PortId) (bytes : List Byte)
  | unknownCommand (code : Byte) (f : Frame)
  | noticeRead (f : Frame)
  | noticeMask (f : Frame)
  -- transactions: reads
  | readCount (f : Frame)
  | readSnap (f : Frame)
  | readLanes (f : Frame)
  | profileRead (f : Frame)
  | travelRead (f : Frame)
  | armRead (f : Frame)
  | claimRead (f : Frame)
  | sprayRead (f : Frame)
  | descRead (f : Frame)
  | pgmRead (f : Frame)
  | cfgRead (f : Frame)
  -- transactions: Counter Unit
  | snapshot (f : Frame)
  | chEnable (f : Frame)
  | chDisable (f : Frame)
  | setCount (f : Frame)
  | chClear (f : Frame)
  | gndFaultClear (f : Frame)
  -- transactions: budget, tank, configuration
  | budget (f : Frame)
  | tank (f : Frame)
  | lanesClear (f : Frame)
  | cfgWrite (f : Frame)
  | cfgCommit (f : Frame)
  -- transactions: travel and claims
  | travelReq (f : Frame)
  | claim (f : Frame)
  | take (f : Frame)
  | release (f : Frame)
  -- transactions: equipment
  | armSetDeploy (f : Frame)
  | armSetRetarget (f : Frame)
  | armSetStow (f : Frame)
  | armClear (f : Frame)
  | pickupSetWork (f : Frame)
  | pickupSetUp (f : Frame)
  | spraySet (f : Frame)
  -- transactions: profiles
  | profileSelect (f : Frame)
  | profileWrite (f : Frame)
  -- transactions: segment program
  | descWrite (f : Frame)
  | descReturn (f : Frame)
  | pgmStart (f : Frame)
  | pgmPoll (f : Frame)
  | pgmSuspend (f : Frame)
  | pgmResume (f : Frame)
  | pgmAbort (f : Frame)
  -- events on pins: the levels after a sampling of A and B (R1), a rising edge (R2), the index input (R7)
  | quadratureChange (ch : QuadChan) (a b : Bool)
  | pulseRisingEdge (ch : PulseChan)
  | indexActive (side : Side)
  | indexInactive (side : Side)
  | positionSwitchChange (unit : Equip) (sw : SwitchEnd) (active : Bool)
  | stopinAsserted
  | stopinReleased
  | prstnAsserted (port : PortId)
  | prstnReleased (port : PortId)
  | fullReset (kind : ResetKind)
  | rstnRelease
  -- events of the part's own timers
  | uptimeTick
  | gateExpiry (ch : ChanId)
  | freshnessExpiry
  | allocationPeriodExpiry
  | travelUpdate
  | armUpdate
  | moveTimerExpiry (unit : Equip)
  | pulseTimerExpiry (bank : BankId)
  | silenceTimerExpiry (port : PortId)
  deriving DecidableEq, Repr

end Sys2Proof
end

