-- ==== Sys2Proof/Config.lean ====
section
/-! DEFINITION. The free values of the model: what the manual leaves open and no proof may know. -/

namespace Sys2Proof.Config

/-- The events that one assertion of STOPIN brings to the Spray Controller (R97, R118, R119). -/
inductive StopEvent where
  /-- STOPIN itself: T7 of every bank becomes false. -/
  | stopin
  /-- The left arm leaves WORKING: T4 of bank 0. -/
  | leftArm
  /-- The right arm leaves WORKING: T4 of bank 1. -/
  | rightArm
  /-- The pickup leaves WORKING: T4 of banks 2 and 3. -/
  | pickup
  deriving DecidableEq, Repr

/-- FREE VALUE (log entry 10). The order in which the Spray Controller takes the events of an assertion: lower ranks first.
R119 gives the outcome of each order and no rule gives the order; nothing in Lean knows this function. Its argument is the
number of the assertion, counted in `State.raceCount`. -/
opaque stopRank : Nat → StopEvent → Nat

end Sys2Proof.Config
end

