-- ==== Sys2Proof/Machine/Params.lean ====
section
/-! DEFINITION. The parameter table of Chapter 10 (section 10.3): 64 ids, each with its range and default, a set of
values, and the named view each block takes of it. -/

namespace Sys2Proof.Machine

/-- One row of the parameter table: range and default. -/
structure ParamRow where
  lo : Int
  hi : Int
  dflt : Int
  deriving DecidableEq, Repr

/-- Ids 0 to 16: gates, pitches, counts per revolution, index-clear enables, spray interval. -/
def paramRowsCounting : List ParamRow :=
  List.replicate 8 ⟨10, 250, 50⟩ ++ List.replicate 2 ⟨1, 5000, 400⟩ ++ List.replicate 4 ⟨1, 10000, 60⟩ ++
    List.replicate 2 ⟨0, 1, 1⟩ ++ [⟨50, 1000, 250⟩]

/-- Ids 17 to 30: classes, full-scale flows, fallback budget, freshness limit, readmit margin. -/
def paramRowsPower : List ParamRow :=
  [⟨0, 3, 1⟩, ⟨0, 3, 0⟩, ⟨0, 3, 0⟩, ⟨0, 3, 2⟩, ⟨0, 3, 2⟩, ⟨0, 3, 3⟩] ++
    [⟨10, 65535, 800⟩, ⟨10, 65535, 1200⟩, ⟨10, 65535, 400⟩, ⟨10, 65535, 400⟩, ⟨10, 65535, 200⟩] ++
    [⟨0, 4000, 300⟩, ⟨100, 2000, 500⟩, ⟨0, 500, 20⟩]

/-- Ids 31 to 38: the Travel Governor. -/
def paramRowsTravel : List ParamRow :=
  [⟨1, 1000, 120⟩, ⟨0, 4000, 40⟩, ⟨50, 5000, 500⟩, ⟨50, 5000, 800⟩, ⟨100, 10000, 2000⟩, ⟨1000, 16000, 8300⟩,
    ⟨0, 4095, 4095⟩, ⟨0, 4095, 1600⟩]

/-- Ids 39 to 51: the Arm Controller. -/
def paramRowsArms : List ParamRow :=
  [⟨360, 65535, 14400⟩, ⟨-20000, 20000, 0⟩, ⟨-20000, 20000, 7200⟩, ⟨0, 500, 8⟩, ⟨1, 255, 16⟩, ⟨0, 4095, 3000⟩,
    ⟨0, 4095, 1200⟩] ++
    [⟨1000, 20000, 5000⟩, ⟨200, 10000, 2000⟩, ⟨10, 1000, 160⟩, ⟨10, 1000, 400⟩, ⟨10, 1000, 50⟩, ⟨0, 100, 75⟩]

/-- Ids 52 to 63: the Spray Controller and the silence limits. -/
def paramRowsSpray : List ParamRow :=
  List.replicate 4 ⟨10, 2000, 100⟩ ++
    [⟨0, 4000, 300⟩, ⟨0, 4000000, 100000⟩, ⟨-40, 85, 2⟩, ⟨0, 500, 20⟩, ⟨0, 500, 10⟩] ++
    List.replicate 3 ⟨100, 5000, 1000⟩

/-- The parameter table, in id order (10, section 10.3). -/
def paramRows : List ParamRow :=
  paramRowsCounting ++ paramRowsPower ++ paramRowsTravel ++ paramRowsArms ++ paramRowsSpray

/-- The rows as a vector, one for each id 0 to 63. -/
def paramTable : Vector ParamRow 64 := ⟨paramRows.toArray, by rfl⟩

/-- A parameter set: one value for each id (R174). -/
structure Params where
  vals : Vector Int 64
  deriving DecidableEq, Repr

/-- Every parameter at its default (R174, R179). -/
def Params.defaults : Params := ⟨⟨(paramRows.map ParamRow.dflt).toArray, by rfl⟩⟩

/-- The value of one id. -/
def Params.val (p : Params) (i : Fin 64) : Int := p.vals.get i

/-- The value of one id whose range has no negative number. -/
def Params.nat (p : Params) (i : Fin 64) : Nat := (p.val i).toNat

/-- Replace the value of one id (R175). -/
def Params.write (p : Params) (i : Fin 64) (v : Int) : Params := ⟨p.vals.set i v⟩

/-- Does a value lie in the range of its id (R175, test 2)? -/
def paramInRange (i : Fin 64) (v : Int) : Bool :=
  decide ((paramTable.get i).lo ≤ v) && decide (v ≤ (paramTable.get i).hi)

/-- Every value of the set lies in the range of its id. -/
def Params.inRange (p : Params) : Prop := ∀ i : Fin 64, paramInRange i (p.val i) = true

/-- Gate of a channel, ms (ids 0 to 7; R5). -/
def Params.gate (p : Params) : ChanId → Nat
  | .gnd => p.nat 0
  | .tmot => p.nat 1
  | .bmain => p.nat 2
  | .barml => p.nat 3
  | .barmr => p.nat 4
  | .slewl => p.nat 5
  | .slewr => p.nat 6
  | .fan => p.nat 7

/-- Pitch of GND, µm per count (id 8; R5, R11). -/
def Params.pitchGnd (p : Params) : Nat := p.nat 8
/-- Pitch of TMOT, µm per count (id 9; R5, R11). -/
def Params.pitchTmot (p : Params) : Nat := p.nat 9
/-- Counts per revolution of BMAIN, BARML, BARMR, FAN (ids 10 to 13; R5). -/
def Params.cprBmain (p : Params) : Nat := p.nat 10
def Params.cprBarml (p : Params) : Nat := p.nat 11
def Params.cprBarmr (p : Params) : Nat := p.nat 12
def Params.cprFan (p : Params) : Nat := p.nat 13
/-- Index-clear enable of SLEWL and SLEWR (ids 14, 15; R7). -/
def Params.indexClear (p : Params) : Side → Bool
  | .left => p.val 14 != 0
  | .right => p.val 15 != 0
/-- Spray interval, mm (id 16; R12, R120). -/
def Params.sprayInterval (p : Params) : Nat := p.nat 16
/-- Fallback budget, pu (id 28; R26). -/
def Params.fallback (p : Params) : Nat := p.nat 28
/-- Freshness limit, ms (id 29; R24). -/
def Params.freshLimit (p : Params) : Nat := p.nat 29
/-- Readmit margin, pu (id 30; R33). -/
def Params.readmitMargin (p : Params) : Nat := p.nat 30
/-- Ktrac, pu per 1000 mm/s (id 31; R66, R68). -/
def Params.ktrac (p : Params) : Nat := p.nat 31
/-- Traction floor, pu (id 32; R68). -/
def Params.tractionFloor (p : Params) : Nat := p.nat 32
/-- Up ramp, mm/s² (id 33; R67, R68). -/
def Params.upRamp (p : Params) : Nat := p.nat 33
/-- Down ramp, mm/s² (id 34; R67). -/
def Params.downRamp (p : Params) : Nat := p.nat 34
/-- Stop ramp, mm/s² (id 35; R67). -/
def Params.stopRamp (p : Params) : Nat := p.nat 35
/-- Transport maximum, mm/s (id 36; R59). -/
def Params.transportMax (p : Params) : Nat := p.nat 36
/-- Motor level in SWEEP (id 37; R70). -/
def Params.sweepMotor (p : Params) : Nat := p.nat 37
/-- Motor level in TRANSPORT (id 38; R70). -/
def Params.transportMotor (p : Params) : Nat := p.nat 38
/-- Slew counts per revolution (id 39; R78). -/
def Params.slewCpr (p : Params) : Int := p.val 39
/-- Slew minimum, counts (id 40; R78). -/
def Params.slewMin (p : Params) : Int := p.val 40
/-- Slew maximum, counts (id 41; R78). -/
def Params.slewMax (p : Params) : Int := p.val 41
/-- Deadband, counts (id 42; R84). -/
def Params.deadband (p : Params) : Nat := p.nat 42
/-- Kslew, level per count (id 43; R84). -/
def Params.kslew (p : Params) : Nat := p.nat 43
/-- Slew maximum level (id 44; R84). -/
def Params.slewMaxLevel (p : Params) : Nat := p.nat 44
/-- Homing level (id 45; R84). -/
def Params.homingLevel (p : Params) : Nat := p.nat 45
/-- Move timeout, ms (id 46; R85). -/
def Params.moveTimeout (p : Params) : Nat := p.nat 46
/-- Stall time, ms (id 47; R92). -/
def Params.stallTime (p : Params) : Nat := p.nat 47
/-- Arm brush displacement, cc (id 48; R88, R91, R94). -/
def Params.armDisp (p : Params) : Nat := p.nat 48
/-- Main broom displacement, cc (id 49; R91, R96). -/
def Params.mainDisp (p : Params) : Nat := p.nat 49
/-- Fan displacement, cc (id 50; R91, R96). -/
def Params.fanDisp (p : Params) : Nat := p.nat 50
/-- Fan floor percentage (id 51; R91). -/
def Params.fanFloorPct (p : Params) : Nat := p.nat 51
/-- Nozzle flow of a bank, mL/s (ids 52 to 55; R120, R124). -/
def Params.nozzleFlow (p : Params) : BankId → Nat
  | .b0 => p.nat 52
  | .b1 => p.nat 53
  | .b2 => p.nat 54
  | .b3 => p.nat 55
/-- Minimum spray speed, mm/s (id 56; R116). -/
def Params.minSpraySpeed (p : Params) : Int := p.val 56
/-- Reserve, mL (id 57; R117, R126). -/
def Params.reserve (p : Params) : Nat := p.nat 57
/-- Frost threshold, °C (id 58; R116). -/
def Params.frost (p : Params) : Int := p.val 58
/-- Spray pump power, pu (id 59; R127). -/
def Params.pumpPower (p : Params) : Nat := p.nat 59
/-- Spray pump floor, pu (id 60; R127). -/
def Params.pumpFloor (p : Params) : Nat := p.nat 60
/-- Silence limit of a port, ms (ids 61 to 63; R168). -/
def Params.silenceLimit (p : Params) : PortId → Nat
  | .cab => p.nat 61
  | .chassis => p.nat 62
  | .route => p.nat 63

end Sys2Proof.Machine
end

