-- ==== Sys2Proof/Machine/State.lean ====
section
/-! DEFINITION. Every piece of state the HSC-440 manual names, block by block (00_scope.md section 2), as plain data,
and its value after reset. What another field or the parameter set already says is not stored twice (log entries 22
and 23). -/

namespace Sys2Proof.Machine

/-- The block has no fault of its own: no command of the table stops the machine, so this type has no member. -/
inductive Fault where
  deriving DecidableEq, Repr

/-- Why a step gives a command no meaning. -/
inductive Refusal where
  /-- Raised by the dispatch alone, for a command that has no meaning in the model yet. Safe. -/
  | notModelled (mnemonic : String)
  /-- Raised for a term of `Instr` that spells no command: a BAD_FRAME whose bytes are a good frame or no bytes at
  all, an UNKNOWN_COMMAND whose code names a command (log entry 25). Safe. -/
  | illFormed
  deriving DecidableEq, Repr

/-- A timer: stopped, or running with so many milliseconds left (00_scope.md 4.4; log entries 2 and 3). -/
abbrev Timer := Option Nat

/-! ## Tables indexed by the manual's names -/

/-- One value for each counter channel. -/
structure PerChan (α : Type) where
  gnd : α
  tmot : α
  bmain : α
  barml : α
  barmr : α
  slewl : α
  slewr : α
  fan : α
  deriving DecidableEq, Repr

def PerChan.get {α : Type} (v : PerChan α) : ChanId → α
  | .gnd => v.gnd
  | .tmot => v.tmot
  | .bmain => v.bmain
  | .barml => v.barml
  | .barmr => v.barmr
  | .slewl => v.slewl
  | .slewr => v.slewr
  | .fan => v.fan

def PerChan.set {α : Type} (v : PerChan α) (i : ChanId) (x : α) : PerChan α :=
  match i with
  | .gnd => { v with gnd := x }
  | .tmot => { v with tmot := x }
  | .bmain => { v with bmain := x }
  | .barml => { v with barml := x }
  | .barmr => { v with barmr := x }
  | .slewl => { v with slewl := x }
  | .slewr => { v with slewr := x }
  | .fan => { v with fan := x }

def PerChan.ofFn {α : Type} (f : ChanId → α) : PerChan α :=
  ⟨f .gnd, f .tmot, f .bmain, f .barml, f .barmr, f .slewl, f .slewr, f .fan⟩

/-- The lanes of the budget, in lane index order 0 to 5 (02, section 2.2). -/
inductive LaneId where
  | trac | main | fan | arml | armr | spry
  deriving DecidableEq, Repr

/-- One value for each lane. -/
structure PerLane (α : Type) where
  trac : α
  main : α
  fan : α
  arml : α
  armr : α
  spry : α
  deriving DecidableEq, Repr

def PerLane.get {α : Type} (v : PerLane α) : LaneId → α
  | .trac => v.trac
  | .main => v.main
  | .fan => v.fan
  | .arml => v.arml
  | .armr => v.armr
  | .spry => v.spry

def PerLane.set {α : Type} (v : PerLane α) (i : LaneId) (x : α) : PerLane α :=
  match i with
  | .trac => { v with trac := x }
  | .main => { v with main := x }
  | .fan => { v with fan := x }
  | .arml => { v with arml := x }
  | .armr => { v with armr := x }
  | .spry => { v with spry := x }

def PerLane.ofFn {α : Type} (f : LaneId → α) : PerLane α :=
  ⟨f .trac, f .main, f .fan, f .arml, f .armr, f .spry⟩

/-- One value for each nozzle bank. -/
structure PerBank (α : Type) where
  b0 : α
  b1 : α
  b2 : α
  b3 : α
  deriving DecidableEq, Repr

def PerBank.get {α : Type} (v : PerBank α) : BankId → α
  | .b0 => v.b0
  | .b1 => v.b1
  | .b2 => v.b2
  | .b3 => v.b3

def PerBank.ofFn {α : Type} (f : BankId → α) : PerBank α := ⟨f .b0, f .b1, f .b2, f .b3⟩

/-- One value for each master port. -/
structure PerPort (α : Type) where
  cab : α
  chassis : α
  route : α
  deriving DecidableEq, Repr

def PerPort.get {α : Type} (v : PerPort α) : PortId → α
  | .cab => v.cab
  | .chassis => v.chassis
  | .route => v.route

def PerPort.set {α : Type} (v : PerPort α) (i : PortId) (x : α) : PerPort α :=
  match i with
  | .cab => { v with cab := x }
  | .chassis => { v with chassis := x }
  | .route => { v with route := x }

def PerPort.ofFn {α : Type} (f : PortId → α) : PerPort α := ⟨f .cab, f .chassis, f .route⟩

/-- The claim resources, in table order 0 to 3 (06, section 6.1). -/
inductive Resource where
  | armL | armR | pickup | spray
  deriving DecidableEq, Repr

/-- One value for each resource. -/
structure PerResource (α : Type) where
  armL : α
  armR : α
  pickup : α
  spray : α
  deriving DecidableEq, Repr

def PerResource.get {α : Type} (v : PerResource α) : Resource → α
  | .armL => v.armL
  | .armR => v.armR
  | .pickup => v.pickup
  | .spray => v.spray

def PerResource.set {α : Type} (v : PerResource α) (i : Resource) (x : α) : PerResource α :=
  match i with
  | .armL => { v with armL := x }
  | .armR => { v with armR := x }
  | .pickup => { v with pickup := x }
  | .spray => { v with spray := x }

def PerResource.ofFn {α : Type} (f : Resource → α) : PerResource α := ⟨f .armL, f .armR, f .pickup, f .spray⟩

/-! ## Counter Unit (Chapter 1) -/

/-- One counter channel (section 1.1). `homed` and `index` are used on the ANGULAR channels alone; the A and B levels
are the inputs as last sampled (R1). -/
structure Channel where
  enabled : Bool
  hw : Half
  ext : Half
  gateRef : Word
  speed : Int
  clamp : Bool
  gateTimer : Timer
  homed : Bool
  levelA : Bool
  levelB : Bool
  index : Bool
  deriving DecidableEq, Repr

/-- The distance source (R11). -/
inductive Source where
  | gnd | tmot
  deriving DecidableEq, Repr

/-- A port's snapshot buffer and its next sequence number (section 1.3). -/
structure SnapBuffer where
  empty : Bool
  seq : Byte
  counts : PerChan Word
  speeds : PerChan Int
  accumulator : Word
  uptime : Word
  nextSeq : Byte
  deriving DecidableEq, Repr

structure Ctu where
  chans : PerChan Channel
  accumulator : Word
  remainder : Nat
  source : Source
  markProgress : Nat
  groundFault : Bool
  condition : Bool
  persistence : Nat
  uptime : Word
  snaps : PerPort SnapBuffer
  deriving DecidableEq, Repr

/-! ## Power Budget Allocator (Chapter 2) -/

inductive LaneState where
  | idle | full | part | starved
  deriving DecidableEq, Repr

/-- The four fields a consumer publishes in one act (R27). -/
structure LaneReq where
  active : Bool
  demand : Nat
  floor : Nat
  flow : Nat
  deriving DecidableEq, Repr

/-- The three fields the allocator publishes (R37). -/
structure LaneOut where
  state : LaneState
  grant : Nat
  flow : Nat
  deriving DecidableEq, Repr

/-- One lane of the table (section 2.2). Class and Qfs are read from the parameter set. -/
structure Lane where
  req : LaneReq
  out : LaneOut
  demandClamp : Bool
  flowClamp : Bool
  levelClamp : Bool
  deriving DecidableEq, Repr

inductive Freshness where
  | fresh | stale
  deriving DecidableEq, Repr

structure Pba where
  available : Nat
  pressTraction : Nat
  pressImplement : Nat
  pressFan : Nat
  ambient : Option Int
  freshness : Freshness
  freshTimer : Timer
  budgetClamp : Bool
  lanes : PerLane Lane
  slack : Nat
  shedCount : Nat
  budgetInEffect : Nat
  allocNumber : Byte
  allocTimer : Timer
  deriving DecidableEq, Repr

/-! ## Profile Table (Chapter 3) -/

/-- A sweep profile (section 3.1). -/
structure Profile where
  valid : Bool
  s0 : Nat
  s1 : Nat
  s2 : Nat
  s3 : Nat
  m0 : Nat
  m1 : Nat
  m2 : Nat
  m3 : Nat
  a0 : Nat
  a1 : Nat
  a2 : Nat
  a3 : Nat
  maxSweep : Nat
  fanRpm : Nat
  dose : PerBank Nat
  deriving DecidableEq, Repr

structure Pft where
  profiles : Vector Profile 8
  active : Fin 8
  deriving DecidableEq, Repr

/-! ## Travel Governor (Chapter 4) -/

inductive TravelMode where
  | parked | sweep | transport
  deriving DecidableEq, Repr

inductive Direction where
  | fwd | rev
  deriving DecidableEq, Repr

/-- The travel record (section 4.1); `brushCapRead` is the brush-sufficiency cap as last read (R75). -/
structure Tgv where
  mode : TravelMode
  direction : Direction
  reqDirection : Direction
  reqSpeed : Nat
  segCap : Option Nat
  stopRequest : Bool
  stopReported : Bool
  awaitingZero : Bool
  demandSpeed : Nat
  tractionCap : Option Nat
  brushCapRead : Option Nat
  targetSpeed : Nat
  commandedSpeed : Nat
  pumpFwd : Nat
  pumpRev : Nat
  motor : Nat
  updateTimer : Timer
  deriving DecidableEq, Repr

/-! ## Arm Controller (Chapter 5) -/

inductive ArmState where
  | stowed | homing | deploying | working | lifting | fault
  deriving DecidableEq, Repr

inductive Phase where
  | slew | lower | spinup
  deriving DecidableEq, Repr

inductive Cause where
  | none | command | stop | stall | starved | claimLoss | reference | timeout | switch
  deriving DecidableEq, Repr

/-- An arm record (section 5.1); the valves are open when true; the switches are the levels of the inputs. -/
structure Arm where
  state : ArmState
  phase : Phase
  cause : Cause
  slewTarget : Int
  onTarget : Bool
  deployPending : Bool
  rpm : Nat
  moveTimer : Timer
  stallTimer : Nat
  stallCount : Nat
  slewPlus : Nat
  slewMinus : Nat
  liftUp : Bool
  liftDown : Bool
  brushLevel : Nat
  upSw : Bool
  downSw : Bool
  deriving DecidableEq, Repr

inductive PickupState where
  | up | lowering | working | raising | fault
  deriving DecidableEq, Repr

/-- The pickup record (section 5.6). -/
structure Pickup where
  state : PickupState
  cause : Cause
  mainRpm : Nat
  fanRpm : Nat
  moveTimer : Timer
  stallTimer : Nat
  stallCount : Nat
  raiseValve : Bool
  lowerValve : Bool
  mainLevel : Nat
  fanLevel : Nat
  upSw : Bool
  downSw : Bool
  deriving DecidableEq, Repr

structure Arc where
  left : Arm
  right : Arm
  pickup : Pickup
  cap : Option Nat
  updateTimer : Timer
  deriving DecidableEq, Repr

/-! ## Claim Table (Chapter 6) -/

/-- The four conditions in which an entry stands (R101). -/
inductive Claim where
  | free | cab | program | lent
  deriving DecidableEq, Repr

/-- The holder of an entry (R101). -/
inductive Holder where
  | none | cab | program
  deriving DecidableEq, Repr

def Claim.holder : Claim → Holder
  | .free => .none
  | .cab => .cab
  | .program => .program
  | .lent => .cab

/-- Is the lender, PROGRAM, present (R101)? -/
def Claim.lender : Claim → Bool
  | .lent => true
  | _ => false

abbrev Clt := PerResource Claim

/-! ## Spray Controller (Chapter 7) -/

/-- The terms word of a bank (R116). -/
structure Terms where
  t1 : Bool
  t2 : Bool
  t3 : Bool
  t4 : Bool
  t5 : Bool
  t6 : Bool
  t7 : Bool
  deriving DecidableEq, Repr

inductive Term where
  | t1 | t2 | t3 | t4 | t5 | t6 | t7
  deriving DecidableEq, Repr

/-- The permissive: all seven terms true (section 7.3). -/
def Terms.all (t : Terms) : Bool := t.t1 && t.t2 && t.t3 && t.t4 && t.t5 && t.t6 && t.t7

/-- A nozzle bank (section 7.1); `dose` is `none` for PROFILE. -/
structure Bank where
  enabled : Bool
  dose : Option Nat
  doseInEffect : Nat
  width : Nat
  widthClamp : Bool
  terms : Terms
  firstFailing : Option Term
  valve : Bool
  pulseTimer : Timer
  openTime : Nat
  remainder : Nat
  doseShort : Bool
  deriving DecidableEq, Repr

structure Spc where
  banks : PerBank Bank
  estimate : Nat
  pumpLevel : Nat
  deriving DecidableEq, Repr

/-! ## Segment Engine (Chapter 8) -/

inductive ArmSetting where
  | stow | work | keep
  deriving DecidableEq, Repr

inductive PickupSetting where
  | up | work | keep
  deriving DecidableEq, Repr

inductive EndAction where
  | cont | pause | stop
  deriving DecidableEq, Repr

/-- The settings a segment start copies (section 8.3): `spray` is the mask of banks, or `none` for KEEP; `dose` is
`none` where the override is absent. -/
structure Settings where
  speedCap : Option Nat
  profile : Fin 8
  left : ArmSetting
  leftAngle : Option Int
  right : ArmSetting
  rightAngle : Option Int
  pickup : PickupSetting
  spray : Option (BitVec 4)
  dose : Option Nat
  deriving DecidableEq, Repr

/-- The request part of a descriptor, as stored (R134). -/
structure Request where
  lengthMm : Nat
  settings : Settings
  endAction : EndAction
  last : Bool
  deriving DecidableEq, Repr

/-- The flags of a segment result (section 8.1). -/
structure SegFlags where
  overL : Bool
  overR : Bool
  overPickup : Bool
  overSpray : Bool
  staleSeen : Bool
  shedSeen : Bool
  doseShortSeen : Bool
  stoppedByInput : Bool
  deriving DecidableEq, Repr

/-- The figures of a segment, built up in the engine record (R142). -/
structure SegFigures where
  distance : Nat
  leadIn : Nat
  water : Nat
  stalls : Nat
  flags : SegFlags
  deriving DecidableEq, Repr

inductive SegStatus where
  | done | aborted
  deriving DecidableEq, Repr

structure SegResult where
  status : SegStatus
  figures : SegFigures
  deriving DecidableEq, Repr

inductive Owner where
  | master | engine
  deriving DecidableEq, Repr

/-- One descriptor of the plan ring (section 8.1). -/
structure Descriptor where
  owner : Owner
  request : Request
  result : Option SegResult
  deriving DecidableEq, Repr

inductive EngineState where
  | idle | running | suspended | starved | stopping
  deriving DecidableEq, Repr

inductive SuspendCause where
  | none | command | pauseEnd | stopInput
  deriving DecidableEq, Repr

inductive ReturnState where
  | none | running | starved
  deriving DecidableEq, Repr

inductive StartPort where
  | none | cab | route
  deriving DecidableEq, Repr

inductive EndKind where
  | none | last | stop | abort
  deriving DecidableEq, Repr

/-- The plan ring and the engine record (section 8.3). -/
structure Sge where
  ring : Vector Descriptor 32
  state : EngineState
  suspendCause : SuspendCause
  returnState : ReturnState
  cursor : Fin 32
  present : Bool
  startPort : StartPort
  settings : Option Settings
  figures : SegFigures
  unplanned : Nat
  completed : Nat
  endKind : EndKind
  deriving DecidableEq, Repr

/-! ## Master ports (Chapter 9) -/

/-- Status values (R161). -/
inductive Status where
  | ok | clamped | empty | crc | length | unknown | denied | state | range | claimed | owned | inUse
  deriving DecidableEq, Repr

/-- A response frame without its length byte and CRC, which `Response.bytes` adds (R180). -/
structure Response where
  status : Status
  code : Byte
  payload : List Byte
  deriving DecidableEq, Repr

/-- The content of a multi-part read not yet returned, with the number of the next part (R163). -/
structure HeldRead where
  code : Byte
  content : List Byte
  next : Nat
  deriving DecidableEq, Repr

inductive Link where
  | active | silent
  deriving DecidableEq, Repr

/-- One master port (section 9.1). `shifted` is the model's record of what stood on the data-out line in the latest SELN low
period in which bytes were clocked: the bytes shifted out (R157), and zeros while PRSTN is held (R170); a reset empties it
(log entries 9 and 37). -/
structure Port where
  response : Response
  held : Option HeldRead
  notices : BitVec 17
  mask : BitVec 17
  link : Link
  inReset : Bool
  silenceTimer : Timer
  shifted : List Byte
  deriving DecidableEq, Repr

/-! ## Configuration Store (Chapter 10) -/

inductive CommitResult where
  | none | slewLimits | transportMax | tractionFloor | fallback
  deriving DecidableEq, Repr

/-- Device state, parameter sets and commit check result (R173, R174). -/
structure Cfs where
  ready : Bool
  pendingSet : Params
  activeSet : Option Params
  commitResult : CommitResult
  deriving DecidableEq, Repr

end Sys2Proof.Machine

namespace Sys2Proof.Machine

/-- The whole state of the part. `raceCount` is the model's own: how many STOPIN assertions it has resolved (log
entry 10). `pending` is the queue of commands that wait, first in, first out. -/
structure State where
  rstnHeld : Bool
  stopin : Bool
  ctu : Ctu
  pba : Pba
  pft : Pft
  tgv : Tgv
  arc : Arc
  clt : Clt
  spc : Spc
  sge : Sge
  ports : PerPort Port
  cfs : Cfs
  raceCount : Nat
  pending : List Instr
  deriving DecidableEq, Repr

/-! ## Reset values, block by block -/

/-- R21. -/
def Channel.reset : Channel :=
  { enabled := false, hw := 0, ext := 0, gateRef := 0, speed := 0, clamp := false, gateTimer := none, homed := false,
    levelA := false, levelB := false, index := false }

/-- R21; section 1.3. -/
def SnapBuffer.reset : SnapBuffer :=
  { empty := true, seq := 0, counts := .ofFn fun _ => 0, speeds := .ofFn fun _ => 0, accumulator := 0, uptime := 0,
    nextSeq := 0 }

/-- R21. -/
def Ctu.reset : Ctu :=
  { chans := .ofFn fun _ => Channel.reset, accumulator := 0, remainder := 0, source := .gnd, markProgress := 0,
    groundFault := false, condition := false, persistence := 0, uptime := 0, snaps := .ofFn fun _ => SnapBuffer.reset }

/-- An inactive lane is published with all fields 0. -/
def LaneReq.inactive : LaneReq := { active := false, demand := 0, floor := 0, flow := 0 }

/-- An IDLE lane has grant 0 and granted flow 0. -/
def LaneOut.idle : LaneOut := { state := .idle, grant := 0, flow := 0 }

/-- R46. -/
def Lane.reset : Lane :=
  { req := LaneReq.inactive, out := LaneOut.idle, demandClamp := false, flowClamp := false, levelClamp := false }

/-- R46. -/
def Pba.reset : Pba :=
  { available := 0, pressTraction := 0, pressImplement := 0, pressFan := 0, ambient := none, freshness := .stale,
    freshTimer := none, budgetClamp := false, lanes := .ofFn fun _ => Lane.reset, slack := 0, shedCount := 0,
    budgetInEffect := 0, allocNumber := 0, allocTimer := none }

/-- A profile never written: all fields 0, not valid (R58). -/
def Profile.invalid : Profile :=
  { valid := false, s0 := 0, s1 := 0, s2 := 0, s3 := 0, m0 := 0, m1 := 0, m2 := 0, m3 := 0, a0 := 0, a1 := 0, a2 := 0,
    a3 := 0, maxSweep := 0, fanRpm := 0, dose := .ofFn fun _ => 0 }

/-- R58. -/
def Pft.reset : Pft := { profiles := Vector.replicate 8 Profile.invalid, active := 0 }

/-- R77. That the brush-sufficiency cap as last read is none is the model's choice: neither R77 nor the table of section 4.1
lists it (log entry 18). -/
def Tgv.reset : Tgv :=
  { mode := .parked, direction := .fwd, reqDirection := .fwd, reqSpeed := 0, segCap := none, stopRequest := false,
    stopReported := false, awaitingZero := false, demandSpeed := 0, tractionCap := none, brushCapRead := none,
    targetSpeed := 0, commandedSpeed := 0, pumpFwd := 0, pumpRev := 0, motor := 0, updateTimer := none }

/-- R100. -/
def Arm.reset : Arm :=
  { state := .stowed, phase := .slew, cause := .none, slewTarget := 0, onTarget := false, deployPending := false,
    rpm := 0, moveTimer := none, stallTimer := 0, stallCount := 0, slewPlus := 0, slewMinus := 0, liftUp := false,
    liftDown := false, brushLevel := 0, upSw := false, downSw := false }

/-- R100. -/
def Pickup.reset : Pickup :=
  { state := .up, cause := .none, mainRpm := 0, fanRpm := 0, moveTimer := none, stallTimer := 0, stallCount := 0,
    raiseValve := false, lowerValve := false, mainLevel := 0, fanLevel := 0, upSw := false, downSw := false }

/-- R100. -/
def Arc.reset : Arc :=
  { left := Arm.reset, right := Arm.reset, pickup := Pickup.reset, cap := none, updateTimer := none }

/-- R112. -/
def Clt.reset : Clt := .ofFn fun _ => .free

/-- R131 with STOPIN released: T3 is false, since the default minimum spray speed is above 0; T7 is true. -/
def Bank.reset : Bank :=
  { enabled := false, dose := none, doseInEffect := 0, width := 0, widthClamp := false,
    terms := { t1 := false, t2 := false, t3 := false, t4 := false, t5 := false, t6 := false, t7 := true },
    firstFailing := none, valve := false, pulseTimer := none, openTime := 0, remainder := 0, doseShort := false }

/-- R131. -/
def Spc.reset : Spc := { banks := .ofFn fun _ => Bank.reset, estimate := 0, pumpLevel := 0 }

/-- All request fields 0 (R156): arm settings STOW with angle 0, pickup UP, no bank, dose override 0; a speed cap of 0
is absent. -/
def Request.zero : Request :=
  { lengthMm := 0,
    settings := { speedCap := none, profile := 0, left := .stow, leftAngle := some 0, right := .stow,
                  rightAngle := some 0, pickup := .up, spray := some 0, dose := some 0 },
    endAction := .cont, last := false }

def SegFlags.clear : SegFlags :=
  { overL := false, overR := false, overPickup := false, overSpray := false, staleSeen := false, shedSeen := false,
    doseShortSeen := false, stoppedByInput := false }

def SegFigures.zero : SegFigures := { distance := 0, leadIn := 0, water := 0, stalls := 0, flags := SegFlags.clear }

/-- R156. -/
def Descriptor.reset : Descriptor := { owner := .master, request := Request.zero, result := none }

/-- R156. -/
def Sge.reset : Sge :=
  { ring := Vector.replicate 32 Descriptor.reset, state := .idle, suspendCause := .none, returnState := .none,
    cursor := 0, present := false, startPort := .none, settings := none, figures := SegFigures.zero, unplanned := 0,
    completed := 0, endKind := .none }

/-- The EMPTY response: status EMPTY, command code 0, no payload (R162). -/
def Response.emptyFrame : Response := { status := .empty, code := 0, payload := [] }

/-- R172, PRSTN released: the silence timer runs at 1000 ms. -/
def Port.reset : Port :=
  { response := Response.emptyFrame, held := none, notices := 0, mask := BitVec.allOnes 17, link := .active,
    inReset := false, silenceTimer := some 1000, shifted := [] }

/-- R179. -/
def Cfs.reset : Cfs :=
  { ready := false, pendingSet := Params.defaults, activeSet := none, commitResult := .none }

/-- The part right after power-on reset, with RSTN and every PRSTN released, STOPIN released and every other input
inactive (log entries 5 and 6), and no command waiting. -/
def State.reset : State :=
  { rstnHeld := false, stopin := false, ctu := Ctu.reset, pba := Pba.reset, pft := Pft.reset, tgv := Tgv.reset,
    arc := Arc.reset, clt := Clt.reset, spc := Spc.reset, sge := Sge.reset, ports := .ofFn fun _ => Port.reset,
    cfs := Cfs.reset, raceCount := 0, pending := [] }

end Sys2Proof.Machine
end

