-- ==== Sys2Proof/Decode.lean ====
section
/-! DEFINITION. From the bytes clocked in during one transaction to the command they are (R157 to R160, R180, R183),
and back; the byte order and the CRC of the ports; the reading of a table word. -/

namespace Sys2Proof

/-! ## Byte order (R180: two and four bytes most significant byte first, signed fields two's complement) -/

/-- Two bytes, most significant first. -/
def be16 (n : Nat) : List Byte := [BitVec.ofNat 8 (n / 256), BitVec.ofNat 8 n]

/-- Three bytes, most significant first: the model's choice for a field of three bytes, since R180 gives the order of fields of
two and four bytes only (log entry 38). -/
def be24 (n : Nat) : List Byte := [BitVec.ofNat 8 (n / 65536), BitVec.ofNat 8 (n / 256), BitVec.ofNat 8 n]

/-- Four bytes, most significant first. -/
def be32 (n : Nat) : List Byte :=
  [BitVec.ofNat 8 (n / 16777216), BitVec.ofNat 8 (n / 65536), BitVec.ofNat 8 (n / 256), BitVec.ofNat 8 n]

/-- A signed number in two bytes. -/
def sbe16 (i : Int) : List Byte := be16 (BitVec.ofInt 16 i).toNat

/-- A signed number in four bytes. -/
def sbe32 (i : Int) : List Byte := be32 (BitVec.ofInt 32 i).toNat

/-- A signed number in one byte. -/
def sbe8 (i : Int) : Byte := BitVec.ofInt 8 i

/-- The unsigned number in two bytes. -/
def u16 (hi lo : Byte) : Nat := hi.toNat * 256 + lo.toNat

/-- The signed number in two bytes. -/
def s16 (hi lo : Byte) : Int := (BitVec.ofNat 16 (u16 hi lo)).toInt

/-- The unsigned number in three bytes, most significant first: the model's choice (log entry 38). -/
def u24 (a b c : Byte) : Nat := a.toNat * 65536 + b.toNat * 256 + c.toNat

/-- The unsigned number in four bytes. -/
def u32 (a b c d : Byte) : Nat := a.toNat * 16777216 + b.toNat * 65536 + c.toNat * 256 + d.toNat

/-- The signed number in four bytes. -/
def s32 (a b c d : Byte) : Int := (BitVec.ofNat 32 (u32 a b c d)).toInt

/-- A number of one byte. -/
def byteOf (n : Nat) : Byte := BitVec.ofNat 8 n

/-- A bit field: bit k of the byte is the k-th entry (R181). -/
def bitsByte : List Bool → Byte
  | [] => 0
  | b :: rest => (bitsByte rest <<< 1) ||| (if b then 1 else 0)

/-! ## CRC (R159) -/

/-- One step of the CRC register. -/
def crcStep (r : Byte) : Byte := if r.msb then (r <<< 1) ^^^ 0x2F else r <<< 1

/-- One byte into the CRC register. -/
def crcByte (r b : Byte) : Byte :=
  crcStep (crcStep (crcStep (crcStep (crcStep (crcStep (crcStep (crcStep (r ^^^ b))))))))

/-- The CRC of a list of bytes, in the order sent. -/
def crc (bytes : List Byte) : Byte := bytes.foldl crcByte 0

/-! ## Frames (R158, R180) -/

/-- A request frame: command code, payload length, payload, CRC (R180). -/
def requestFrame (code : Byte) (payload : List Byte) : List Byte :=
  let head := code :: byteOf payload.length :: payload
  head ++ [crc head]

/-- The status a frame is refused with by the shape check and then the CRC check, or `none` for a valid frame (R158).
Only the first 32 bytes clocked in are kept (R157). -/
def frameFault (bytes : List Byte) : Option Machine.Status :=
  match bytes.take 32 with
  | code :: n :: rest =>
    if 28 < n.toNat ∨ rest.length < n.toNat + 1 then some .length
    else if rest.getD n.toNat 0 = crc (code :: n :: rest.take n.toNat) then none
    else some .crc
  | _ => some .length

/-- The first byte clocked in, or 0 where none came (R158). -/
def firstByte (bytes : List Byte) : Byte := bytes.headD 0

/-- The payload of a valid frame. -/
def payloadOf (bytes : List Byte) : List Byte := (bytes.drop 2).take (bytes.getD 1 0).toNat

/-- How many bytes were clocked in beyond the frame (padding, R158). -/
def paddingOf (bytes : List Byte) : Nat := bytes.length - ((bytes.getD 1 0).toNat + 3)

/-- The number of bytes clocked in with a frame: command code, length, payload, CRC and padding. -/
def Frame.size (f : Frame) : Nat := f.payload.length + 3 + f.padding

/-! ## Commands (R161, R183) -/

/-- The commands of the code table of R183. -/
inductive Cmd where
  | nop | noticeRead | noticeMask
  | readCount | readSnap | readLanes | profileRead | travelRead | armRead | claimRead | sprayRead | descRead | pgmRead
  | cfgRead
  | snapshot
  | chEnable | chDisable | setCount | chClear | gndFaultClear
  | budget | tank | lanesClear
  | cfgWrite | cfgCommit
  | travelReq | claim | take | release | armSet | armClear | pickupSet | spraySet | profileSelect
  | profileWrite | descWrite | descReturn | pgmStart | pgmPoll | pgmSuspend | pgmResume | pgmAbort
  deriving DecidableEq, Repr

/-- Every command, in code order. -/
def Cmd.list : List Cmd :=
  [.nop, .noticeRead, .noticeMask, .readCount, .readSnap, .readLanes, .profileRead, .travelRead, .armRead, .claimRead,
    .sprayRead, .descRead, .pgmRead, .cfgRead, .snapshot, .chEnable, .chDisable, .setCount, .chClear, .gndFaultClear,
    .budget, .tank, .lanesClear, .cfgWrite, .cfgCommit, .travelReq, .claim, .take, .release, .armSet, .armClear,
    .pickupSet, .spraySet, .profileSelect, .profileWrite, .descWrite, .descReturn, .pgmStart, .pgmPoll, .pgmSuspend,
    .pgmResume, .pgmAbort]

/-- Command codes (R183). -/
def Cmd.code : Cmd → Byte
  | .nop => 0x00
  | .noticeRead => 0x01
  | .noticeMask => 0x02
  | .readCount => 0x10
  | .readSnap => 0x11
  | .readLanes => 0x12
  | .profileRead => 0x13
  | .travelRead => 0x14
  | .armRead => 0x15
  | .claimRead => 0x16
  | .sprayRead => 0x17
  | .descRead => 0x18
  | .pgmRead => 0x19
  | .cfgRead => 0x1A
  | .snapshot => 0x20
  | .chEnable => 0x30
  | .chDisable => 0x31
  | .setCount => 0x32
  | .chClear => 0x33
  | .gndFaultClear => 0x34
  | .budget => 0x38
  | .tank => 0x39
  | .lanesClear => 0x3A
  | .cfgWrite => 0x3C
  | .cfgCommit => 0x3D
  | .travelReq => 0x40
  | .claim => 0x41
  | .take => 0x42
  | .release => 0x43
  | .armSet => 0x44
  | .armClear => 0x45
  | .pickupSet => 0x46
  | .spraySet => 0x47
  | .profileSelect => 0x48
  | .profileWrite => 0x50
  | .descWrite => 0x51
  | .descReturn => 0x52
  | .pgmStart => 0x53
  | .pgmPoll => 0x54
  | .pgmSuspend => 0x55
  | .pgmResume => 0x56
  | .pgmAbort => 0x57

/-- Request payload lengths (R183, column "Req"). -/
def Cmd.reqLen : Cmd → Nat
  | .noticeMask => 3
  | .readCount | .profileRead | .descRead | .cfgRead => 1
  | .chEnable | .chDisable | .chClear => 1
  | .setCount => 5
  | .budget => 9
  | .tank => 4
  | .cfgWrite => 5
  | .travelReq => 4
  | .claim | .take | .release => 1
  | .armSet => 4
  | .armClear | .pickupSet => 1
  | .spraySet => 3
  | .profileSelect => 1
  | .profileWrite => 28
  | .descWrite => 18
  | .descReturn | .pgmStart => 1
  | .nop | .noticeRead | .readSnap | .readLanes | .travelRead | .armRead | .claimRead | .sprayRead | .pgmRead => 0
  | .snapshot | .gndFaultClear | .lanesClear | .cfgCommit => 0
  | .pgmPoll | .pgmSuspend | .pgmResume | .pgmAbort => 0

/-- The columns of the permission matrix (R161). -/
inductive Senders where
  | any | chassisOnly | cabOnly | cabAndRoute
  deriving DecidableEq, Repr

/-- The ports from which a command is allowed (R161). -/
def Cmd.senders : Cmd → Senders
  | .chEnable | .chDisable | .setCount | .chClear | .gndFaultClear => .chassisOnly
  | .budget | .tank | .lanesClear | .cfgWrite | .cfgCommit => .chassisOnly
  | .travelReq | .claim | .take | .release | .armSet | .armClear | .pickupSet | .spraySet | .profileSelect => .cabOnly
  | .profileWrite | .descWrite | .descReturn | .pgmStart | .pgmPoll | .pgmSuspend | .pgmResume | .pgmAbort => .cabAndRoute
  | _ => .any

/-- The permission matrix (R161). -/
def Cmd.allowed (c : Cmd) (p : PortId) : Bool :=
  match c.senders with
  | .any => true
  | .chassisOnly => p == .chassis
  | .cabOnly => p == .cab
  | .cabAndRoute => p != .chassis

/-- Is the command a link command, a read, CFG_WRITE or CFG_COMMIT, which UNCONFIGURED takes too (R160, test 4)? -/
def Cmd.inUnconfigured : Cmd → Bool
  | .nop | .noticeRead | .noticeMask => true
  | .readCount | .readSnap | .readLanes | .profileRead | .travelRead | .armRead | .claimRead | .sprayRead => true
  | .descRead | .pgmRead | .cfgRead | .cfgWrite | .cfgCommit => true
  | _ => false

/-- The command a code names, or `none` (R160, test 1). -/
def Cmd.ofCode (code : Byte) : Option Cmd := Cmd.list.find? fun c => c.code == code

/-- The row of the table that a request of a command is. ARM_SET and PICKUP_SET have a row for each action; a request
whose action byte names no action, or whose payload has not the command's length, is refused before any action and is
counted to the rows ARM_SET_DEPLOY and PICKUP_SET_UP (log entry 24). -/
def Cmd.toInstr (c : Cmd) (f : Frame) : Instr :=
  match c with
  | .nop => .nop f
  | .noticeRead => .noticeRead f
  | .noticeMask => .noticeMask f
  | .readCount => .readCount f
  | .readSnap => .readSnap f
  | .readLanes => .readLanes f
  | .profileRead => .profileRead f
  | .travelRead => .travelRead f
  | .armRead => .armRead f
  | .claimRead => .claimRead f
  | .sprayRead => .sprayRead f
  | .descRead => .descRead f
  | .pgmRead => .pgmRead f
  | .cfgRead => .cfgRead f
  | .snapshot => .snapshot f
  | .chEnable => .chEnable f
  | .chDisable => .chDisable f
  | .setCount => .setCount f
  | .chClear => .chClear f
  | .gndFaultClear => .gndFaultClear f
  | .budget => .budget f
  | .tank => .tank f
  | .lanesClear => .lanesClear f
  | .cfgWrite => .cfgWrite f
  | .cfgCommit => .cfgCommit f
  | .travelReq => .travelReq f
  | .claim => .claim f
  | .take => .take f
  | .release => .release f
  | .armSet =>
    if f.payload.length = 4 ∧ f.payload.getD 1 0 = 1 then .armSetRetarget f
    else if f.payload.length = 4 ∧ f.payload.getD 1 0 = 2 then .armSetStow f
    else .armSetDeploy f
  | .armClear => .armClear f
  | .pickupSet => if f.payload = [1] then .pickupSetWork f else .pickupSetUp f
  | .spraySet => .spraySet f
  | .profileSelect => .profileSelect f
  | .profileWrite => .profileWrite f
  | .descWrite => .descWrite f
  | .descReturn => .descReturn f
  | .pgmStart => .pgmStart f
  | .pgmPoll => .pgmPoll f
  | .pgmSuspend => .pgmSuspend f
  | .pgmResume => .pgmResume f
  | .pgmAbort => .pgmAbort f

/-- The command that a valid frame with this code is. -/
def instrOf (code : Byte) (f : Frame) : Instr :=
  match Cmd.ofCode code with
  | some c => c.toInstr f
  | none => .unknownCommand code f

/-- The command that the bytes clocked in during one SELN low period are: none where no byte was clocked, which is not a
transaction (R157). -/
def decodeTransaction (port : PortId) (bytes : List Byte) : Option Instr :=
  if bytes = [] then none
  else
    match frameFault bytes with
    | some _ => some (.badFrame port bytes)
    | none => some (instrOf (firstByte bytes) ⟨port, payloadOf bytes, paddingOf bytes⟩)

/-- The command code and the frame of a request, for the transactions that carry a valid frame. -/
def Instr.request : Instr → Option (Byte × Frame)
  | .nop f => some (Cmd.nop.code, f)
  | .unknownCommand c f => some (c, f)
  | .noticeRead f => some (Cmd.noticeRead.code, f)
  | .noticeMask f => some (Cmd.noticeMask.code, f)
  | .readCount f => some (Cmd.readCount.code, f)
  | .readSnap f => some (Cmd.readSnap.code, f)
  | .readLanes f => some (Cmd.readLanes.code, f)
  | .profileRead f => some (Cmd.profileRead.code, f)
  | .travelRead f => some (Cmd.travelRead.code, f)
  | .armRead f => some (Cmd.armRead.code, f)
  | .claimRead f => some (Cmd.claimRead.code, f)
  | .sprayRead f => some (Cmd.sprayRead.code, f)
  | .descRead f => some (Cmd.descRead.code, f)
  | .pgmRead f => some (Cmd.pgmRead.code, f)
  | .cfgRead f => some (Cmd.cfgRead.code, f)
  | .snapshot f => some (Cmd.snapshot.code, f)
  | .chEnable f => some (Cmd.chEnable.code, f)
  | .chDisable f => some (Cmd.chDisable.code, f)
  | .setCount f => some (Cmd.setCount.code, f)
  | .chClear f => some (Cmd.chClear.code, f)
  | .gndFaultClear f => some (Cmd.gndFaultClear.code, f)
  | .budget f => some (Cmd.budget.code, f)
  | .tank f => some (Cmd.tank.code, f)
  | .lanesClear f => some (Cmd.lanesClear.code, f)
  | .cfgWrite f => some (Cmd.cfgWrite.code, f)
  | .cfgCommit f => some (Cmd.cfgCommit.code, f)
  | .travelReq f => some (Cmd.travelReq.code, f)
  | .claim f => some (Cmd.claim.code, f)
  | .take f => some (Cmd.take.code, f)
  | .release f => some (Cmd.release.code, f)
  | .armSetDeploy f => some (Cmd.armSet.code, f)
  | .armSetRetarget f => some (Cmd.armSet.code, f)
  | .armSetStow f => some (Cmd.armSet.code, f)
  | .armClear f => some (Cmd.armClear.code, f)
  | .pickupSetWork f => some (Cmd.pickupSet.code, f)
  | .pickupSetUp f => some (Cmd.pickupSet.code, f)
  | .spraySet f => some (Cmd.spraySet.code, f)
  | .profileSelect f => some (Cmd.profileSelect.code, f)
  | .profileWrite f => some (Cmd.profileWrite.code, f)
  | .descWrite f => some (Cmd.descWrite.code, f)
  | .descReturn f => some (Cmd.descReturn.code, f)
  | .pgmStart f => some (Cmd.pgmStart.code, f)
  | .pgmPoll f => some (Cmd.pgmPoll.code, f)
  | .pgmSuspend f => some (Cmd.pgmSuspend.code, f)
  | .pgmResume f => some (Cmd.pgmResume.code, f)
  | .pgmAbort f => some (Cmd.pgmAbort.code, f)
  | .badFrame _ _ => none
  | .quadratureChange _ _ _ => none
  | .pulseRisingEdge _ => none
  | .indexActive _ => none
  | .indexInactive _ => none
  | .positionSwitchChange _ _ _ => none
  | .stopinAsserted => none
  | .stopinReleased => none
  | .prstnAsserted _ => none
  | .prstnReleased _ => none
  | .fullReset _ => none
  | .rstnRelease => none
  | .uptimeTick => none
  | .gateExpiry _ => none
  | .freshnessExpiry => none
  | .allocationPeriodExpiry => none
  | .travelUpdate => none
  | .armUpdate => none
  | .moveTimerExpiry _ => none
  | .pulseTimerExpiry _ => none
  | .silenceTimerExpiry _ => none

/-- The port and the bytes that a master clocks in to send a command: the frame and as many zero bytes as the command
has padding, or the very bytes of a BAD_FRAME; none for the commands that are no transaction. -/
def encodeTransaction (i : Instr) : Option (PortId × List Byte) :=
  match i with
  | .badFrame port bytes => some (port, bytes)
  | _ =>
    match i.request with
    | some (code, f) => some (f.port, requestFrame code f.payload ++ List.replicate f.padding 0)
    | none => none

/-- No row of spec/opcode_table.json gives bits, so no word of the table spells a command (log entry 28). -/
def decodeTableWord (_nbits _w : Nat) : Option Instr := none

end Sys2Proof
end

