-- ==== Sys2Proof/Machine/Operands.lean ====
section
/-! DEFINITION. The operand forms of the requests and the codes of the enumerated sets (R181, R184, R185): what each
payload byte names, what each value reads as, the twelve-bit pairs of the profile record, the descriptor. -/

namespace Sys2Proof.Machine

/-! ## Codes that a request carries (R185); `none` where a code names nothing -/

/-- Channel number 0 to 7. -/
def chanOf (b : Byte) : Option ChanId :=
  match b.toNat with
  | 0 => some .gnd
  | 1 => some .tmot
  | 2 => some .bmain
  | 3 => some .barml
  | 4 => some .barmr
  | 5 => some .slewl
  | 6 => some .slewr
  | 7 => some .fan
  | _ => none

/-- Arm code. -/
def sideOf (b : Byte) : Option Side :=
  match b.toNat with
  | 0 => some .left
  | 1 => some .right
  | _ => none

/-- Arm action code. -/
inductive ArmAction where
  | deploy | retarget | stow
  deriving DecidableEq, Repr

def armActionOf (b : Byte) : Option ArmAction :=
  match b.toNat with
  | 0 => some .deploy
  | 1 => some .retarget
  | 2 => some .stow
  | _ => none

/-- Pickup action code. -/
inductive PickupAction where
  | up | work
  deriving DecidableEq, Repr

def pickupActionOf (b : Byte) : Option PickupAction :=
  match b.toNat with
  | 0 => some .up
  | 1 => some .work
  | _ => none

/-- Resource code. -/
def resourceOf (b : Byte) : Option Resource :=
  match b.toNat with
  | 0 => some .armL
  | 1 => some .armR
  | 2 => some .pickup
  | 3 => some .spray
  | _ => none

/-- Travel mode code. -/
def modeOf (b : Byte) : Option TravelMode :=
  match b.toNat with
  | 0 => some .parked
  | 1 => some .sweep
  | 2 => some .transport
  | _ => none

/-- Direction code. -/
def directionOf (b : Byte) : Option Direction :=
  match b.toNat with
  | 0 => some .fwd
  | 1 => some .rev
  | _ => none

/-- Arm setting code of a descriptor. -/
def armSettingOf (b : Byte) : Option ArmSetting :=
  match b.toNat with
  | 0 => some .stow
  | 1 => some .work
  | 2 => some .keep
  | _ => none

/-- Pickup setting code of a descriptor. -/
def pickupSettingOf (b : Byte) : Option PickupSetting :=
  match b.toNat with
  | 0 => some .up
  | 1 => some .work
  | 2 => some .keep
  | _ => none

/-- End action code of a descriptor. -/
def endActionOf (b : Byte) : Option EndAction :=
  match b.toNat with
  | 0 => some .cont
  | 1 => some .pause
  | 2 => some .stop
  | _ => none

/-- The spray byte of a descriptor: a mask 0 to 15, 255 for KEEP, nothing else (section 11.3.3). -/
def sprayOf (b : Byte) : Option (Option (BitVec 4)) :=
  if b.toNat ≤ 15 then some (some (BitVec.ofNat 4 b.toNat))
  else if b = 255 then some none
  else none

/-- An angle field: −32768 is absent (R181). -/
def angleOf (hi lo : Byte) : Option Int := if s16 hi lo = -32768 then none else some (s16 hi lo)

/-- A dose field: 65535 is absent (R181). -/
def doseOf (hi lo : Byte) : Option Nat := if u16 hi lo = 65535 then none else some (u16 hi lo)

/-- A speed cap field: 0 is absent (R181). -/
def speedCapOf (hi lo : Byte) : Option Nat := if u16 hi lo = 0 then none else some (u16 hi lo)

/-- The ambient of a BUDGET frame: −128 is "not supplied" (R181). -/
def ambientOf (b : Byte) : Option Int := if b.toInt = -128 then none else some b.toInt

/-- A profile index 0 to 7. -/
def profileIndexOf (b : Byte) : Option (Fin 8) := if h : b.toNat < 8 then some ⟨b.toNat, h⟩ else none

/-- A descriptor index 0 to 31. -/
def descIndexOf (b : Byte) : Option (Fin 32) := if h : b.toNat < 32 then some ⟨b.toNat, h⟩ else none

/-- A parameter id 0 to 63. -/
def paramIdOf (b : Byte) : Option (Fin 64) := if h : b.toNat < 64 then some ⟨b.toNat, h⟩ else none

/-! ## Numbers of the codes in read contents (R185) -/

def ChanId.num : ChanId → Nat
  | .gnd => 0
  | .tmot => 1
  | .bmain => 2
  | .barml => 3
  | .barmr => 4
  | .slewl => 5
  | .slewr => 6
  | .fan => 7

def Status.num : Status → Nat
  | .ok => 0
  | .clamped => 1
  | .empty => 2
  | .crc => 3
  | .length => 4
  | .unknown => 5
  | .denied => 6
  | .state => 7
  | .range => 8
  | .claimed => 9
  | .owned => 10
  | .inUse => 11

def TravelMode.num : TravelMode → Nat
  | .parked => 0
  | .sweep => 1
  | .transport => 2

def ArmSetting.num : ArmSetting → Nat
  | .stow => 0
  | .work => 1
  | .keep => 2

def PickupSetting.num : PickupSetting → Nat
  | .up => 0
  | .work => 1
  | .keep => 2

def EndAction.num : EndAction → Nat
  | .cont => 0
  | .pause => 1
  | .stop => 2

def Holder.num : Holder → Nat
  | .none => 0
  | .cab => 1
  | .program => 2

def LaneState.num : LaneState → Nat
  | .idle => 0
  | .full => 1
  | .part => 2
  | .starved => 3

def ArmState.num : ArmState → Nat
  | .stowed => 0
  | .homing => 1
  | .deploying => 2
  | .working => 3
  | .lifting => 4
  | .fault => 5

def Phase.num : Phase → Nat
  | .slew => 0
  | .lower => 1
  | .spinup => 2

def Cause.num : Cause → Nat
  | .none => 0
  | .command => 1
  | .stop => 2
  | .stall => 3
  | .starved => 4
  | .claimLoss => 5
  | .reference => 6
  | .timeout => 7
  | .switch => 8

def PickupState.num : PickupState → Nat
  | .up => 0
  | .lowering => 1
  | .working => 2
  | .raising => 3
  | .fault => 4

def EngineState.num : EngineState → Nat
  | .idle => 0
  | .running => 1
  | .suspended => 2
  | .starved => 3
  | .stopping => 4

def SuspendCause.num : SuspendCause → Nat
  | .none => 0
  | .command => 1
  | .pauseEnd => 2
  | .stopInput => 3

def ReturnState.num : ReturnState → Nat
  | .none => 0
  | .running => 1
  | .starved => 2

def StartPort.num : StartPort → Nat
  | .none => 0
  | .cab => 1
  | .route => 2

def EndKind.num : EndKind → Nat
  | .none => 0
  | .last => 1
  | .stop => 2
  | .abort => 3

def CommitResult.num : CommitResult → Nat
  | .none => 0
  | .slewLimits => 1
  | .transportMax => 2
  | .tractionFloor => 3
  | .fallback => 4

/-- The number of a permissive term (section 11.3.4); 0 is none. -/
def termNum : Option Term → Nat
  | none => 0
  | some .t1 => 1
  | some .t2 => 2
  | some .t3 => 3
  | some .t4 => 4
  | some .t5 => 5
  | some .t6 => 6
  | some .t7 => 7

def SegStatus.num : SegStatus → Nat
  | .done => 0
  | .aborted => 1

/-! ## The profile record (section 11.3.2) -/

/-- A twelve-bit pair in three bytes (R181). -/
def pair12 (b0 b1 b2 : Byte) : Nat × Nat := (b0.toNat * 16 + b1.toNat / 16, b1.toNat % 16 * 256 + b2.toNat)

/-- The k-th pair of a record. -/
def pairAt (record : List Byte) (k : Nat) : Nat × Nat :=
  pair12 (record.getD (3 * k) 0) (record.getD (3 * k + 1) 0) (record.getD (3 * k + 2) 0)

/-- The three bytes of a pair. -/
def pair12Bytes (x y : Nat) : List Byte := [byteOf (x / 16), byteOf (x % 16 * 16 + y / 256), byteOf y]

/-- The profile that 27 bytes spell, as it is stored: valid. -/
def profileOf (record : List Byte) : Profile :=
  { valid := true,
    s0 := (pairAt record 0).1, s1 := (pairAt record 0).2, s2 := (pairAt record 1).1, s3 := (pairAt record 1).2,
    m0 := (pairAt record 2).1, m1 := (pairAt record 2).2, m2 := (pairAt record 3).1, m3 := (pairAt record 3).2,
    a0 := (pairAt record 4).1, a1 := (pairAt record 4).2, a2 := (pairAt record 5).1, a3 := (pairAt record 5).2,
    maxSweep := (pairAt record 6).1, fanRpm := (pairAt record 6).2,
    dose := ⟨(pairAt record 7).1, (pairAt record 7).2, (pairAt record 8).1, (pairAt record 8).2⟩ }

/-- The 27 bytes of a profile record. -/
def Profile.bytes (p : Profile) : List Byte :=
  pair12Bytes p.s0 p.s1 ++ pair12Bytes p.s2 p.s3 ++ pair12Bytes p.m0 p.m1 ++ pair12Bytes p.m2 p.m3 ++
    pair12Bytes p.a0 p.a1 ++ pair12Bytes p.a2 p.a3 ++ pair12Bytes p.maxSweep p.fanRpm ++
    pair12Bytes p.dose.b0 p.dose.b1 ++ pair12Bytes p.dose.b2 p.dose.b3

/-! ## The descriptor (section 11.3.3) -/

/-- The codes of a DESC_WRITE, decoded after the range tests of R133. -/
structure DescFields where
  index : Byte
  length : Nat
  speedCap : Option Nat
  profile : Byte
  left : Byte
  leftAngle : Option Int
  right : Byte
  rightAngle : Option Int
  pickup : Byte
  spray : Byte
  dose : Option Nat
  endAction : Byte
  control : Byte
  deriving DecidableEq, Repr

/-- The fields of the 18 payload bytes of DESC_WRITE. -/
def descFields (p : List Byte) : DescFields :=
  { index := p.getD 0 0, length := u16 (p.getD 1 0) (p.getD 2 0), speedCap := speedCapOf (p.getD 3 0) (p.getD 4 0),
    profile := p.getD 5 0, left := p.getD 6 0, leftAngle := angleOf (p.getD 7 0) (p.getD 8 0), right := p.getD 9 0,
    rightAngle := angleOf (p.getD 10 0) (p.getD 11 0), pickup := p.getD 12 0, spray := p.getD 13 0,
    dose := doseOf (p.getD 14 0) (p.getD 15 0), endAction := p.getD 16 0, control := p.getD 17 0 }

/-- An angle as a field: absent is −32768 (R181). -/
def angleBytes (a : Option Int) : List Byte := sbe16 (a.getD (-32768))

/-- A dose as a field: absent, or PROFILE, is 65535 (R181). -/
def doseBytes (d : Option Nat) : List Byte := be16 (d.getD 65535)

/-- The spray byte: 255 for KEEP. -/
def sprayByte : Option (BitVec 4) → Byte
  | none => 255
  | some m => byteOf m.toNat

/-- Descriptor offsets 5 to 15: profile through dose override. -/
def Settings.bytes (s : Settings) : List Byte :=
  [byteOf s.profile.val, byteOf s.left.num] ++ angleBytes s.leftAngle ++ [byteOf s.right.num] ++ angleBytes s.rightAngle ++
    [byteOf s.pickup.num, sprayByte s.spray] ++ doseBytes s.dose

/-- Descriptor offsets 1 to 17, with the length in m and hand-over reading 0. -/
def Request.bytes (r : Request) : List Byte :=
  be16 (r.lengthMm / 1000) ++ be16 (r.settings.speedCap.getD 0) ++ r.settings.bytes ++
    [byteOf r.endAction.num, bitsByte [r.last]]

/-- The flag byte of a segment result, bits 0 to 7. -/
def SegFlags.byte (f : SegFlags) : Byte :=
  bitsByte [f.overL, f.overR, f.overPickup, f.overSpray, f.staleSeen, f.shedSeen, f.doseShortSeen, f.stoppedByInput]

/-- The 15 bytes of a result part; absent reads as zeros. -/
def resultBytes : Option SegResult → List Byte
  | none => List.replicate 15 0
  | some r =>
    [byteOf r.status.num] ++ be32 r.figures.distance ++ be32 r.figures.leadIn ++ be32 r.figures.water ++
      [byteOf r.figures.stalls, r.figures.flags.byte]

end Sys2Proof.Machine
end

