-- ==== Sys2Proof/Machine/Flags.lean ====
section
/-! DEFINITION. Every flag the machine raises for its masters: the notice sets and ATTN of the ports (R164, R165) and the
sticky clamp flags of the lanes (R41), with the CLAMP notice a flag posts as it goes from clear to set. -/

namespace Sys2Proof.Machine

/-! ## Notices (Chapter 9.5) -/

/-- The seventeen notice kinds, in the order of their numbers (R185). -/
inductive Notice where
  | cfgDone | budgetStale | laneShed | laneReadmit | clamp | armStall | armFault | claimLost | segDone | pgmStarved
  | pgmSuspended | pgmEnd | sprayBlock | doseShort | tankReserve | stopInput | groundFault
  deriving DecidableEq, Repr

/-- The bit of a kind in a notice set or mask (R185). -/
def Notice.num : Notice → Nat
  | .cfgDone => 0
  | .budgetStale => 1
  | .laneShed => 2
  | .laneReadmit => 3
  | .clamp => 4
  | .armStall => 5
  | .armFault => 6
  | .claimLost => 7
  | .segDone => 8
  | .pgmStarved => 9
  | .pgmSuspended => 10
  | .pgmEnd => 11
  | .sprayBlock => 12
  | .doseShort => 13
  | .tankReserve => 14
  | .stopInput => 15
  | .groundFault => 16

/-- The set that holds one kind alone. -/
def Notice.set (k : Notice) : BitVec 17 := BitVec.twoPow 17 k.num

/-- Post a kind into one port's notice set, if `on`; a kind already there stays once (R164). -/
def Port.postIf (p : Port) (k : Notice) (on : Bool) : Port :=
  { p with notices := if on then p.notices ||| k.set else p.notices }

/-- Post a kind to all three ports, if `on`. -/
def postAllIf (ps : PerPort Port) (k : Notice) (on : Bool) : PerPort Port :=
  { cab := ps.cab.postIf k on, chassis := ps.chassis.postIf k on, route := ps.route.postIf k on }

/-- Post a kind to the notice sets of all three ports, if `on` (R164). -/
def State.postIf (s : State) (k : Notice) (on : Bool) : State := { s with ports := postAllIf s.ports k on }

/-- Post a kind to the notice sets of all three ports (R164). -/
def State.post (s : State) (k : Notice) : State := s.postIf k true

/-- Is a kind in the port's notice set? -/
def Port.hasNotice (p : Port) (k : Notice) : Bool := p.notices &&& k.set != 0

/-- Is ATTN driven low: does a kind stand in both the notice set and the mask (R165)? -/
def Port.attnLow (p : Port) : Bool := p.notices &&& p.mask != 0

/-! ## Lane clamp flags (R41) -/

inductive ClampKind where
  | demand | flow | level
  deriving DecidableEq, Repr

def Lane.clamp (l : Lane) : ClampKind → Bool
  | .demand => l.demandClamp
  | .flow => l.flowClamp
  | .level => l.levelClamp

/-- Set a clamp flag of a lane if a saturation occurred; the flag is sticky (R41). -/
def Lane.raise (l : Lane) (k : ClampKind) (sat : Bool) : Lane :=
  match k with
  | .demand => { l with demandClamp := l.demandClamp || sat }
  | .flow => { l with flowClamp := l.flowClamp || sat }
  | .level => { l with levelClamp := l.levelClamp || sat }

/-- Does the saturation take the flag from clear to set, which posts CLAMP (R41)? -/
def Lane.raises (l : Lane) (k : ClampKind) (sat : Bool) : Bool := sat && !l.clamp k

/-- One lane of the table. -/
def Pba.lane (p : Pba) (l : LaneId) : Lane := p.lanes.get l

/-- Replace one lane of the table. -/
def Pba.setLane (p : Pba) (l : LaneId) (x : Lane) : Pba := { p with lanes := p.lanes.set l x }

/-- A saturation on a lane: the flag is set, and CLAMP is posted where it was clear (R41). -/
def State.raiseClamp (s : State) (l : LaneId) (k : ClampKind) (sat : Bool) : State :=
  { s with
    pba := s.pba.setLane l ((s.pba.lane l).raise k sat)
    ports := postAllIf s.ports .clamp ((s.pba.lane l).raises k sat) }

/-- Is any of the eighteen lane flags or BUDGET_CLAMP set (the summary flag of R44)? -/
def Lane.anyClamp (l : Lane) : Bool := l.demandClamp || l.flowClamp || l.levelClamp

def Pba.anyClamp (p : Pba) : Bool :=
  p.lanes.trac.anyClamp || p.lanes.main.anyClamp || p.lanes.fan.anyClamp || p.lanes.arml.anyClamp ||
    p.lanes.armr.anyClamp || p.lanes.spry.anyClamp || p.budgetClamp

/-- A lane with its three flags cleared (R43). -/
def Lane.clearClamps (l : Lane) : Lane := { l with demandClamp := false, flowClamp := false, levelClamp := false }

end Sys2Proof.Machine
end

