-- ==== Sys2Proof/Machine/Ops.lean ====
section
/-! DEFINITION. Shared operations: the parameters in effect, the three kinds of division (00_scope.md 4.2), the counts
and speeds of the channels, the curves of a profile, the conversions between flow, power and drive level, the events
the engine records, and the publication of a lane. -/

namespace Sys2Proof.Machine

/-! ## Parameters, division -/

/-- The parameters the blocks work from: the active set, and the defaults until the first commit (R174). -/
def State.params (s : State) : Params := s.cfs.activeSet.getD Params.defaults

/-- Division rounding up. -/
def ceilDiv (n d : Nat) : Nat := (n + d - 1) / d

/-- Division rounding to nearest, a tie to the even neighbour; the divisor is positive. -/
def roundDiv (n d : Int) : Int :=
  let q := n / d
  let r := n % d
  if 2 * r < d then q
  else if d < 2 * r then q + 1
  else if q % 2 = 0 then q
  else q + 1

/-- `roundDiv` on natural numbers. -/
def roundDivNat (n d : Nat) : Nat :=
  let q := n / d
  let r := n % d
  if 2 * r < d then q
  else if d < 2 * r then q + 1
  else if q % 2 = 0 then q
  else q + 1

/-- Limit an integer to a range. -/
def limit (lo hi x : Int) : Int := max lo (min hi x)

/-- A tick takes one millisecond off a running timer and leaves one that has run out at 0 (log entry 2). -/
def tickTimer (t : Timer) : Timer := t.map fun n => n - 1

/-- Has a timer run out: does it run, with no whole millisecond left? An expiry acts only then (R25, R122, R168; log entry
3). -/
def Timer.ranOut (t : Timer) : Bool := t == some 0

/-! ## Channels (Chapter 1) -/

/-- The extended count: extension × 65536 + hw count (R3). -/
def Channel.count (c : Channel) : Word := c.ext ++ c.hw

/-- Load hw count and extension from one extended count (R3, R9). -/
def Channel.load (c : Channel) (w : Word) : Channel := { c with hw := w.setWidth 16, ext := (w >>> 16).setWidth 16 }

/-- A count up: the hw count wraps into the extension (R3). -/
def Channel.up (c : Channel) : Channel :=
  { c with hw := c.hw + 1, ext := if c.hw = 65535 then c.ext + 1 else c.ext }

/-- A count down: the hw count wraps out of the extension (R3). -/
def Channel.down (c : Channel) : Channel :=
  { c with hw := c.hw - 1, ext := if c.hw = 0 then c.ext - 1 else c.ext }

def QuadChan.chan : QuadChan → ChanId
  | .gnd => .gnd
  | .tmot => .tmot
  | .slewl => .slewl
  | .slewr => .slewr

def PulseChan.chan : PulseChan → ChanId
  | .bmain => .bmain
  | .barml => .barml
  | .barmr => .barmr
  | .fan => .fan

/-- The slew channel of an arm (R83). -/
def slewChan : Side → ChanId
  | .left => .slewl
  | .right => .slewr

/-- The brush channel of an arm (R83). -/
def brushChan : Side → ChanId
  | .left => .barml
  | .right => .barmr

/-- The lane of an arm (R83). -/
def armLane : Side → LaneId
  | .left => .arml
  | .right => .armr

/-- The side an ANGULAR channel belongs to. -/
def angularSide : ChanId → Option Side
  | .slewl => some .left
  | .slewr => some .right
  | _ => none

/-- The channel that is a distance source. -/
def Source.chan : Source → ChanId
  | .gnd => .gnd
  | .tmot => .tmot

def State.chan (s : State) (c : ChanId) : Channel := s.ctu.chans.get c

def Ctu.setChan (u : Ctu) (c : ChanId) (x : Channel) : Ctu := { u with chans := u.chans.set c x }

def State.setChan (s : State) (c : ChanId) (x : Channel) : State := { s with ctu := s.ctu.setChan c x }

/-- Is the count of a channel held by its index input (R7): enabled, index-clear enable set, index input active? -/
def State.countHeld (s : State) (c : ChanId) : Bool :=
  match angularSide c with
  | some side => (s.chan c).enabled && s.params.indexClear side && (s.chan c).index
  | none => false

/-- The measured travel speed: the speed of the distance source channel (R13). -/
def Ctu.measured (u : Ctu) : Int := (u.chans.get u.source.chan).speed

def State.measured (s : State) : Int := s.ctu.measured

/-- The pitch of the distance source, µm per count (R11). -/
def State.sourcePitch (s : State) : Nat :=
  match s.ctu.source with
  | .gnd => s.params.pitchGnd
  | .tmot => s.params.pitchTmot

/-- The count change of a gate: signed for a quadrature channel, unsigned for a pulse channel (R5). -/
def gateDelta (ch : ChanId) (c : Channel) : Int :=
  match ch with
  | .gnd | .tmot | .slewl | .slewr => (c.count - c.gateRef).toInt
  | .bmain | .barml | .barmr | .fan => ((c.count - c.gateRef).toNat : Int)

/-- The speed of a gate before limiting, by the channel's kind; divisions truncate toward zero (R5). -/
def rawSpeed (p : Params) (ch : ChanId) (delta : Int) : Int :=
  let gate : Int := p.gate ch
  let rotary (cpr : Nat) : Int := (delta * 60000).tdiv (gate * cpr)
  match ch with
  | .gnd => (delta * p.pitchGnd).tdiv gate
  | .tmot => (delta * p.pitchTmot).tdiv gate
  | .bmain => rotary p.cprBmain
  | .barml => rotary p.cprBarml
  | .barmr => rotary p.cprBarmr
  | .fan => rotary p.cprFan
  | .slewl | .slewr => (delta * 1000).tdiv gate

/-- The limited speed (R6). -/
def limitSpeed (v : Int) : Int := limit (-32767) 32767 v

/-- Does a computed speed saturate (R6)? -/
def speedSaturates (v : Int) : Bool := decide (v < -32767) || decide (32767 < v)

/-- The slew position of an arm: its slew channel's extended count, read as a signed number (R83). -/
def State.position (s : State) (side : Side) : Int := (s.chan (slewChan side)).count.toInt

/-- Is the arm's slew channel homed (R8)? -/
def State.armHomed (s : State) (side : Side) : Bool := (s.chan (slewChan side)).homed

/-! ## Profiles and curves (Chapter 3) -/

/-- The active profile as the Profile Table publishes it (R51). -/
def State.profile (s : State) : Profile := s.pft.profiles.get s.pft.active

/-- A brush curve: four breakpoints and four brush speeds (section 3.4). -/
structure Curve where
  s0 : Nat
  s1 : Nat
  s2 : Nat
  s3 : Nat
  r0 : Nat
  r1 : Nat
  r2 : Nat
  r3 : Nat
  deriving DecidableEq, Repr

def Profile.mainCurve (p : Profile) : Curve := ⟨p.s0, p.s1, p.s2, p.s3, p.m0, p.m1, p.m2, p.m3⟩

def Profile.armCurve (p : Profile) : Curve := ⟨p.s0, p.s1, p.s2, p.s3, p.a0, p.a1, p.a2, p.a3⟩

/-- The line from (x0, y0) to (x1, y1) at x, truncating. -/
def interpolate (x0 x1 y0 y1 x : Nat) : Nat := y0 + (x - x0) * (y1 - y0) / (x1 - x0)

/-- The forward curve: brush speed for a travel speed (R54). -/
def Curve.forward (c : Curve) (v : Nat) : Nat :=
  if v ≤ c.s0 then c.r0
  else if c.s3 ≤ v then c.r3
  else if v < c.s1 then interpolate c.s0 c.s1 c.r0 c.r1 v
  else if v < c.s2 then interpolate c.s1 c.s2 c.r1 c.r2 v
  else interpolate c.s2 c.s3 c.r2 c.r3 v

/-- The inverse curve: the highest travel speed a brush speed can keep up with, or `none` for "no cap" (R55). -/
def Curve.inverse (c : Curve) (q : Nat) : Option Nat :=
  if c.r3 ≤ q then none
  else if q < c.r0 then some c.s0
  else if c.r2 ≤ q then some (interpolate c.r2 c.r3 c.s2 c.s3 q)
  else if c.r1 ≤ q then some (interpolate c.r1 c.r2 c.s1 c.s2 q)
  else some (interpolate c.r0 c.r1 c.s0 c.s1 q)

/-! ## Lanes: class, Qfs, pressure, conversions (Chapter 2) -/

/-- The class of a lane (R29); limited to 3 so that every lane is served whatever a parameter holds (log entry 27). -/
def Params.laneClass (p : Params) : LaneId → Nat
  | .trac => min 3 (p.nat 17)
  | .main => min 3 (p.nat 18)
  | .fan => min 3 (p.nat 19)
  | .arml => min 3 (p.nat 20)
  | .armr => min 3 (p.nat 21)
  | .spry => min 3 (p.nat 22)

/-- The full-scale flow of a lane; TRAC has none (R29). -/
def Params.qfs (p : Params) : LaneId → Nat
  | .trac => 0
  | .main => p.nat 23
  | .fan => p.nat 24
  | .arml => p.nat 25
  | .armr => p.nat 26
  | .spry => p.nat 27

/-- The held pressure of the circuit a lane loads (section 2.2). -/
def Pba.heldPressure (b : Pba) : LaneId → Nat
  | .trac => b.pressTraction
  | .fan => b.pressFan
  | .main | .arml | .armr | .spry => b.pressImplement

/-- The pressure of every conversion: the held pressure or 20 bar, whichever is greater (R28). -/
def Pba.pressure (b : Pba) (l : LaneId) : Nat := max (b.heldPressure l) 20

/-- Flow to power, before saturation (R40). -/
def powerOf (flow p : Nat) : Nat := ceilDiv (flow * p) 600

/-- Power to flow, before saturation (R36). -/
def flowOf (grant p : Nat) : Nat := 600 * grant / p

/-- Flow to drive level, before saturation (R39). -/
def levelOf (granted demanded qfs : Nat) : Nat := roundDivNat (min granted demanded * 4095) qfs

/-- Is a lane served: FULL or PART? -/
def LaneState.served : LaneState → Bool
  | .full | .part => true
  | .idle | .starved => false

/-- The drive level before saturation of a lane for a demanded flow: 0 whenever the lane is STARVED or IDLE (R39). -/
def State.rawLevel (s : State) (l : LaneId) (demanded : Nat) : Nat :=
  if (s.pba.lane l).out.state.served then levelOf (s.pba.lane l).out.flow demanded (s.params.qfs l) else 0

/-- A consumer publishes the four fields of a lane in one act; a demand or floor above 2500 is published as 2500 and
sets DEMAND_CLAMP (R27, R40). -/
def State.publishLane (s : State) (l : LaneId) (r : LaneReq) : State :=
  let lane := s.pba.lane l
  let sat := decide (2500 < r.demand) || decide (2500 < r.floor)
  let req : LaneReq := { r with demand := min r.demand 2500, floor := min r.floor 2500 }
  { s with
    pba := s.pba.setLane l (({ lane with req := req } : Lane).raise .demand sat)
    ports := postAllIf s.ports .clamp (lane.raises .demand sat) }

/-! ## What the engine records of the other blocks (R142) -/

/-- The largest 32-bit number, at which the saturating figures hold. -/
def maxU32 : Nat := 4294967295

/-- Change the figures of the current segment; without a current segment the event is discarded (R142). -/
def Sge.note (e : Sge) (f : SegFigures → SegFigures) : Sge :=
  if e.present then { e with figures := f e.figures } else e

/-- Change the flags of the figures. -/
def SegFigures.flag (g : SegFigures) (f : SegFlags → SegFlags) : SegFigures := { g with flags := f g.flags }

/-- Water used, in mL (R142). -/
def Sge.addWater (e : Sge) (ml : Nat) : Sge := e.note fun g => { g with water := min maxU32 (g.water + ml) }

/-- A stall (R142). -/
def Sge.addStall (e : Sge) : Sge := e.note fun g => { g with stalls := min 255 (g.stalls + 1) }

/-- A budget-stale event (R24, R142). -/
def Sge.noteStale (e : Sge) : Sge := e.note fun g => g.flag fun f => { f with staleSeen := true }

/-- A lane-shed event; BUDGET_STALE_SEEN is set too if the budget is STALE (R142). -/
def Sge.noteShed (e : Sge) (stale : Bool) : Sge :=
  e.note fun g => g.flag fun f => { f with shedSeen := true, staleSeen := f.staleSeen || stale }

/-- A dose-short event (R121, R142). -/
def Sge.noteDoseShort (e : Sge) : Sge := e.note fun g => g.flag fun f => { f with doseShortSeen := true }

/-- STOPIN asserted (R142, R151). -/
def Sge.noteStopInput (e : Sge) : Sge := e.note fun g => g.flag fun f => { f with stoppedByInput := true }

/-- Set the OVERRIDDEN flag of a resource. -/
def SegFlags.override (f : SegFlags) : Resource → SegFlags
  | .armL => { f with overL := true }
  | .armR => { f with overR := true }
  | .pickup => { f with overPickup := true }
  | .spray => { f with overSpray := true }

/-- A take event for a resource (R104, R142). -/
def Sge.noteTake (e : Sge) (r : Resource) : Sge := e.note fun g => g.flag fun f => f.override r

end Sys2Proof.Machine
end

