-- ==== Sys2Proof/Machine/SprayOps.lean ====
section
/-! DEFINITION. Shared operations of the Spray Controller (Chapter 7): the evaluation of the permissive terms, the
closing of valves with their water accounted, the spray settings and disables, the pulses of a distance mark, the SPRY
lane and the pump. Each operation is written as one update of the blocks it reaches. -/

namespace Sys2Proof.Machine

/-! ## Terms (R116, R119) -/

/-- Is a bank's associated equipment WORKING (term T4, section 7.1)? -/
def Arc.equipWorking (a : Arc) : BankId → Bool
  | .b0 => a.left.state == .working
  | .b1 => a.right.state == .working
  | .b2 | .b3 => a.pickup.state == .working

/-- The seven terms of a bank on the inputs as they stand (R116). -/
def State.termsOf (s : State) (i : BankId) : Terms :=
  { t1 := (s.spc.banks.get i).enabled
    t2 := decide (s.params.reserve < s.spc.estimate)
    t3 := decide (s.params.minSpraySpeed ≤ s.measured)
    t4 := s.arc.equipWorking i
    t5 := (s.pba.lane .spry).out.state.served
    t6 := match s.pba.ambient with
          | none => false
          | some a => decide (s.params.frost ≤ a)
    t7 := !s.stopin }

/-- The lowest-numbered false term, if any (R119). -/
def Terms.firstFalse (t : Terms) : Option Term :=
  if !t.t1 then some .t1
  else if !t.t2 then some .t2
  else if !t.t3 then some .t3
  else if !t.t4 then some .t4
  else if !t.t5 then some .t5
  else if !t.t6 then some .t6
  else if !t.t7 then some .t7
  else none

/-- Does the permissive go from true to false with T1 true (R119)? -/
def Bank.loses (b : Bank) (t : Terms) : Bool := b.terms.all && !t.all && t.t1

/-- A bank with its terms evaluated: the word is stored, and a loss of the permissive with T1 true latches the
lowest-numbered false term (R116, R119). -/
def Bank.evaluated (b : Bank) (t : Terms) : Bank :=
  { b with terms := t, firstFailing := if b.loses t then t.firstFalse else b.firstFailing }

/-- Does some bank satisfy a test? -/
def PerBank.any {α : Type} (v : PerBank α) (p : BankId → α → Bool) : Bool :=
  p .b0 v.b0 || p .b1 v.b1 || p .b2 v.b2 || p .b3 v.b3

/-- Every bank mapped. -/
def PerBank.map {α β : Type} (v : PerBank α) (f : BankId → α → β) : PerBank β :=
  ⟨f .b0 v.b0, f .b1 v.b1, f .b2 v.b2, f .b3 v.b3⟩

/-- The terms of all four banks evaluated on the inputs as they stand; SPRAY_BLOCK is posted where a bank lost its
permissive with T1 true (R116, R119). -/
def State.evalTerms (s : State) : State :=
  { s with
    spc := { s.spc with banks := s.spc.banks.map fun i b => b.evaluated (s.termsOf i) }
    ports := postAllIf s.ports .sprayBlock (s.spc.banks.any fun i b => b.loses (s.termsOf i)) }

/-! ## Closing and accounting (R122, R124, R126) -/

/-- The microlitres that stand in a bank's remainder after a closing, before millilitres are taken. -/
def Bank.microlitres (b : Bank) (flow : Nat) : Nat := b.remainder + flow * b.openTime

/-- A bank whose valve has closed: timer stopped, no pulse in progress, the rest of the water carried (R122, R124). -/
def Bank.closed (b : Bank) (flow : Nat) : Bank :=
  { b with valve := false, pulseTimer := none, openTime := 0, remainder := b.microlitres flow % 1000 }

/-- The millilitres that the closings of the chosen banks hand over (R124). -/
def State.closingMl (s : State) (p : BankId → Bank → Bool) : Nat :=
  let ml (i : BankId) (b : Bank) : Nat := if p i b then b.microlitres (s.params.nozzleFlow i) / 1000 else 0
  ml .b0 s.spc.banks.b0 + ml .b1 s.spc.banks.b1 + ml .b2 s.spc.banks.b2 + ml .b3 s.spc.banks.b3

/-- Does a change of the estimate take it from above the reserve to at or below it (R126)? -/
def crossesReserve (reserve before after : Nat) : Bool := decide (reserve < before) && decide (after ≤ reserve)

/-- Close the valves of the chosen banks and account their water: the estimate falls, stopping at 0, and the
millilitres go to the engine (R122, R124, R126). -/
def State.closeWhere (s : State) (p : BankId → Bank → Bool) : State :=
  let ml := s.closingMl p
  { s with
    spc := { s.spc with
      banks := s.spc.banks.map fun i b => if p i b then b.closed (s.params.nozzleFlow i) else b
      estimate := s.spc.estimate - ml }
    sge := s.sge.addWater ml
    ports := postAllIf s.ports .tankReserve (crossesReserve s.params.reserve s.spc.estimate (s.spc.estimate - ml)) }

/-- The banks whose valve is open without their permissive. -/
def lostValve (_ : BankId) (b : Bank) : Bool := b.valve && !b.terms.all

/-- Evaluate the terms and close at once every open valve that has lost its permissive (R122). A closing can take the
estimate to the reserve, which makes T2 of every bank false; so the two are done twice, and after that T2 cannot
change again (R124). One event that fails a term of several banks is evaluated for all four before any valve closes, so that
each of them latches that term and none the T2 which another's closing brings: the manual leaves that open (log entry 36). -/
def State.settleBanks (s : State) : State :=
  ((s.evalTerms.closeWhere lostValve).evalTerms).closeWhere lostValve

/-! ## The SPRY lane and the pump (R127, R128) -/

/-- The SPRY lane fields (R127). -/
def State.spryReq (s : State) : LaneReq :=
  if s.spc.banks.any fun _ b => b.terms.t1 && b.terms.t4 then
    { active := true, demand := s.params.pumpPower, floor := s.params.pumpFloor,
      flow := 600 * s.params.pumpPower / s.pba.pressure .spry }
  else LaneReq.inactive

/-- The pump level before saturation: 0 unless the lane is published active and is FULL or PART (R128). -/
def State.rawPump (s : State) : Nat :=
  if (s.pba.lane .spry).req.active then s.rawLevel .spry (s.pba.lane .spry).req.flow else 0

/-- The pump level recomputed, saturating with LEVEL_CLAMP on SPRY (R128). -/
def State.setPump (s : State) : State :=
  { s with
    spc := { s.spc with pumpLevel := min s.rawPump 4095 }
    pba := s.pba.setLane .spry ((s.pba.lane .spry).raise .level (decide (4095 < s.rawPump)))
    ports := postAllIf s.ports .clamp ((s.pba.lane .spry).raises .level (decide (4095 < s.rawPump))) }

/-- Publish the SPRY lane where one of its fields has changed, and recompute the pump level (R127, R128). -/
def State.publishSpry (s : State) : State :=
  if s.spryReq = (s.pba.lane .spry).req then s else (s.publishLane .spry s.spryReq).setPump

/-- What the Spray Controller does when an input of its terms has changed (R116, R119, R122, R124, R127). -/
def State.sprayRefresh (s : State) : State := s.settleBanks.publishSpry

/-- `sprayRefresh` where an input of a term has changed. -/
def State.refreshIf (s : State) (changed : Bool) : State := if changed then s.sprayRefresh else s

/-! ## Doses and widths (R113, R120) -/

/-- The pulse width before the raising of 0 to 1 ms (R120). -/
def rawWidth (dose interval flow : Nat) : Nat := roundDivNat (dose * interval) flow

/-- Is a width of 0 raised to 1 ms (R120)? -/
def widthRaised (dose interval flow : Nat) : Bool := decide (0 < dose) && decide (rawWidth dose interval flow = 0)

/-- The pulse width (R120). -/
def widthOf (dose interval flow : Nat) : Nat :=
  if widthRaised dose interval flow then 1 else rawWidth dose interval flow

/-- A bank with its pulse width recomputed from its dose in effect (R120). -/
def Bank.rewidth (b : Bank) (p : Params) (i : BankId) : Bank :=
  { b with
    width := widthOf b.doseInEffect p.sprayInterval (p.nozzleFlow i)
    widthClamp := b.widthClamp || widthRaised b.doseInEffect p.sprayInterval (p.nozzleFlow i) }

/-- A bank when the Profile Table publishes a new active profile: a bank set to PROFILE takes the new default dose, and
a change of the dose in effect recomputes the width (R113). -/
def Bank.withProfile (b : Bank) (p : Params) (pr : Profile) (i : BankId) : Bank :=
  if b.dose = none ∧ b.doseInEffect ≠ pr.dose.get i then ({ b with doseInEffect := pr.dose.get i } : Bank).rewidth p i
  else b

/-- The Spray Controller takes a publication of the active profile (R51, R113, R120). A width that it raises to 1 ms sets
WIDTH_CLAMP and posts CLAMP, by R120; that a write (R48) or a change of the active profile (R51) itself posts no notice does not
hold that back: the model's choice between the rules (log entry 21). -/
def State.profilePublished (s : State) : State :=
  { s with
    spc := { s.spc with banks := s.spc.banks.map fun i b => b.withProfile s.params s.profile i }
    ports := postAllIf s.ports .clamp
      (s.spc.banks.any fun i b => (b.withProfile s.params s.profile i).widthClamp && !b.widthClamp) }

/-! ## Spray settings and disables (R114, R115) -/

/-- Bit k of a mask is bank k. -/
def maskBit (m : BitVec 4) : BankId → Bool
  | .b0 => m.getLsbD 0
  | .b1 => m.getLsbD 1
  | .b2 => m.getLsbD 2
  | .b3 => m.getLsbD 3

/-- A bank under a spray setting: enable (kept where the mask is absent), dose setting, cleared latches, and the dose
in effect and width recomputed (R113, R114, R120). -/
def Bank.withSetting (b : Bank) (p : Params) (pr : Profile) (enables : Option (BitVec 4)) (dose : Option Nat)
    (i : BankId) : Bank :=
  ({ b with
    enabled := match enables with
      | some m => maskBit m i
      | none => b.enabled
    dose := dose
    firstFailing := none
    doseShort := false
    widthClamp := false
    doseInEffect := dose.getD (pr.dose.get i) } : Bank).rewidth p i

/-- A spray setting, from the cab or from the engine (R114): all four banks in one act, then the terms evaluated anew.
The dose is already limited to 500. -/
def State.spraySetting (s : State) (enables : Option (BitVec 4)) (dose : Option Nat) : State :=
  ({ s with
    spc := { s.spc with banks := s.spc.banks.map fun i b => b.withSetting s.params s.profile enables dose i }
    ports := postAllIf s.ports .clamp
      (s.spc.banks.any fun i b => (b.withSetting s.params s.profile enables dose i).widthClamp) } :
    State).sprayRefresh

/-- Disable every bank: the claim-loss stow and the program disable (R115). -/
def State.disableBanks (s : State) : State :=
  if s.spc.banks.any fun _ b => b.enabled then
    ({ s with spc := { s.spc with banks := s.spc.banks.map fun _ b => { b with enabled := false } } } :
      State).sprayRefresh
  else s

/-! ## Marks, expiries, the tank (R121, R122, R123, R125) -/

/-- Does a bank act on a distance mark: permissive true and width above 0 (R121)? -/
def Bank.acts (b : Bank) : Bool := b.terms.all && decide (0 < b.width)

/-- A bank on a distance mark (R121). -/
def Bank.onMark (b : Bank) : Bank :=
  if b.acts then
    if b.valve then { b with pulseTimer := some b.width, doseShort := true }
    else { b with valve := true, openTime := 0, pulseTimer := some b.width }
  else b

/-- Is this mark the bank's first retrigger since the last spray setting or segment start (R121)? -/
def Bank.firstRetrigger (b : Bank) : Bool := b.acts && b.valve && !b.doseShort

/-- One distance mark (R121). -/
def State.distanceMark (s : State) : State :=
  let short := s.spc.banks.any fun _ b => b.firstRetrigger
  { s with
    spc := { s.spc with banks := s.spc.banks.map fun _ b => b.onMark }
    sge := if short then s.sge.noteDoseShort else s.sge
    ports := postAllIf s.ports .doseShort short }

/-- The segment-start event: dose-short seen of every bank becomes false (R123). -/
def State.spraySegmentStart (s : State) : State :=
  { s with spc := { s.spc with banks := s.spc.banks.map fun _ b => { b with doseShort := false } } }

/-- A pulse timer expires: the valve closes and the pulse is accounted; a change of the estimate evaluates T2 again
(R122, R124). -/
def State.pulseExpired (s : State) (i : BankId) : State :=
  let t := s.closeWhere fun j b => j == i && b.valve
  t.refreshIf (t.spc.estimate != s.spc.estimate)

/-- The water estimate set by a TANK frame (R125, R126). -/
def State.setEstimate (s : State) (ml : Nat) : State :=
  ({ s with
    spc := { s.spc with estimate := ml }
    ports := postAllIf s.ports .tankReserve (crossesReserve s.params.reserve s.spc.estimate ml) } :
    State).refreshIf (ml != s.spc.estimate)

end Sys2Proof.Machine
end

