-- ==== Sys2Proof/Machine/ArmOps.lean ====
section
/-! DEFINITION. Shared operations of the Arm Controller (Chapter 5): entry into LIFTING, RAISING and FAULT, the requests
that the cab and the engine make, the index event, the switches, and the stages of the arm update. -/

namespace Sys2Proof.Machine

/-! ## Records -/

def Arc.arm (a : Arc) : Side → Arm
  | .left => a.left
  | .right => a.right

def Arc.setArm (a : Arc) (side : Side) (x : Arm) : Arc :=
  match side with
  | .left => { a with left := x }
  | .right => { a with right := x }

def State.arm (s : State) (side : Side) : Arm := s.arc.arm side

/-- Replace an arm record that keeps the arm in or out of WORKING. -/
def State.setArm (s : State) (side : Side) (x : Arm) : State := { s with arc := s.arc.setArm side x }

/-- Replace an arm record; where the arm enters or leaves WORKING the Spray Controller takes the change (R83, R116). -/
def State.putArm (s : State) (side : Side) (x : Arm) : State :=
  (s.setArm side x).refreshIf ((x.state == .working) != ((s.arm side).state == .working))

/-- Replace the pickup record; where it enters or leaves WORKING the Spray Controller takes the change. -/
def State.putPickup (s : State) (x : Pickup) : State :=
  ({ s with arc := { s.arc with pickup := x } } : State).refreshIf
    ((x.state == .working) != (s.arc.pickup.state == .working))

/-! ## Entries (R89, R90, R96) -/

/-- An arm on entry to LIFTING (R89). -/
def Arm.lifted (a : Arm) (cause : Cause) (timeout : Nat) : Arm :=
  { a with
    state := .lifting, cause := cause, brushLevel := 0, rpm := 0, deployPending := false, stallTimer := 0,
    slewTarget := 0, liftDown := false, liftUp := !a.upSw, moveTimer := some timeout }

/-- An arm on entry to FAULT (R90). -/
def Arm.faulted (a : Arm) (cause : Cause) : Arm :=
  { a with
    state := .fault, cause := cause, slewPlus := 0, slewMinus := 0, brushLevel := 0, liftUp := false, liftDown := false,
    deployPending := false, rpm := 0, moveTimer := none, stallTimer := 0 }

/-- An arm that has become STOWED: no movement in progress, slew levels 0, valves closed (R85, R89). -/
def Arm.stowed (a : Arm) : Arm :=
  { a with state := .stowed, moveTimer := none, slewPlus := 0, slewMinus := 0, liftUp := false, liftDown := false }

/-- The arm enters LIFTING; its lane is published inactive at once (R89). -/
def State.liftArm (s : State) (side : Side) (cause : Cause) : State :=
  (s.publishLane (armLane side) LaneReq.inactive).putArm side ((s.arm side).lifted cause s.params.moveTimeout)

/-- The arm enters FAULT; its lane is published inactive and ARM_FAULT is posted (R90). -/
def State.faultArm (s : State) (side : Side) (cause : Cause) : State :=
  ((s.publishLane (armLane side) LaneReq.inactive).putArm side ((s.arm side).faulted cause)).post .armFault

/-- The pickup on entry to RAISING; with the up switch found active it is UP at once (R96). -/
def Pickup.raised (u : Pickup) (cause : Cause) (timeout : Nat) : Pickup :=
  { u with
    state := if u.upSw then .up else .raising
    cause := cause, mainRpm := 0, fanRpm := 0, mainLevel := 0, fanLevel := 0, stallTimer := 0, lowerValve := false
    raiseValve := !u.upSw
    moveTimer := if u.upSw then none else some timeout }

/-- The pickup on entry to LOWERING; with the down switch found active it is WORKING at once (R96). -/
def Pickup.lowered (u : Pickup) (timeout : Nat) : Pickup :=
  { u with
    state := if u.downSw then .working else .lowering
    raiseValve := false
    lowerValve := !u.downSw
    moveTimer := if u.downSw then none else some timeout }

/-- The pickup on entry to FAULT (R96). R96 names the levels, valves, lanes and timers; that the two commanded speeds become 0
at once, as R90 has it for an arm, is the model's choice (log entry 35). -/
def Pickup.faulted (u : Pickup) (cause : Cause) : Pickup :=
  { u with
    state := .fault, cause := cause, mainRpm := 0, fanRpm := 0, mainLevel := 0, fanLevel := 0, raiseValve := false,
    lowerValve := false, moveTimer := none, stallTimer := 0 }

/-- MAIN and FAN published inactive. -/
def State.pickupLanesOff (s : State) : State :=
  (s.publishLane .main LaneReq.inactive).publishLane .fan LaneReq.inactive

/-- The pickup enters RAISING (R96). -/
def State.raisePickup (s : State) (cause : Cause) : State :=
  s.pickupLanesOff.putPickup (s.arc.pickup.raised cause s.params.moveTimeout)

/-- The pickup enters FAULT; ARM_FAULT is posted (R96). -/
def State.faultPickup (s : State) (cause : Cause) : State :=
  (s.pickupLanesOff.putPickup (s.arc.pickup.faulted cause)).post .armFault

/-! ## Requests (R78 to R82, R95), from the cab, the engine or the Claim Table -/

/-- The slew target for an angle, or the held target, limited to the slew limits (R78). -/
def slewTargetFor (p : Params) (held : Int) (angle : Option Int) : Int :=
  limit p.slewMin p.slewMax
    (match angle with
     | some a => roundDiv (a * p.slewCpr) 3600
     | none => held)

/-- OK, or CLAMPED where the slew target has been limited (R78). -/
def slewStatus (p : Params) (held : Int) (angle : Option Int) : Status :=
  let raw := match angle with
    | some a => roundDiv (a * p.slewCpr) 3600
    | none => held
  if slewTargetFor p held angle = raw then .ok else .clamped

/-- RETARGET with an angle (R80). -/
def State.armRetarget (s : State) (side : Side) (angle : Int) : State × Status :=
  let a := s.arm side
  if a.state = .deploying ∨ a.state = .working then
    (s.setArm side { a with slewTarget := slewTargetFor s.params a.slewTarget (some angle) },
      slewStatus s.params a.slewTarget (some angle))
  else (s, .state)

/-- DEPLOY (R79). -/
def State.armDeploy (s : State) (side : Side) (angle : Option Int) : State × Status :=
  let a := s.arm side
  if s.stopin ∨ s.tgv.mode = .transport then (s, .state)
  else
    match a.state with
    | .stowed =>
      let target := slewTargetFor s.params a.slewTarget angle
      if s.armHomed side then
        (s.setArm side { a with
            slewTarget := target, state := .deploying, phase := .slew, moveTimer := some s.params.moveTimeout },
          slewStatus s.params a.slewTarget angle)
      else
        (s.setArm side { a with
            slewTarget := target, deployPending := true, state := .homing, moveTimer := some s.params.moveTimeout },
          slewStatus s.params a.slewTarget angle)
    | .homing =>
      (s.setArm side { a with slewTarget := slewTargetFor s.params a.slewTarget angle, deployPending := true },
        slewStatus s.params a.slewTarget angle)
    | .deploying | .working =>
      match angle with
      | none => (s, .ok)
      | some x => s.armRetarget side x
    | .lifting | .fault => (s, .state)

/-- STOW, with the cause it gives (R80, R82). -/
def State.armStow (s : State) (side : Side) (cause : Cause) : State × Status :=
  match (s.arm side).state with
  | .homing | .deploying | .working => (s.liftArm side cause, .ok)
  | .stowed | .lifting => (s, .ok)
  | .fault => (s, .state)

/-- ARM_CLEAR (R81). -/
def State.armClear (s : State) (side : Side) : State × Status :=
  let a := s.arm side
  if a.state ≠ .fault ∨ (a.upSw ∧ a.downSw) then (s, .state)
  else if a.upSw then (s.setArm side a.stowed, .ok)
  else (s.liftArm side .command, .ok)

/-- PICKUP_SET WORK (R95). -/
def State.pickupWork (s : State) : State × Status :=
  if s.stopin ∨ s.tgv.mode = .transport then (s, .state)
  else
    match s.arc.pickup.state with
    | .up => (s.putPickup (s.arc.pickup.lowered s.params.moveTimeout), .ok)
    | .lowering | .working => (s, .ok)
    | .raising | .fault => (s, .state)

/-- PICKUP_SET UP (R95). -/
def State.pickupUp (s : State) : State × Status :=
  let u := s.arc.pickup
  match u.state with
  | .up | .raising => (s, .ok)
  | .lowering | .working => (s.raisePickup .command, .ok)
  | .fault =>
    if u.upSw ∧ u.downSw then (s, .state)
    else if u.upSw then (s.putPickup { u with state := .up }, .ok)
    else (s.raisePickup .command, .ok)

/-- The claim-loss stow of the pickup: UP with cause CLAIM_LOSS; a pickup in FAULT stays as it is (R95). -/
def State.pickupClaimLoss (s : State) : State :=
  match s.arc.pickup.state with
  | .lowering | .working => s.raisePickup .claimLoss
  | .up | .raising | .fault => s

/-! ## Events (R86, R85, R90, R96, R97) -/

/-- An index event for an arm's slew channel (R86). -/
def State.indexEvent (s : State) (side : Side) : State :=
  let a := s.arm side
  if a.state = .homing then
    if a.deployPending then
      s.setArm side { a with
        deployPending := false, state := .deploying, phase := .slew, moveTimer := some s.params.moveTimeout }
    else s.setArm side a.stowed
  else s

/-- An arm's move timer expires in HOMING, DEPLOYING or LIFTING (R85, R90). -/
def State.armTimeout (s : State) (side : Side) : State :=
  match (s.arm side).state with
  | .homing | .deploying | .lifting => if (s.arm side).moveTimer.ranOut then s.faultArm side .timeout else s
  | .stowed | .working | .fault => s

/-- The pickup's move timer expires in LOWERING or RAISING (R85, R96). -/
def State.pickupTimeout (s : State) : State :=
  match s.arc.pickup.state with
  | .lowering | .raising => if s.arc.pickup.moveTimer.ranOut then s.faultPickup .timeout else s
  | .up | .working | .fault => s

/-- The arm with a position switch at its new level. -/
def Arm.withSwitch (a : Arm) (sw : SwitchEnd) (active : Bool) : Arm :=
  match sw with
  | .up => { a with upSw := active }
  | .down => { a with downSw := active }

/-- The pickup with a position switch at its new level. -/
def Pickup.withSwitch (u : Pickup) (sw : SwitchEnd) (active : Bool) : Pickup :=
  match sw with
  | .up => { u with upSw := active }
  | .down => { u with downSw := active }

/-- The lift phases of an arm on its switches: the end of LOWER, and the lift-up valve while LIFTING (R87, R89). -/
def Arm.switchMoves (a : Arm) : Arm :=
  match a.state with
  | .deploying => if a.phase = .lower ∧ a.downSw then { a with phase := .spinup, liftDown := false } else a
  | .lifting => { a with liftUp := !a.upSw }
  | .stowed | .homing | .working | .fault => a

/-- A change of an arm's position switch: FAULT with both active, else the lift phases (R87, R89, R90). -/
def State.armSwitch (s : State) (side : Side) (sw : SwitchEnd) (active : Bool) : State :=
  let a := (s.arm side).withSwitch sw active
  if a.upSw ∧ a.downSw ∧ a.state ≠ .fault then (s.setArm side a).faultArm side .switch
  else s.setArm side a.switchMoves

/-- The pickup's lift phases on its switches (R96). -/
def Pickup.switchMoves (u : Pickup) : Pickup :=
  match u.state with
  | .lowering =>
    if u.downSw then { u with state := .working, lowerValve := false, moveTimer := none }
    else { u with lowerValve := true }
  | .raising =>
    if u.upSw then { u with state := .up, raiseValve := false, moveTimer := none }
    else { u with raiseValve := true }
  | .up | .working | .fault => u

/-- A change of a pickup position switch (R96). -/
def State.pickupSwitch (s : State) (sw : SwitchEnd) (active : Bool) : State :=
  let u := s.arc.pickup.withSwitch sw active
  if u.upSw ∧ u.downSw ∧ u.state ≠ .fault then
    ({ s with arc := { s.arc with pickup := u } } : State).faultPickup .switch
  else s.putPickup u.switchMoves

/-- STOPIN asserted, for one arm (R97). -/
def State.stopArm (s : State) (side : Side) : State :=
  match (s.arm side).state with
  | .deploying | .working => s.liftArm side .stop
  | .homing => s.setArm side { s.arm side with deployPending := false }
  | .stowed | .lifting | .fault => s

/-- STOPIN asserted, for the pickup (R97). -/
def State.stopPickup (s : State) : State :=
  match s.arc.pickup.state with
  | .lowering | .working => s.raisePickup .stop
  | .up | .raising | .fault => s

/-! ## The arm update (R83), stage by stage -/

/-- Stage 1, an arm: starvation (R93). -/
def State.starveArm (s : State) (side : Side) : State :=
  let a := s.arm side
  if (a.state = .working ∨ (a.state = .deploying ∧ a.phase = .spinup)) ∧
      (s.pba.lane (armLane side)).out.state = .starved then s.liftArm side .starved
  else s

/-- Stage 1, the pickup: starvation (R93). -/
def State.starvePickup (s : State) : State :=
  if s.arc.pickup.state = .working ∧
      ((s.pba.lane .main).out.state = .starved ∨ (s.pba.lane .fan).out.state = .starved) then s.raisePickup .starved
  else s

/-- The stall test of one brush: commanded speed above 0, channel enabled, measured speed × 2 below the commanded
speed (R92). -/
def brushStalls (c : Channel) (rpm : Nat) : Bool := decide (0 < rpm) && c.enabled && decide (c.speed * 2 < (rpm : Int))

/-- Is an arm in stall (R92)? -/
def State.armInStall (s : State) (side : Side) : Bool :=
  (s.arm side).state == .working && brushStalls (s.chan (brushChan side)) (s.arm side).rpm

/-- Is the pickup in stall (R92)? -/
def State.pickupInStall (s : State) : Bool :=
  s.arc.pickup.state == .working &&
    (brushStalls (s.chan .bmain) s.arc.pickup.mainRpm || brushStalls (s.chan .fan) s.arc.pickup.fanRpm)

/-- What a stall tells the rest of the part: ARM_STALL to all ports, a stall event to the engine (R92). -/
def State.stallEvent (s : State) : State := ({ s with sge := s.sge.addStall } : State).post .armStall

/-- Stage 2, an arm: stall detection (R92). -/
def State.stallArm (s : State) (side : Side) : State :=
  let a := s.arm side
  let t := if s.armInStall side then a.stallTimer + 10 else 0
  if s.armInStall side ∧ s.params.stallTime ≤ t then
    ((s.setArm side { a with stallCount := min 255 (a.stallCount + 1) }).stallEvent).liftArm side .stall
  else s.setArm side { a with stallTimer := t }

/-- Stage 2, the pickup: stall detection (R92). -/
def State.stallPickup (s : State) : State :=
  let u := s.arc.pickup
  let t := if s.pickupInStall then u.stallTimer + 10 else 0
  if s.pickupInStall ∧ s.params.stallTime ≤ t then
    (({ s with arc := { s.arc with pickup := { u with stallCount := min 255 (u.stallCount + 1) } } } :
      State).stallEvent).raisePickup .stall
  else { s with arc := { s.arc with pickup := { u with stallTimer := t } } }

/-- Does the arm's state run the slew loop (R84)? -/
def ArmState.runsLoop (st : ArmState) (homed : Bool) : Bool :=
  match st with
  | .deploying | .working => true
  | .lifting => homed
  | .stowed | .homing | .fault => false

/-- The deadband test (R84). -/
def withinDeadband (p : Params) (target position : Int) : Bool := decide ((target - position).natAbs ≤ p.deadband)

/-- The arm with on-target set by the deadband test, where its state runs the slew loop (R83, stage 3). -/
def State.aimed (s : State) (side : Side) : Arm :=
  let a := s.arm side
  if a.state.runsLoop (s.armHomed side) then
    { a with onTarget := withinDeadband s.params a.slewTarget (s.position side) }
  else a

/-- Stage 3: progress of an arm's movement by its state (R87, R88, R89). -/
def State.progressArm (s : State) (side : Side) : State :=
  let a := s.aimed side
  match a.state with
  | .deploying =>
    if !s.armHomed side then (s.setArm side a).liftArm side .reference
    else
      match a.phase with
      | .slew =>
        if a.onTarget then
          s.setArm side (if a.downSw then { a with phase := .spinup, liftDown := false }
                         else { a with phase := .lower, liftDown := true })
        else s.setArm side a
      | .lower => s.setArm side a
      | .spinup =>
        if (s.pba.lane (armLane side)).out.state.served then
          s.putArm side { a with state := .working, moveTimer := none }
        else s.setArm side a
  | .working => if !s.armHomed side then (s.setArm side a).liftArm side .reference else s.setArm side a
  | .lifting => if a.upSw && s.armHomed side && a.onTarget then s.setArm side a.stowed else s.setArm side a
  | .stowed | .homing | .fault => s.setArm side a

/-- The output of the slew loop for an error (R84). -/
def slewLevel (p : Params) (e : Int) : Nat := min p.slewMaxLevel (e.natAbs * p.kslew)

/-- Stage 4: the slew outputs of an arm by its state (R84). -/
def State.slewArm (s : State) (side : Side) : State :=
  let a := s.arm side
  let e := a.slewTarget - s.position side
  s.setArm side
    (if a.state.runsLoop (s.armHomed side) then
      if withinDeadband s.params a.slewTarget (s.position side) then
        { a with onTarget := true, slewPlus := 0, slewMinus := 0 }
      else if 0 < e then { a with onTarget := false, slewPlus := slewLevel s.params e, slewMinus := 0 }
      else { a with onTarget := false, slewPlus := 0, slewMinus := slewLevel s.params e }
    else
      match a.state with
      | .homing | .lifting => { a with onTarget := false, slewPlus := 0, slewMinus := s.params.homingLevel }
      | .stowed | .fault | .deploying | .working => { a with onTarget := false, slewPlus := 0, slewMinus := 0 })

/-- The brush speed the active profile calls for on an arm at the published target speed (R88, R91). -/
def State.armCurveRpm (s : State) : Nat := s.profile.armCurve.forward s.tgv.targetSpeed

/-- The main broom speed the active profile calls for at the published target speed (R91, R96). -/
def State.mainCurveRpm (s : State) : Nat := s.profile.mainCurve.forward s.tgv.targetSpeed

/-- The brush speed a granted flow supports (R88, R94, R96). -/
def rpmOf (flow disp : Nat) : Nat := flow * 100 / disp

/-- The flow a brush speed needs (R91). -/
def flowFor (rpm disp : Nat) : Nat := ceilDiv (rpm * disp) 100

/-- The demanded flow of an arm lane (R91). -/
def State.armFlow (s : State) : Nat := flowFor s.armCurveRpm s.params.armDisp

/-- The demanded flow of MAIN (R91). -/
def State.mainFlow (s : State) : Nat := flowFor s.mainCurveRpm s.params.mainDisp

/-- The demanded flow of FAN (R91). -/
def State.fanFlow (s : State) : Nat := flowFor s.profile.fanRpm s.params.fanDisp

/-- Stage 5, an arm: commanded speed and brush level, both 0 outside WORKING (R88, R91). -/
def State.brushArm (s : State) (side : Side) : State :=
  let a := s.arm side
  let lane := s.pba.lane (armLane side)
  let on := a.state == .working
  let raw := if on then s.rawLevel (armLane side) s.armFlow else 0
  let rpm := if on then min s.armCurveRpm (rpmOf lane.out.flow s.params.armDisp) else 0
  { s with
    arc := s.arc.setArm side { a with rpm := rpm, brushLevel := min raw 4095 }
    pba := s.pba.setLane (armLane side) (lane.raise .level (decide (4095 < raw)))
    ports := postAllIf s.ports .clamp (lane.raises .level (decide (4095 < raw))) }

/-- Stage 5, the main broom (R91, R96). -/
def State.brushMain (s : State) : State :=
  let u := s.arc.pickup
  let lane := s.pba.lane .main
  let on := u.state == .working
  let raw := if on then s.rawLevel .main s.mainFlow else 0
  let rpm := if on then min s.mainCurveRpm (rpmOf lane.out.flow s.params.mainDisp) else 0
  { s with
    arc := { s.arc with pickup := { u with mainRpm := rpm, mainLevel := min raw 4095 } }
    pba := s.pba.setLane .main (lane.raise .level (decide (4095 < raw)))
    ports := postAllIf s.ports .clamp (lane.raises .level (decide (4095 < raw))) }

/-- Stage 5, the fan (R91, R96). -/
def State.brushFan (s : State) : State :=
  let u := s.arc.pickup
  let lane := s.pba.lane .fan
  let on := u.state == .working
  let raw := if on then s.rawLevel .fan s.fanFlow else 0
  let rpm := if on then min s.profile.fanRpm (rpmOf lane.out.flow s.params.fanDisp) else 0
  { s with
    arc := { s.arc with pickup := { u with fanRpm := rpm, fanLevel := min raw 4095 } }
    pba := s.pba.setLane .fan (lane.raise .level (decide (4095 < raw)))
    ports := postAllIf s.ports .clamp (lane.raises .level (decide (4095 < raw))) }

/-- Is an arm's lane active: SPINUP or WORKING (R91)? -/
def Arm.laneActive (a : Arm) : Bool := a.state == .working || (a.state == .deploying && a.phase == .spinup)

/-- The fields of an arm lane (R91). -/
def State.armReq (s : State) (side : Side) : LaneReq :=
  if (s.arm side).laneActive then
    { active := true, flow := s.armFlow, demand := powerOf s.armFlow (s.pba.pressure (armLane side)),
      floor := powerOf (flowFor s.profile.a0 s.params.armDisp) (s.pba.pressure (armLane side)) }
  else LaneReq.inactive

/-- The fields of MAIN (R91). -/
def State.mainReq (s : State) : LaneReq :=
  if s.arc.pickup.state = .working then
    { active := true, flow := s.mainFlow, demand := powerOf s.mainFlow (s.pba.pressure .main),
      floor := powerOf (flowFor s.profile.m0 s.params.mainDisp) (s.pba.pressure .main) }
  else LaneReq.inactive

/-- The fields of FAN (R91). -/
def State.fanReq (s : State) : LaneReq :=
  if s.arc.pickup.state = .working then
    { active := true, flow := s.fanFlow, demand := powerOf s.fanFlow (s.pba.pressure .fan),
      floor := powerOf (ceilDiv (s.profile.fanRpm * s.params.fanDisp * s.params.fanFloorPct) 10000)
        (s.pba.pressure .fan) }
  else LaneReq.inactive

/-- The least of two caps, where `none` is no cap. -/
def leastCap : Option Nat → Option Nat → Option Nat
  | none, y => y
  | some x, none => some x
  | some x, some y => some (min x y)

/-- The candidate an arm gives for the brush-sufficiency cap (R94). -/
def State.armCandidate (s : State) (side : Side) : Option Nat :=
  if (s.arm side).state = .working ∧ (s.pba.lane (armLane side)).out.state = .part then
    s.profile.armCurve.inverse (rpmOf (s.pba.lane (armLane side)).out.flow s.params.armDisp)
  else none

/-- The candidate the main broom gives (R94). -/
def State.mainCandidate (s : State) : Option Nat :=
  if s.arc.pickup.state = .working ∧ (s.pba.lane .main).out.state = .part then
    s.profile.mainCurve.inverse (rpmOf (s.pba.lane .main).out.flow s.params.mainDisp)
  else none

/-- The brush-sufficiency cap (R94). -/
def State.brushCap (s : State) : Option Nat :=
  if s.tgv.mode = .sweep then leastCap (s.armCandidate .left) (leastCap (s.armCandidate .right) s.mainCandidate)
  else none

/-- Stages 1 and 2. -/
def State.armSafety (s : State) : State :=
  ((((((s.starveArm .left).starveArm .right).starvePickup).stallArm .left).stallArm .right).stallPickup)

/-- Stages 3 and 4. -/
def State.armMotion (s : State) : State :=
  ((((s.progressArm .left).progressArm .right).slewArm .left).slewArm .right)

/-- Stage 5. -/
def State.armDrives (s : State) : State :=
  ((((s.brushArm .left).brushArm .right).brushMain).brushFan)

/-- Stage 6: the four lanes and the cap (R91, R94). -/
def State.armPublish (s : State) : State :=
  let t := (((s.publishLane .arml (s.armReq .left)).publishLane .armr (s.armReq .right)).publishLane .main
    s.mainReq).publishLane .fan s.fanReq
  { t with arc := { t.arc with cap := s.brushCap } }

/-- One arm update (R83). -/
def State.armUpdate (s : State) : State :=
  let t := s.armSafety.armMotion.armDrives.armPublish
  { t with arc := { t.arc with updateTimer := some 10 } }

/-! ## A publication of grants (R91) -/

/-- A level at a publication of grants: 0 where its lane is STARVED or IDLE, else lowered, where it is higher, to the
level R39 gives (R91). -/
def State.loweredLevel (s : State) (l : LaneId) (level : Nat) : Nat :=
  min level (s.rawLevel l (s.pba.lane l).req.flow)

/-- What the Arm Controller does at once at a publication of grants (R91). -/
def State.arcOnGrants (s : State) : State :=
  { s with
    arc := { s.arc with
      left := { s.arc.left with brushLevel := s.loweredLevel .arml s.arc.left.brushLevel }
      right := { s.arc.right with brushLevel := s.loweredLevel .armr s.arc.right.brushLevel }
      pickup := { s.arc.pickup with
        mainLevel := s.loweredLevel .main s.arc.pickup.mainLevel
        fanLevel := s.loweredLevel .fan s.arc.pickup.fanLevel } } }

end Sys2Proof.Machine
end

