-- ==== Sys2Proof/Machine/AllocOps.lean ====
section
/-! DEFINITION. One allocation of the Power Budget Allocator (Chapter 2.3): admission, distribution, conversion to flow,
and the one publication of the results. The first half is pure arithmetic over the six lanes. -/

namespace Sys2Proof.Machine

/-! ## The arithmetic of an allocation -/

/-- The lanes in index order. -/
def lanesUp : List LaneId := [.trac, .main, .fan, .arml, .armr, .spry]

/-- The lanes in falling index order. -/
def lanesDown : List LaneId := [.spry, .armr, .arml, .fan, .main, .trac]

/-- What an allocation starts from: the budget in effect, the readmit margin, and for each lane its class, whether it is
active, its demand, its effective floor and whether its previous state is STARVED (R26, R27, R31). -/
structure AllocIn where
  budget : Nat
  margin : Nat
  cls : LaneId → Nat
  active : LaneId → Bool
  demand : LaneId → Nat
  floor : LaneId → Nat
  wasStarved : LaneId → Bool

/-- The sum of the floors of a set of lanes. -/
def AllocIn.floors (a : AllocIn) (ls : List LaneId) : Nat := (ls.map a.floor).sum

/-- The set A before shedding: every active lane whose previous state is not STARVED (R31). -/
def AllocIn.admitted (a : AllocIn) : List LaneId := lanesUp.filter fun l => a.active l && !a.wasStarved l

/-- The order in which lanes are shed: class falling, within a class index falling (R32). -/
def AllocIn.shedOrder (a : AllocIn) : List LaneId :=
  [3, 2, 1, 0].flatMap fun k => lanesDown.filter fun l => a.cls l == k

/-- The order in which candidates are taken: class rising, within a class index rising (R33). -/
def AllocIn.readmitOrder (a : AllocIn) : List LaneId :=
  [0, 1, 2, 3].flatMap fun k => lanesUp.filter fun l => a.cls l == k

/-- Shedding: while the floors of A exceed the budget, the next lane of the order that is in A with a floor other than 0
leaves A (R32). -/
def AllocIn.shed (a : AllocIn) : List LaneId → List LaneId → List LaneId
  | [], A => A
  | l :: rest, A =>
    if a.budget < a.floors A ∧ l ∈ A ∧ a.floor l ≠ 0 then a.shed rest (A.filter fun x => x ≠ l) else a.shed rest A

/-- The set A as shedding leaves it. -/
def AllocIn.afterShed (a : AllocIn) : List LaneId := a.shed a.shedOrder a.admitted

/-- Is a lane a candidate for re-admission: active, with previous state STARVED (R31)? -/
def AllocIn.candidate (a : AllocIn) (l : LaneId) : Bool := a.active l && a.wasStarved l

/-- Re-admission: a candidate whose floor plus the margin fits in the budget beside the floors of A joins A at once
(R33). -/
def AllocIn.readmit (a : AllocIn) : List LaneId → List LaneId → List LaneId
  | [], A => A
  | l :: rest, A =>
    if a.candidate l ∧ a.floors A + a.floor l + a.margin ≤ a.budget then a.readmit rest (l :: A) else a.readmit rest A

/-- The set A after admission (R31 to R33). -/
def AllocIn.finalSet (a : AllocIn) : List LaneId := a.readmit a.readmitOrder a.afterShed

/-- The extra of a lane: its demand minus its floor (R34). -/
def AllocIn.extra (a : AllocIn) (l : LaneId) : Nat := a.demand l - a.floor l

/-- The lanes of A in a class. -/
def AllocIn.inClass (a : AllocIn) (k : Nat) : List LaneId := a.finalSet.filter fun l => a.cls l == k

/-- The sum of the extras of a class (R34). -/
def AllocIn.classExtra (a : AllocIn) (k : Nat) : Nat := ((a.inClass k).map a.extra).sum

/-- What a lane receives beyond its floor when its class finds the remainder R (R34). -/
def AllocIn.share (a : AllocIn) (r : Nat) (l : LaneId) : Nat :=
  if a.classExtra (a.cls l) ≤ r then a.extra l else a.extra l * r / a.classExtra (a.cls l)

/-- What a class takes from the remainder R it finds (R34). -/
def AllocIn.taken (a : AllocIn) (k r : Nat) : Nat := ((a.inClass k).map (a.share r)).sum

/-- The remainder before class k is served; before class 4 it is the slack (R34). -/
def AllocIn.remainder (a : AllocIn) : Nat → Nat
  | 0 => a.budget - a.floors a.finalSet
  | k + 1 => a.remainder k - a.taken k (a.remainder k)

/-- The grant of a lane (R34, R35). -/
def AllocIn.grant (a : AllocIn) (l : LaneId) : Nat :=
  if l ∈ a.finalSet then a.floor l + a.share (a.remainder (a.cls l)) l else 0

/-- The state of a lane (R31, R35). -/
def AllocIn.laneState (a : AllocIn) (l : LaneId) : LaneState :=
  if l ∈ a.finalSet then (if a.grant l = a.demand l then .full else .part)
  else if a.active l then .starved
  else .idle

/-- The slack (R34). -/
def AllocIn.slack (a : AllocIn) : Nat := a.remainder 4

/-- The number of lanes shed (R32). -/
def AllocIn.shedTotal (a : AllocIn) : Nat := (a.admitted.filter fun l => !a.afterShed.contains l).length

/-- Was a lane re-admitted (R33)? -/
def AllocIn.readmitted (a : AllocIn) : Bool := lanesUp.any fun l => a.finalSet.contains l && !a.afterShed.contains l

/-! ## The allocation of the machine -/

/-- The budget in effect: the available power while FRESH, the fallback budget while STALE (R26). -/
def State.budgetInEffect (s : State) : Nat :=
  match s.pba.freshness with
  | .fresh => s.pba.available
  | .stale => s.params.fallback

/-- An allocation's inputs, from the latest publications (R26, R27, R31). -/
def State.allocIn (s : State) : AllocIn :=
  { budget := s.budgetInEffect
    margin := s.params.readmitMargin
    cls := s.params.laneClass
    active := fun l => (s.pba.lane l).req.active
    demand := fun l => (s.pba.lane l).req.demand
    floor := fun l => min (s.pba.lane l).req.floor (s.pba.lane l).req.demand
    wasStarved := fun l => (s.pba.lane l).out.state == .starved }

/-- A grant as flow before saturation, at the lane's pressure (R36). -/
def State.rawGrantFlow (s : State) (g : Nat) (l : LaneId) : Nat := flowOf g (s.pba.pressure l)

/-- A lane with the results of an allocation (R35, R36, R41). -/
def State.allocatedLane (s : State) (l : LaneId) : Lane :=
  let g := s.allocIn.grant l
  let raw := s.rawGrantFlow g l
  ({ s.pba.lane l with
      out := { state := s.allocIn.laneState l, grant := g, flow := min raw 65535 } } : Lane).raise .flow (decide (65535 < raw))

/-- Does the conversion of a lane post CLAMP (R36, R41)? -/
def State.allocationClamps (s : State) (l : LaneId) : Bool :=
  (s.pba.lane l).raises .flow (decide (65535 < s.rawGrantFlow (s.allocIn.grant l) l))

/-- The one publication of an allocation, with its notices and its events to the engine (R32, R33, R37). -/
def State.publishGrants (s : State) : State :=
  let a := s.allocIn
  { s with
    pba := { s.pba with
      lanes := .ofFn s.allocatedLane
      slack := a.slack
      shedCount := min 255 (s.pba.shedCount + a.shedTotal)
      budgetInEffect := a.budget
      allocNumber := s.pba.allocNumber + 1
      allocTimer := some 20 }
    sge := if a.shedTotal = 0 then s.sge else s.sge.noteShed (s.pba.freshness == .stale)
    ports := postAllIf (postAllIf (postAllIf s.ports .laneShed (a.shedTotal != 0)) .laneReadmit a.readmitted) .clamp
      (lanesUp.any s.allocationClamps) }

/-- Is SPRY served as last published: the input of term T5? -/
def State.sprayServed (s : State) : Bool := (s.pba.lane .spry).out.state.served

/-- One allocation: the publication, and what the consumers do at once on it (R37, R91, R116, R128). -/
def State.allocate (s : State) : State :=
  let t := s.publishGrants.arcOnGrants
  (t.refreshIf (t.sprayServed != s.sprayServed)).setPump

end Sys2Proof.Machine
end

