-- ==== Sys2Proof/Machine/EngineOps.lean ====
section
/-! DEFINITION. Shared operations of the Profile Table, the Claim Table and the Segment Engine (Chapters 3, 6 and 8), and
the forward distance that drives them (R11, R12). -/

namespace Sys2Proof.Machine

/-! ## Active profile (R51, R53) -/

/-- Make a profile active; a change of the index is published (R51 to R53). -/
def State.activateProfile (s : State) (i : Fin 8) : State :=
  if s.pft.active = i then s else ({ s with pft := { s.pft with active := i } } : State).profilePublished

/-! ## Travel: what other blocks ask of it (R60, R71, R72) -/

/-- Re-arm: the requested speed becomes 0 and a zero-speed request is awaited (R71). -/
def Tgv.rearmed (g : Tgv) : Tgv := { g with reqSpeed := 0, awaitingZero := true }

def State.rearm (s : State) : State := { s with tgv := s.tgv.rearmed }

/-! ## Claims (R103 to R108) -/

/-- CLAIM on an entry (R103). -/
def Claim.claimed : Claim → Claim × Status
  | .free => (.cab, .ok)
  | .cab => (.cab, .ok)
  | .lent => (.lent, .ok)
  | .program => (.program, .claimed)

/-- An entry after TAKE (R104). -/
def Claim.taken : Claim → Claim
  | .free => .cab
  | .cab => .cab
  | .lent => .lent
  | .program => .lent

/-- RELEASE on an entry (R105). -/
def Claim.released : Claim → Claim × Status
  | .cab => (.free, .ok)
  | .lent => (.program, .ok)
  | .free => (.free, .claimed)
  | .program => (.program, .claimed)

/-- An entry when the program starts (R107). -/
def Claim.onStart : Claim → Claim
  | .free => .program
  | .cab => .lent
  | .program => .program
  | .lent => .lent

/-- An entry at program end (R108). -/
def Claim.onEnd : Claim → Claim
  | .program => .free
  | .lent => .cab
  | .free => .free
  | .cab => .cab

/-- An entry when the cab's claims are withdrawn (R109). -/
def Claim.withdrawn : Claim → Claim
  | .cab => .free
  | .lent => .program
  | .free => .free
  | .program => .program

/-- Does the cab hold the entry? -/
def Claim.heldByCab (c : Claim) : Bool := c.holder == .cab

/-- All four entries mapped. -/
def PerResource.map {α β : Type} (v : PerResource α) (f : α → β) : PerResource β :=
  ⟨f v.armL, f v.armR, f v.pickup, f v.spray⟩

/-! ## Settings (R140) -/

/-- The request that an arm setting makes (R140). -/
def State.applyArm (s : State) (side : Side) (setting : ArmSetting) (angle : Option Int) : State :=
  match setting with
  | .stow => (s.armStow side .command).1
  | .work => (s.armDeploy side angle).1
  | .keep => s

/-- The request that a pickup setting makes (R140). -/
def State.applyPickup (s : State) (setting : PickupSetting) : State :=
  match setting with
  | .up => s.pickupUp.1
  | .work => s.pickupWork.1
  | .keep => s

/-- A resource receives its setting (R140); the engine does not repeat a request that is refused. -/
def State.applySetting (s : State) (r : Resource) (st : Settings) : State :=
  match r with
  | .armL => s.applyArm .left st.left st.leftAngle
  | .armR => s.applyArm .right st.right st.rightAngle
  | .pickup => s.applyPickup st.pickup
  | .spray => s.spraySetting st.spray st.dose

/-- A resource receives its setting only while its holder is PROGRAM (R139, R140). -/
def State.applyHeld (s : State) (st : Settings) (r : Resource) : State :=
  if (s.clt.get r).holder = .program then s.applySetting r st else s

/-- The stop's setting of a resource: STOW, UP, or a program disable (R148, R152, R153). -/
def State.stopResource (s : State) (r : Resource) : State :=
  match r with
  | .armL => (s.armStow .left .command).1
  | .armR => (s.armStow .right .command).1
  | .pickup => s.pickupUp.1
  | .spray => s.disableBanks

/-- The stop's setting, where PROGRAM holds the resource. -/
def State.stopHeld (s : State) (r : Resource) : State :=
  if (s.clt.get r).holder = .program then s.stopResource r else s

/-- Every resource the program holds receives the stop's setting, arms and pickup before the banks (R148, R153; log
entry 11). -/
def State.stopAllHeld (s : State) : State :=
  (((s.stopHeld .armL).stopHeld .armR).stopHeld .pickup).stopHeld .spray

/-- Every resource the program holds receives its setting, in table order (R139 step 4; log entry 11). -/
def State.applyAllHeld (s : State) (st : Settings) : State :=
  (((s.applyHeld st .armL).applyHeld st .armR).applyHeld st .pickup).applyHeld st .spray

/-! ## The engine (R137 to R154) -/

/-- The descriptor at the cursor. -/
def Sge.atCursor (e : Sge) : Descriptor := e.ring.get e.cursor

/-- Replace one descriptor. -/
def Sge.setDesc (e : Sge) (i : Fin 32) (d : Descriptor) : Sge := { e with ring := e.ring.set i.val d i.isLt }

/-- The successor of a descriptor index; 0 follows 31 (section 8.1). -/
def successor (i : Fin 32) : Fin 32 := i + 1

/-- The flags a segment starts with: OVERRIDDEN of each Lent resource, and BUDGET_STALE_SEEN if the budget is STALE (R139,
steps 4 and 5). -/
def startFlags (c : Clt) (stale : Bool) : SegFlags :=
  { SegFlags.clear with
    overL := c.armL.lender, overR := c.armR.lender, overPickup := c.pickup.lender, overSpray := c.spray.lender,
    staleSeen := stale }

/-- Steps 5 and 6 of a segment start: the figures begin anew, with the unplanned distance as lead-in (R139). -/
def State.startFigures (s : State) : State :=
  { s with sge := { s.sge with
      figures := { distance := 0, leadIn := s.sge.unplanned, water := 0, stalls := 0,
                   flags := startFlags s.clt (s.pba.freshness == .stale) }
      unplanned := 0 } }

/-- Steps 1 and 3 of a segment start: the settings come into force and the speed cap is passed on (R139). -/
def State.adoptSettings (s : State) (st : Settings) : State :=
  { s with
    sge := { s.sge with settings := some st }
    tgv := { s.tgv with segCap := st.speedCap } }

/-- A segment start: the descriptor at the cursor becomes the current segment (R139). -/
def State.segmentStart (s : State) : State :=
  let st := s.sge.atCursor.request.settings
  let t := ({ s with sge := { s.sge with present := true, state := .running } } : State)
  ((((t.adoptSettings st).activateProfile st.profile).applyAllHeld st).startFigures).spraySegmentStart

/-- The result part of the current segment. -/
def Sge.resultOf (e : Sge) (st : SegStatus) : SegResult := { status := st, figures := e.figures }

/-- Writeback: the finished segment's result goes to its descriptor, which becomes MASTER-owned (R144). -/
def Sge.writtenBack (e : Sge) (st : SegStatus) : Sge :=
  { e with
    ring := e.ring.set e.cursor.val { e.atCursor with owner := .master, result := some (e.resultOf st) } e.cursor.isLt
    completed := if st = .done then min 65535 (e.completed + 1) else e.completed
    present := false }

/-- Writeback, with SEG_DONE posted (R144). -/
def State.writeback (s : State) (st : SegStatus) : State :=
  ({ s with sge := s.sge.writtenBack st } : State).post .segDone

/-- The travel record at program end: no segment speed cap, and a standing stop request ends, with re-arm after a stop
(R60, R72, R154). -/
def Tgv.programEnded (g : Tgv) (k : EndKind) : Tgv :=
  let h := { g with segCap := none, stopRequest := false }
  if g.stopRequest ∧ k = .stop then h.rearmed else h

/-- The engine record at program end (R154). -/
def Sge.ended (e : Sge) (k : EndKind) : Sge :=
  { e with state := .idle, suspendCause := .none, returnState := .none, present := false, endKind := k }

/-- Program end (R108, R154). -/
def State.programEnd (s : State) (k : EndKind) : State :=
  ({ s with sge := s.sge.ended k, clt := s.clt.map Claim.onEnd, tgv := s.tgv.programEnded k } : State).post .pgmEnd

/-- Fetch the descriptor at the cursor: start it if it is ENGINE-owned, else enter STARVED (R145). -/
def State.fetch (s : State) : State :=
  match s.sge.atCursor.owner with
  | .engine => s.segmentStart
  | .master => ({ s with sge := { s.sge with state := .starved } } : State).post .pgmStarved

/-- Move the cursor to the successor (R143, R145). -/
def State.advanceCursor (s : State) : State := { s with sge := { s.sge with cursor := successor s.sge.cursor } }

/-- Suspend the engine with a cause and a return state, posting PGM_SUSPENDED (R143, R149, R151). -/
def State.suspend (s : State) (c : SuspendCause) (r : ReturnState) : State :=
  ({ s with sge := { s.sge with state := .suspended, suspendCause := c, returnState := r } } : State).post .pgmSuspended

/-- A segment ends with end action STOP (R148): STOPPING, a program stop request, the program's equipment stopped. -/
def State.beginStopping (s : State) : State :=
  ({ s with
    sge := { s.sge with state := .stopping }
    tgv := { s.tgv with stopRequest := true, stopReported := false } } : State).stopAllHeld

/-- The end of a segment whose length has been swept (R143). -/
def State.segmentEnd (s : State) : State :=
  let d := s.sge.atCursor.request
  match d.endAction with
  | .cont =>
    if d.last then (s.writeback .done).programEnd .last else ((s.writeback .done).advanceCursor).fetch
  | .pause =>
    if d.last then (s.writeback .done).programEnd .last
    else ((s.writeback .done).advanceCursor).suspend .pauseEnd .none
  | .stop => s.beginStopping

/-- One millimetre of forward distance reaches the engine (R141). -/
def State.engineMm (s : State) : State :=
  match s.sge.state with
  | .running =>
    let n := s.sge.figures.distance + 1
    let t := ({ s with sge := { s.sge with figures := { s.sge.figures with distance := n } } } : State)
    if n = s.sge.atCursor.request.lengthMm then t.segmentEnd else t
  | .starved => { s with sge := { s.sge with unplanned := min maxU32 (s.sge.unplanned + 1) } }
  | .idle | .suspended | .stopping => s

/-- The Travel Governor reports stop complete (R72, R148). -/
def State.stopComplete (s : State) : State :=
  let t := ({ s with tgv := { s.tgv with stopReported := true } } : State)
  if s.sge.state = .stopping then (t.writeback .done).programEnd .stop else t

/-- A return event for a resource (R152). -/
def State.returnEvent (s : State) (r : Resource) : State :=
  match s.sge.state with
  | .running | .starved | .suspended =>
    match s.sge.settings with
    | some st => s.applyHeld st r
    | none => s
  | .stopping => s.stopHeld r
  | .idle => s

/-- STOPIN assertion at the engine, by its state (R151). -/
def State.engineStopInput (s : State) : State :=
  match s.sge.state with
  | .running => ({ s with sge := s.sge.noteStopInput } : State).suspend .stopInput .running
  | .starved => s.suspend .stopInput .starved
  | .suspended =>
    if s.sge.suspendCause = .command then
      { s with sge := { s.sge.noteStopInput with suspendCause := .stopInput } }
    else s
  | .stopping => { s with sge := s.sge.noteStopInput }
  | .idle => s

/-! ## Withdrawal of the cab's claims (R109, R110) -/

/-- The claim-loss stow of a resource whose entry has become Free (R82, R95, R115). -/
def State.claimLossStow (s : State) (r : Resource) : State :=
  match r with
  | .armL => (s.armStow .left .claimLoss).1
  | .armR => (s.armStow .right .claimLoss).1
  | .pickup => s.pickupClaimLoss
  | .spray => s.disableBanks

/-- What the withdrawal does to the equipment of a resource, by the condition its entry stood in (R109). -/
def State.withdrawEffect (s : State) (before : Claim) (r : Resource) : State :=
  match before with
  | .cab => s.claimLossStow r
  | .lent => s.returnEvent r
  | .free | .program => s

/-- Is any entry held by CAB? -/
def Clt.anyCab (c : Clt) : Bool :=
  c.armL.heldByCab || c.armR.heldByCab || c.pickup.heldByCab || c.spray.heldByCab

/-- The Claim Table withdraws the cab's claims, all in one act, and posts CLAIM_LOST to the cab port where an entry
changed (R109, R110; order of the resources: log entry 11). -/
def State.withdrawCab (s : State) : State :=
  let before := s.clt
  let t := ({ s with
    clt := before.map Claim.withdrawn
    ports := { s.ports with cab := s.ports.cab.postIf .claimLost (Clt.anyCab before) } } : State)
  (((t.withdrawEffect before.armL .armL).withdrawEffect before.armR .armR).withdrawEffect before.pickup
    .pickup).withdrawEffect before.spray .spray

/-- The cab port is lost, by silence or port reset: its claims are withdrawn and the drive is re-armed (R74, R109). -/
def State.cabLost (s : State) : State := s.withdrawCab.rearm

/-! ## Forward distance (R11, R12) -/

/-- One millimetre to the mark progress: at the spray interval it returns to 0 and a mark is handed over (R12). -/
def State.markMm (s : State) : State :=
  if s.params.sprayInterval ≤ s.ctu.markProgress + 1 then
    ({ s with ctu := { s.ctu with markProgress := 0 } } : State).distanceMark
  else { s with ctu := { s.ctu with markProgress := s.ctu.markProgress + 1 } }

/-- One whole millimetre of forward distance, in the order R11 gives. -/
def State.forwardMm (s : State) : State :=
  (({ s with ctu := { s.ctu with
      remainder := s.ctu.remainder - 1000
      accumulator := s.ctu.accumulator + 1 } } : State).engineMm).markMm

/-- So many whole millimetres, one after another. -/
def State.forwardMms : Nat → State → State
  | 0, s => s
  | n + 1, s => State.forwardMms n s.forwardMm

/-- A forward count on the distance source: its pitch joins the remainder, and each whole millimetre is taken from it
(R11). -/
def State.forwardCount (s : State) : State :=
  let um := s.ctu.remainder + s.sourcePitch
  State.forwardMms (um / 1000) { s with ctu := { s.ctu with remainder := um } }

end Sys2Proof.Machine
end

