-- ==== Sys2Proof/Machine/TravelOps.lean ====
section
/-! DEFINITION. Shared operations of the Travel Governor (Chapter 4): the mode maximum, the speeds and caps of a travel
update, the ramp, the TRAC lane, the outputs and the completion of a program stop. -/

namespace Sys2Proof.Machine

/-- The mode maximum of a mode (R59). -/
def State.modeMax (s : State) : TravelMode → Nat
  | .parked => 0
  | .sweep =>
    match s.tgv.segCap with
    | some c => min s.profile.maxSweep c
    | none => s.profile.maxSweep
  | .transport => s.params.transportMax

/-- The full-scale speed of the pump output; in PARKED the output is 0 (R59). -/
def pumpFullScale : TravelMode → Nat
  | .parked => 0
  | .sweep => 4000
  | .transport => 12000

/-- The motor level of a mode (R59, R70). -/
def State.motorLevel (s : State) : TravelMode → Nat
  | .parked => 0
  | .sweep => s.params.sweepMotor
  | .transport => s.params.transportMotor

/-- Is the cab port SILENT or held in port reset (R66)? -/
def State.cabDown (s : State) : Bool := s.ports.cab.link == .silent || s.ports.cab.inReset

/-- A speed limited by a cap, where one is given. -/
def capped (v : Nat) : Option Nat → Nat
  | none => v
  | some c => min v c

/-- Stage 1: the direction after a pending reversal at commanded speed 0 has been taken (R63). -/
def Tgv.takenDirection (g : Tgv) : Direction := if g.commandedSpeed = 0 then g.reqDirection else g.direction

/-- Is a reversal pending with commanded speed above 0, a stop cause (R63, R66)? -/
def Tgv.reversalPending (g : Tgv) : Bool := decide (g.reqDirection ≠ g.direction) && decide (0 < g.commandedSpeed)

/-- Stage 2: the demand speed (R65). -/
def State.demandSpeed (s : State) : Nat :=
  capped (min s.tgv.reqSpeed (s.modeMax s.tgv.mode)) (if s.tgv.mode = .sweep then s.arc.cap else none)

/-- Stage 3: the traction cap by the TRAC state and grant last published (R66). -/
def State.tractionCap (s : State) : Option Nat :=
  match (s.pba.lane .trac).out.state with
  | .part => some ((s.pba.lane .trac).out.grant * 1000 / s.params.ktrac)
  | .starved => some 0
  | .full | .idle => none

/-- Does a stop cause stand at the update (R66)? -/
def State.stopCause (s : State) : Bool := s.stopin || s.tgv.stopRequest || s.cabDown || s.tgv.reversalPending

/-- Stage 3: the target speed (R66). -/
def State.targetSpeed (s : State) : Nat := if s.stopCause then 0 else capped s.demandSpeed s.tractionCap

/-- A step of a ramp, mm/s per update, never below 1 (R67). -/
def rampStep (ramp : Nat) : Nat := max 1 (ramp / 100)

/-- The step of a fall: the stop step while STOPIN is asserted, the down step otherwise (R67). -/
def State.fallStep (s : State) : Nat := rampStep (if s.stopin then s.params.stopRamp else s.params.downRamp)

/-- Stage 4: one step of the commanded speed toward a target (R67). -/
def rampTo (target commanded up down : Nat) : Nat :=
  if commanded < target then min target (commanded + up) else max target (commanded - down)

/-- Stage 4: the commanded speed after the update (R67). -/
def State.nextCommanded (s : State) : Nat :=
  rampTo s.targetSpeed s.tgv.commandedSpeed (rampStep s.params.upRamp) s.fallStep

/-- Stage 5: the look-ahead speed (R68). -/
def State.lookAhead (s : State) : Nat := min s.demandSpeed (s.nextCommanded + s.params.upRamp / 10)

/-- Stage 5: the TRAC lane fields (R68). -/
def State.tracReq (s : State) : LaneReq :=
  if s.tgv.mode = .parked then LaneReq.inactive
  else { active := true, demand := ceilDiv (s.lookAhead * s.params.ktrac) 1000, floor := s.params.tractionFloor, flow := 0 }

/-- Stage 6: the pump level before saturation (R69). -/
def State.rawPumpLevel (s : State) : Nat :=
  if s.tgv.mode = .parked then 0 else roundDivNat (s.nextCommanded * 4095) (pumpFullScale s.tgv.mode)

/-- The travel record after stages 1 to 6 of an update (R64). -/
def State.updatedTgv (s : State) : Tgv :=
  let level := min s.rawPumpLevel 4095
  let dir := s.tgv.takenDirection
  { s.tgv with
    direction := dir
    demandSpeed := s.demandSpeed
    tractionCap := s.tractionCap
    brushCapRead := s.arc.cap
    targetSpeed := s.targetSpeed
    commandedSpeed := s.nextCommanded
    pumpFwd := if dir = .fwd then level else 0
    pumpRev := if dir = .rev then level else 0
    motor := s.motorLevel s.tgv.mode
    updateTimer := some 10 }

/-- Stages 1 to 6 of a travel update: the record, the TRAC lane, LEVEL_CLAMP (R64). -/
def State.travelStages (s : State) : State :=
  (({ s with tgv := s.updatedTgv } : State).publishLane .trac s.tracReq).raiseClamp .trac .level
    (decide (4095 < s.rawPumpLevel))

/-- Is a program stop complete: asked for, not yet reported, commanded and measured speed 0 (R72)? -/
def State.stopIsComplete (s : State) : Bool :=
  s.tgv.stopRequest && !s.tgv.stopReported && decide (s.tgv.commandedSpeed = 0) && decide (s.measured = 0)

/-- One travel update (R64). -/
def State.travelTick (s : State) : State :=
  let t := s.travelStages
  if t.stopIsComplete then t.stopComplete else t

end Sys2Proof.Machine
end

