-- ==== Sys2Proof/Machine/PortOps.lean ====
section
/-! DEFINITION. The service of a transaction, shared by every request (Chapter 9): what is shifted out, the silence timer,
the held read, the tests of R160, the response and the parts of a long read. -/

namespace Sys2Proof.Machine

/-- The bytes of a response frame (R159, R180). -/
def Response.bytes (r : Response) : List Byte :=
  let head := byteOf r.status.num :: r.code :: byteOf r.payload.length :: r.payload
  head ++ [crc head]

/-- The bytes shifted out while n bytes are clocked in: the response, then zeros (R157). -/
def Response.shiftedOut (r : Response) (n : Nat) : List Byte := (r.bytes ++ List.replicate n 0).take n

def State.port (s : State) (p : PortId) : Port := s.ports.get p

def State.setPort (s : State) (p : PortId) (x : Port) : State := { s with ports := s.ports.set p x }

/-- Does the port take no transaction: RSTN held, or the port held in port reset (R170, R172)? -/
def State.deaf (s : State) (p : PortId) : Bool := s.rstnHeld || (s.port p).inReset

/-- A port that has heard n bytes with a valid frame: the pending response has been shifted out, the link is ACTIVE and the
silence timer restarts (R157, R158, R168). -/
def Port.heard (x : Port) (n limit : Nat) : Port :=
  { x with shifted := x.response.shiftedOut n, link := .active, silenceTimer := some limit }

/-- The state when a valid frame has come whole, before it is decided (R158, R168). -/
def State.heard (s : State) (f : Frame) : State :=
  s.setPort f.port ((s.port f.port).heard f.size (s.params.silenceLimit f.port))

/-- The held read of a port becomes absent (R163). -/
def State.dropHeld (s : State) (p : PortId) : State := s.setPort p { s.port p with held := none }

/-- A SELN low period of n bytes on a port that takes no transaction: nothing changes, but PRSTN held asserted holds the
data-out line at 0 (R170, R172; log entry 37). -/
def State.ignored (s : State) (p : PortId) (n : Nat) : State :=
  if (s.port p).inReset then s.setPort p { s.port p with shifted := List.replicate n 0 } else s

/-- The pending response of a port is replaced (R157, R162). -/
def State.respond (s : State) (p : PortId) (r : Response) : State := s.setPort p { s.port p with response := r }

/-! ## Parts of a read (R163, R182) -/

/-- How many parts a content is returned in. -/
def partCount (content : List Byte) : Nat := ceilDiv content.length 26

/-- The payload of one part: its number, the part count, and its piece of the content. -/
def partPayload (content : List Byte) (k : Nat) : List Byte :=
  byteOf k :: byteOf (partCount content) :: (content.drop (26 * k)).take 26

/-- The held read after part k has been placed in the pending response. -/
def heldAfter (code : Byte) (content : List Byte) (k : Nat) : Option HeldRead :=
  if k + 1 < partCount content then some { code := code, content := content, next := k + 1 } else none

/-! ## What a block answers -/

/-- What the owning block makes of a request: the state, the status, and the content of a read (R160, test 5). -/
structure Done where
  state : State
  status : Status
  content : List Byte
  deriving DecidableEq, Repr

/-- The block's answer without a content. -/
def State.done (s : State) (st : Status) : Done := ⟨s, st, []⟩

/-- The answer of a request that returns a state with a status. -/
def doneOf (r : State × Status) : Done := ⟨r.1, r.2, []⟩

/-- An accepted read (R163). -/
def State.readOk (s : State) (content : List Byte) : Done := ⟨s, .ok, content⟩

/-- The response to a decided request: whole where its content fits in 28 bytes, else part 0 with the rest held (R162,
R163). -/
def Done.answer (d : Done) (p : PortId) (code : Byte) : State :=
  if d.content.length ≤ 28 then d.state.respond p { status := d.status, code := code, payload := d.content }
  else
    d.state.setPort p { d.state.port p with
      response := { status := d.status, code := code, payload := partPayload d.content 0 }
      held := heldAfter code d.content 0 }

/-- Tests 2 to 4 of R160: the status of the first that fails, if one does. -/
def State.refusal (s : State) (c : Cmd) (f : Frame) : Option Status :=
  if f.payload.length ≠ c.reqLen then some .length
  else if !c.allowed f.port then some .denied
  else if !s.cfs.ready && !c.inUnconfigured then some .state
  else none

/-- The state in which the owning block takes a request: the frame has been heard, and a held read is lost (R163, R168). -/
def State.atBlock (s : State) (f : Frame) : State := (s.heard f).dropHeld f.port

/-- A valid frame decided: refused by the tests of R160, or handed to the owning block. -/
def State.served (s : State) (c : Cmd) (f : Frame) (body : State → Done) : State :=
  match s.refusal c f with
  | some st => ((s.atBlock f).done st).answer f.port c.code
  | none => (body (s.atBlock f)).answer f.port c.code

/-- The transaction of a command that the table of R183 lists, NOP apart: ignored on a port that takes no transaction, else
served. -/
def State.transact (s : State) (c : Cmd) (f : Frame) (body : State → Done) : State :=
  if s.deaf f.port then s.ignored f.port f.size else s.served c f body

/-! ## NOP, BAD_FRAME, UNKNOWN_COMMAND (R158, R160, R163) -/

/-- A valid NOP: the next part of the held read, or OK with code 0 (R163). -/
def State.nextPart (s : State) (p : PortId) : State :=
  match (s.port p).held with
  | some h =>
    s.setPort p { s.port p with
      response := { status := .ok, code := h.code, payload := partPayload h.content h.next }
      held := heldAfter h.code h.content h.next }
  | none => s.respond p { status := .ok, code := 0, payload := [] }

/-- The transaction of a frame with command code 00: a payload makes it no valid NOP (R160 test 2, R163). -/
def State.nopServed (s : State) (f : Frame) : State :=
  if f.payload = [] then (s.heard f).nextPart f.port
  else ((s.atBlock f).done .length).answer f.port Cmd.nop.code

/-- A transaction refused with LENGTH or CRC: the pending response is shifted out, the held read is lost, and nothing else
changes (R157, R158, R163). -/
def State.badServed (s : State) (p : PortId) (bytes : List Byte) (st : Status) : State :=
  s.setPort p { s.port p with
    shifted := (s.port p).response.shiftedOut bytes.length
    held := none
    response := { status := st, code := firstByte bytes, payload := [] } }

end Sys2Proof.Machine
end

