-- ==== Sys2Proof/Machine/Claims.lean ====
section
/-! DEFINITION. The meanings of CLAIM, TAKE and RELEASE, and the test of the Claim Table on gated requests (Chapter 6). -/

namespace Sys2Proof.Machine

/-- A request for one resource: RANGE where the byte names none (R102). -/
def forResource (f : Frame) (t : State) (act : Resource → Done) : Done :=
  match resourceOf (f.payload.getD 0 0) with
  | none => t.done .range
  | some r => act r

/-- One entry replaced. -/
def State.setClaim (s : State) (r : Resource) (c : Claim) : State := { s with clt := s.clt.set r c }

/-- What CLAIM does (R103). -/
def claimBody (f : Frame) (t : State) : Done :=
  forResource f t fun r => (t.setClaim r (t.clt.get r).claimed.1).done (t.clt.get r).claimed.2

/-- CLAIM (R103). -/
def execClaim (f : Frame) (s : State) : Host.Outcome State Fault Refusal :=
  .next (s.transact .claim f (claimBody f))

/-- What TAKE does: a Program entry hands a take event to the engine (R104). -/
def takeBody (f : Frame) (t : State) : Done :=
  forResource f t fun r =>
    ({ t.setClaim r (t.clt.get r).taken with
      sge := if t.clt.get r = .program then t.sge.noteTake r else t.sge } : State).done .ok

/-- TAKE (R104). -/
def execTake (f : Frame) (s : State) : Host.Outcome State Fault Refusal :=
  .next (s.transact .take f (takeBody f))

/-- What RELEASE does: a Lent entry hands a return event to the engine (R105). -/
def releaseBody (f : Frame) (t : State) : Done :=
  forResource f t fun r =>
    let u := t.setClaim r (t.clt.get r).released.1
    (if t.clt.get r = .lent then u.returnEvent r else u).done (t.clt.get r).released.2

/-- RELEASE (R105). -/
def execRelease (f : Frame) (s : State) : Host.Outcome State Fault Refusal :=
  .next (s.transact .release f (releaseBody f))

/-- The claim an arm's requests need (R106). -/
def armResource : Side → Resource
  | .left => .armL
  | .right => .armR

/-- Test 2 of R106: CLAIMED unless the holder of the entry is CAB. -/
def gated (t : State) (r : Resource) (act : Done) : Done :=
  if (t.clt.get r).holder = .cab then act else t.done .claimed

/-- The two tests of R106 for a request that names an arm in its first byte. -/
def forArm (f : Frame) (t : State) (act : Side → Done) : Done :=
  match sideOf (f.payload.getD 0 0) with
  | none => t.done .range
  | some side => gated t (armResource side) (act side)

end Sys2Proof.Machine
end

