-- ==== Sys2Proof/Machine/Arms.lean ====
section
/-! DEFINITION. The meanings of the Arm Controller's commands and events (Chapter 5). The three ARM_SET rows, and the two
PICKUP_SET rows, are one request whose payload names the action (log entry 24). -/

namespace Sys2Proof.Machine

/-- The angle an ARM_SET carries. -/
def armAngleOf (f : Frame) : Option Int := angleOf (f.payload.getD 2 0) (f.payload.getD 3 0)

/-- What an ARM_SET does by its action (R78 to R80). A RETARGET without an angle is refused with RANGE before the arm's state
is looked at: the manual gives no order of the two refusals (log entry 33). -/
def armAct (t : State) (side : Side) (action : ArmAction) (angle : Option Int) : Done :=
  match action with
  | .deploy => doneOf (t.armDeploy side angle)
  | .retarget =>
    match angle with
    | none => t.done .range
    | some a => doneOf (t.armRetarget side a)
  | .stow => doneOf (t.armStow side .command)

/-- What an ARM_SET does: the claim test, then the action (R106, section 5.2). -/
def armSetBody (f : Frame) (t : State) : Done :=
  forArm f t fun side =>
    match armActionOf (f.payload.getD 1 0) with
    | none => t.done .range
    | some action => armAct t side action (armAngleOf f)

/-- ARM_SET DEPLOY (R79). -/
def execArmSetDeploy (f : Frame) (s : State) : Host.Outcome State Fault Refusal :=
  .next (s.transact .armSet f (armSetBody f))

/-- ARM_SET RETARGET (R80). -/
def execArmSetRetarget (f : Frame) (s : State) : Host.Outcome State Fault Refusal :=
  .next (s.transact .armSet f (armSetBody f))

/-- ARM_SET STOW (R80). -/
def execArmSetStow (f : Frame) (s : State) : Host.Outcome State Fault Refusal :=
  .next (s.transact .armSet f (armSetBody f))

/-- ARM_CLEAR (R81). -/
def execArmClear (f : Frame) (s : State) : Host.Outcome State Fault Refusal :=
  .next (s.transact .armClear f fun t => forArm f t fun side => doneOf (t.armClear side))

/-- What a PICKUP_SET does: the claim test, then the action (R95, R106). -/
def pickupSetBody (f : Frame) (t : State) : Done :=
  gated t .pickup
    (match pickupActionOf (f.payload.getD 0 0) with
     | none => t.done .range
     | some .work => doneOf t.pickupWork
     | some .up => doneOf t.pickupUp)

/-- PICKUP_SET WORK (R95). -/
def execPickupSetWork (f : Frame) (s : State) : Host.Outcome State Fault Refusal :=
  .next (s.transact .pickupSet f (pickupSetBody f))

/-- PICKUP_SET UP (R95). -/
def execPickupSetUp (f : Frame) (s : State) : Host.Outcome State Fault Refusal :=
  .next (s.transact .pickupSet f (pickupSetBody f))

/-- The level of a position switch. -/
def State.switchLevel (s : State) (unit : Equip) (sw : SwitchEnd) : Bool :=
  match unit, sw with
  | .left, .up => s.arc.left.upSw
  | .left, .down => s.arc.left.downSw
  | .right, .up => s.arc.right.upSw
  | .right, .down => s.arc.right.downSw
  | .pickup, .up => s.arc.pickup.upSw
  | .pickup, .down => s.arc.pickup.downSw

/-- A position switch at a new level, and nothing else: what a part held in reset follows. -/
def State.withSwitch (s : State) (unit : Equip) (sw : SwitchEnd) (active : Bool) : State :=
  match unit with
  | .left => s.setArm .left (s.arc.left.withSwitch sw active)
  | .right => s.setArm .right (s.arc.right.withSwitch sw active)
  | .pickup => { s with arc := { s.arc with pickup := s.arc.pickup.withSwitch sw active } }

/-- What the Arm Controller does on a change of a switch (R87, R89, R90, R96). -/
def State.switchChange (s : State) (unit : Equip) (sw : SwitchEnd) (active : Bool) : State :=
  match unit with
  | .left => s.armSwitch .left sw active
  | .right => s.armSwitch .right sw active
  | .pickup => s.pickupSwitch sw active

/-- POSITION_SWITCH_CHANGE (R90). -/
def execPositionSwitchChange (unit : Equip) (sw : SwitchEnd) (active : Bool) (s : State) :
    Host.Outcome State Fault Refusal :=
  .next
    (if s.switchLevel unit sw = active then s
     else if s.rstnHeld then s.withSwitch unit sw active
     else s.switchChange unit sw active)

/-- ARM_UPDATE (R83). -/
def execArmUpdate (s : State) : Host.Outcome State Fault Refusal :=
  .next (if s.arc.updateTimer.ranOut then s.armUpdate else s)

/-- MOVE_TIMER_EXPIRY (R85). -/
def execMoveTimerExpiry (unit : Equip) (s : State) : Host.Outcome State Fault Refusal :=
  .next
    (match unit with
     | .left => s.armTimeout .left
     | .right => s.armTimeout .right
     | .pickup => s.pickupTimeout)

end Sys2Proof.Machine
end

