-- ==== Sys2Proof/Machine/Reads.lean ====
section
/-! DEFINITION. The contents that the reads return, field by field (section 11.3.4), and what an accepted read is
(R19, R44, R50, R75, R98, R111, R129, R135, R155, R176). -/

namespace Sys2Proof.Machine

/-- A cap in two bytes, 0 where there is none (R181). -/
def capBytes (c : Option Nat) : List Byte := be16 (c.getD 0)

/-- The traction cap: 65535 where there is none, 65534 where it is above that (R181). -/
def tractionCapBytes : Option Nat → List Byte
  | none => be16 65535
  | some c => be16 (min c 65534)

/-! ## Counter Unit -/

/-- READ_COUNT: the flags that do not apply to a channel read 0 (R19). -/
def State.countContent (s : State) (c : ChanId) : List Byte :=
  let x := s.chan c
  [byteOf (ChanId.num c)] ++ be32 x.count.toNat ++ sbe16 x.speed ++
    [bitsByte
      [x.enabled, x.clamp,
        match angularSide c with
        | some side => s.params.indexClear side
        | none => false,
        (angularSide c).isSome && x.homed,
        c == .gnd && s.ctu.groundFault,
        c == .gnd && s.ctu.source == .tmot]]

/-- A channel in READ_SNAP. -/
def SnapBuffer.chanBytes (b : SnapBuffer) (c : ChanId) : List Byte := be32 (b.counts.get c).toNat ++ sbe16 (b.speeds.get c)

/-- READ_SNAP. -/
def SnapBuffer.content (b : SnapBuffer) : List Byte :=
  [b.seq] ++ be32 b.uptime.toNat ++ be32 b.accumulator.toNat ++ b.chanBytes .gnd ++ b.chanBytes .tmot ++
    b.chanBytes .bmain ++ b.chanBytes .barml ++ b.chanBytes .barmr ++ b.chanBytes .slewl ++ b.chanBytes .slewr ++
    b.chanBytes .fan

/-! ## Power Budget Allocator -/

/-- A lane in READ_LANES. -/
def State.laneBytes (s : State) (l : LaneId) : List Byte :=
  let x := s.pba.lane l
  [byteOf (x.req.active.toNat + 2 * x.out.state.num + 8 * s.params.laneClass l + 32 * x.demandClamp.toNat +
      64 * x.flowClamp.toNat + 128 * x.levelClamp.toNat)] ++
    be16 x.req.demand ++ be16 x.req.floor ++ be16 x.req.flow ++ be16 x.out.grant ++ be16 x.out.flow

/-- READ_LANES (R44). -/
def State.lanesContent (s : State) : List Byte :=
  be16 s.pba.available ++ be16 s.pba.pressTraction ++ be16 s.pba.pressImplement ++ be16 s.pba.pressFan ++
    [sbe8 (s.pba.ambient.getD (-128)),
      bitsByte [s.pba.freshness == .fresh, s.pba.budgetClamp, s.pba.anyClamp]] ++
    be16 s.pba.budgetInEffect ++ [s.pba.allocNumber] ++ be16 s.pba.slack ++ [byteOf s.pba.shedCount] ++
    s.laneBytes .trac ++ s.laneBytes .main ++ s.laneBytes .fan ++ s.laneBytes .arml ++ s.laneBytes .armr ++
    s.laneBytes .spry

/-! ## Profile Table -/

/-- Is a profile the profile field of some ENGINE-owned descriptor? -/
def Sge.names (e : Sge) (i : Fin 8) : Bool :=
  e.ring.toList.any fun d => d.owner == .engine && d.request.settings.profile == i

/-- Is a profile in use (R49)? -/
def State.profileInUse (s : State) (i : Fin 8) : Bool :=
  (s.pft.active == i && (s.pft.profiles.get i).valid) || s.sge.names i

/-- PROFILE_READ (R50). -/
def State.profileContent (s : State) (i : Fin 8) : List Byte :=
  byteOf (s.pft.active.val + 8 * (s.pft.profiles.get i).valid.toNat + 16 * (s.profileInUse i).toNat) ::
    (s.pft.profiles.get i).bytes

/-! ## Travel Governor -/

/-- TRAVEL_READ (R75); "reversal pending" is the stop cause of R66 (log entry 17). -/
def State.travelContent (s : State) : List Byte :=
  let g := s.tgv
  [byteOf g.mode.num,
    bitsByte [g.direction == .rev, g.reqDirection == .rev, s.stopin, g.stopRequest, s.cabDown, g.reversalPending,
      g.stopReported, g.awaitingZero]] ++
    be16 g.reqSpeed ++ be16 (s.modeMax g.mode) ++ capBytes g.segCap ++ capBytes g.brushCapRead ++
    tractionCapBytes g.tractionCap ++ be16 g.demandSpeed ++ be16 g.targetSpeed ++ be16 g.commandedSpeed ++
    sbe16 s.measured ++ be16 g.pumpFwd ++ be16 g.pumpRev ++ be16 g.motor

/-! ## Arm Controller -/

/-- An arm in ARM_READ. -/
def State.armBytes (s : State) (side : Side) : List Byte :=
  let a := s.arm side
  [byteOf a.state.num, byteOf a.phase.num, byteOf a.cause.num] ++ sbe16 a.slewTarget ++ sbe32 (s.position side) ++
    [bitsByte [s.armHomed side, a.onTarget, a.deployPending, a.upSw, a.downSw, a.liftUp, a.liftDown]] ++
    be16 a.rpm ++ be16 a.stallTimer ++ [byteOf a.stallCount] ++ be16 a.slewPlus ++ be16 a.slewMinus ++ be16 a.brushLevel

/-- The pickup in ARM_READ. -/
def Pickup.bytes (u : Pickup) : List Byte :=
  [byteOf u.state.num, byteOf u.cause.num] ++ be16 u.mainRpm ++ be16 u.fanRpm ++ be16 u.stallTimer ++
    [byteOf u.stallCount, bitsByte [u.upSw, u.downSw, u.raiseValve, u.lowerValve]] ++ be16 u.mainLevel ++ be16 u.fanLevel

/-- ARM_READ (R98). -/
def State.armContent (s : State) : List Byte :=
  s.armBytes .left ++ s.armBytes .right ++ s.arc.pickup.bytes ++ capBytes s.arc.cap

/-! ## Claim Table -/

/-- An entry in CLAIM_READ: holder in bits 0 and 1, lender present in bit 2. -/
def Claim.byte (c : Claim) : Byte := byteOf (c.holder.num + 4 * c.lender.toNat)

/-- CLAIM_READ (R111). -/
def Clt.content (c : Clt) : List Byte := [c.armL.byte, c.armR.byte, c.pickup.byte, c.spray.byte]

/-! ## Spray Controller -/

/-- The terms word: bit k − 1 is Tk. -/
def Terms.byte (t : Terms) : Byte := bitsByte [t.t1, t.t2, t.t3, t.t4, t.t5, t.t6, t.t7]

/-- A bank in SPRAY_READ. -/
def Bank.bytes (b : Bank) : List Byte :=
  [bitsByte [b.enabled, b.widthClamp, b.terms.all, b.valve, b.doseShort]] ++ doseBytes b.dose ++ be16 b.doseInEffect ++
    be16 b.width ++ [b.terms.byte, byteOf (termNum b.firstFailing)] ++ be32 b.openTime ++ be16 b.remainder

/-- SPRAY_READ (R129). -/
def State.sprayContent (s : State) : List Byte :=
  let r := (s.pba.lane .spry).req
  be32 s.spc.estimate ++ [bitsByte [decide (s.spc.estimate ≤ s.params.reserve)]] ++ s.spc.banks.b0.bytes ++
    s.spc.banks.b1.bytes ++ s.spc.banks.b2.bytes ++ s.spc.banks.b3.bytes ++ [bitsByte [r.active]] ++ be16 r.demand ++
    be16 r.floor ++ be16 r.flow ++ be16 s.spc.pumpLevel

/-! ## Segment Engine -/

/-- Is a descriptor the current one (R135, R137)? -/
def Sge.isCurrent (e : Sge) (i : Fin 32) : Bool := e.present && e.cursor == i

/-- DESC_READ (R135). -/
def Sge.descContent (e : Sge) (i : Fin 32) : List Byte :=
  let d := e.ring.get i
  [byteOf i.val, bitsByte [d.owner == .engine, e.isCurrent i, d.result.isSome]] ++ d.request.bytes ++
    resultBytes d.result

/-- The settings in force in PGM_READ: thirteen bytes. -/
def settingsBytes : Option Settings → List Byte
  | none => List.replicate 13 0
  | some st => capBytes st.speedCap ++ st.bytes

/-- The ownership of the ring as one number: descriptor n has the weight 2 to the power n. -/
def ownerNum : List Descriptor → Nat
  | [] => 0
  | d :: rest => (d.owner == .engine).toNat + 2 * ownerNum rest

/-- PGM_READ (R155). -/
def Sge.content (e : Sge) : List Byte :=
  [byteOf e.state.num, byteOf e.suspendCause.num, byteOf e.returnState.num, byteOf e.cursor.val,
    bitsByte [e.present, e.settings.isSome], byteOf e.startPort.num, byteOf e.endKind.num] ++
    settingsBytes e.settings ++ be32 e.figures.distance ++ be32 e.figures.leadIn ++ be32 e.figures.water ++
    [byteOf e.figures.stalls, e.figures.flags.byte] ++ be32 e.unplanned ++ be16 e.completed ++
    be32 (ownerNum e.ring.toList)

/-! ## Configuration Store and ports -/

/-- CFG_READ (R176). -/
def Cfs.content (c : Cfs) (i : Fin 64) : List Byte :=
  [byteOf i.val] ++ sbe32 (c.pendingSet.val i) ++
    sbe32 (match c.activeSet with
      | some p => p.val i
      | none => 0) ++
    [bitsByte [c.ready, c.activeSet.isSome], byteOf c.commitResult.num]

/-- The link byte of NOTICE_READ. -/
def State.linkByte (s : State) : Byte :=
  bitsByte [s.ports.cab.link == .silent, s.ports.cab.inReset, s.ports.chassis.link == .silent, s.ports.chassis.inReset,
    s.ports.route.link == .silent, s.ports.route.inReset]

/-- NOTICE_READ (R166). -/
def State.noticeContent (s : State) (p : PortId) : List Byte :=
  be24 (s.port p).notices.toNat ++ be24 (s.port p).mask.toNat ++ [s.linkByte]

end Sys2Proof.Machine
end

