-- ==== Sys2Proof/Machine/Configuration.lean ====
section
/-! DEFINITION. The meanings of CFG_WRITE and CFG_COMMIT, with the commit rule of every block (Chapter 10; R20, R45, R76,
R99, R130, R168). -/

namespace Sys2Proof.Machine

/-! ## CFG_WRITE (R175) -/

/-- The value a CFG_WRITE carries. -/
def valueOf (f : Frame) : Int :=
  s32 (f.payload.getD 1 0) (f.payload.getD 2 0) (f.payload.getD 3 0) (f.payload.getD 4 0)

/-- What CFG_WRITE does (R175). -/
def cfgWriteBody (f : Frame) (t : State) : Done :=
  match paramIdOf (f.payload.getD 0 0) with
  | none => t.done .range
  | some i =>
    if paramInRange i (valueOf f) then
      ({ t with cfs := { t.cfs with pendingSet := t.cfs.pendingSet.write i (valueOf f) } } : State).done .ok
    else t.done .range

/-- CFG_WRITE (R175). -/
def execCfgWrite (f : Frame) (s : State) : Host.Outcome State Fault Refusal :=
  .next (s.transact .cfgWrite f (cfgWriteBody f))

/-! ## CFG_COMMIT (R177, R178) -/

/-- Test 1 of R177 in READY: PARKED, the engine IDLE, both arms STOWED, the pickup UP. -/
def State.atRest (s : State) : Bool :=
  s.tgv.mode == .parked && s.sge.state == .idle && s.arc.left.state == .stowed && s.arc.right.state == .stowed &&
    s.arc.pickup.state == .up

/-- Test 2 of R177: the first cross-check that fails, or none. -/
def Params.crossCheck (p : Params) : CommitResult :=
  if p.slewMax ≤ p.slewMin then .slewLimits
  else if p.transportMax < 4000 then .transportMax
  else if 2500 < p.tractionFloor then .tractionFloor
  else if 2500 < p.fallback then .fallback
  else .none

/-- A channel at a commit: enabled, its gate started or restarted (R20). -/
def Channel.committed (x : Channel) (gate : Nat) : Channel :=
  { x with enabled := true, gateRef := x.count, gateTimer := some gate }

/-- The Counter Unit at a commit (R20). -/
def Ctu.committed (u : Ctu) (p : Params) : Ctu :=
  { u with
    chans := .ofFn fun c => (u.chans.get c).committed (p.gate c)
    markProgress := 0
    persistence := 0 }

/-- A lane at a commit: published inactive, IDLE with grant 0 (R45, R76, R99, R130). -/
def Lane.committed (l : Lane) : Lane := { l with req := LaneReq.inactive, out := LaneOut.idle }

/-- The Power Budget Allocator at a commit (R45). -/
def Pba.committed (b : Pba) : Pba :=
  { b with
    freshness := .stale, freshTimer := none, pressTraction := 0, pressImplement := 0, pressFan := 0, ambient := none
    lanes := .ofFn fun l => (b.lane l).committed
    slack := 0, allocTimer := some 20 }

/-- The Travel Governor at a commit (R76). -/
def Tgv.committed (g : Tgv) : Tgv :=
  { g with
    mode := .parked, reqSpeed := 0, demandSpeed := 0, targetSpeed := 0, commandedSpeed := 0, tractionCap := none
    segCap := none, stopRequest := false, pumpFwd := 0, pumpRev := 0, motor := 0, updateTimer := some 10 }

/-- The Arm Controller at a commit (R99). -/
def Arc.committed (a : Arc) : Arc := { a with cap := none, updateTimer := some 10 }

/-- A port at a commit: outside port reset its silence timer restarts at the new limit (R168). -/
def Port.committed (x : Port) (limit : Nat) : Port :=
  { x with silenceTimer := if x.inReset then x.silenceTimer else some limit }

/-- The store at a commit (R178). -/
def Cfs.committed (c : Cfs) : Cfs := { c with ready := true, activeSet := some c.pendingSet, commitResult := .none }

/-- The Spray Controller's widths at a commit (R120, R130). -/
def Spc.committed (c : Spc) (p : Params) : Spc :=
  { c with banks := c.banks.map fun i b => b.rewidth p i, pumpLevel := 0 }

/-- Does the commit set a WIDTH_CLAMP that was clear (R120)? -/
def Spc.clampedAtCommit (c : Spc) (p : Params) : Bool :=
  c.banks.any fun i b => (b.rewidth p i).widthClamp && !b.widthClamp

/-- The blocks' own commit rules, all in one act; the terms are evaluated on what they leave (R178). -/
def State.commitBlocks (s : State) : State :=
  let p := s.cfs.pendingSet
  { s with
    cfs := s.cfs.committed
    ctu := s.ctu.committed p
    pba := s.pba.committed
    tgv := s.tgv.committed
    arc := s.arc.committed
    spc := s.spc.committed p
    ports := postAllIf (postAllIf (.ofFn fun q => (s.ports.get q).committed (p.silenceLimit q)) .cfgDone true) .clamp
      (s.spc.clampedAtCommit p) }

/-- A successful commit (R178). -/
def State.commit (s : State) : State := s.commitBlocks.settleBanks

/-- What CFG_COMMIT does (R177). -/
def cfgCommitBody (t : State) : Done :=
  if t.cfs.ready && !t.atRest then t.done .state
  else
    match t.cfs.pendingSet.crossCheck with
    | .none => t.commit.done .ok
    | failed => ({ t with cfs := { t.cfs with commitResult := failed } } : State).done .range

/-- CFG_COMMIT (R177, R178). -/
def execCfgCommit (f : Frame) (s : State) : Host.Outcome State Fault Refusal :=
  .next (s.transact .cfgCommit f cfgCommitBody)

end Sys2Proof.Machine
end

