-- ==== Sys2Proof/Machine/Counter.lean ====
section
/-! DEFINITION. The meanings of the Counter Unit's commands and events (Chapter 1): SNAPSHOT, the channel commands, edges,
the index, gates, the uptime. -/

namespace Sys2Proof.Machine

/-- After a change at the Counter Unit: where the measured travel speed has changed, the Spray Controller takes it (R13,
R116). -/
def State.speedRefresh (t s : State) : State := t.refreshIf (t.measured != s.measured)

/-! ## Snapshots (R18) -/

/-- A buffer after SNAPSHOT: everything latched in one act (R18). -/
def Ctu.latched (u : Ctu) (b : SnapBuffer) : SnapBuffer :=
  { empty := false, seq := b.nextSeq, counts := .ofFn fun c => (u.chans.get c).count,
    speeds := .ofFn fun c => (u.chans.get c).speed, accumulator := u.accumulator, uptime := u.uptime,
    nextSeq := b.nextSeq + 1 }

/-- What SNAPSHOT does (R18). -/
def snapshotBody (f : Frame) (t : State) : Done :=
  ({ t with ctu := { t.ctu with snaps := t.ctu.snaps.set f.port (t.ctu.latched (t.ctu.snaps.get f.port)) } } :
    State).done .ok

/-- SNAPSHOT (R18). -/
def execSnapshot (f : Frame) (s : State) : Host.Outcome State Fault Refusal :=
  .next (s.transact .snapshot f (snapshotBody f))

/-! ## Channel commands (R4, R9, R10, R16) -/

/-- A request for one channel: RANGE where the byte names none (R4). -/
def forChannel (f : Frame) (t : State) (act : ChanId → Done) : Done :=
  match chanOf (f.payload.getD 0 0) with
  | none => t.done .range
  | some c => act c

/-- A disabled channel after CH_ENABLE: its gate starts (R4). -/
def Channel.enable (x : Channel) (gate : Nat) : Channel :=
  { x with enabled := true, gateRef := x.count, gateTimer := some gate }

/-- What CH_ENABLE does (R4). -/
def chEnableBody (f : Frame) (t : State) : Done :=
  forChannel f t fun c =>
    if (t.chan c).enabled then t.done .ok
    else (t.setChan c ((t.chan c).enable (t.params.gate c))).done .ok

/-- CH_ENABLE (R4). -/
def execChEnable (f : Frame) (s : State) : Host.Outcome State Fault Refusal :=
  .next (s.transact .chEnable f (chEnableBody f))

/-- An enabled channel after CH_DISABLE (R4). -/
def Channel.disable (x : Channel) : Channel := { x with enabled := false, gateTimer := none, speed := 0, homed := false }

/-- The plausibility persistence after a channel has been disabled (R14). -/
def Ctu.persistenceAfterDisable (u : Ctu) (c : ChanId) : Nat := if c = .gnd then 0 else u.persistence

/-- What CH_DISABLE does (R4, R14). -/
def chDisableBody (f : Frame) (t : State) : Done :=
  forChannel f t fun c =>
    if (t.chan c).enabled then
      (({ t with ctu := { t.ctu.setChan c (t.chan c).disable with
            persistence := t.ctu.persistenceAfterDisable c } } : State).speedRefresh t).done .ok
    else t.done .ok

/-- CH_DISABLE (R4, R14). -/
def execChDisable (f : Frame) (s : State) : Host.Outcome State Fault Refusal :=
  .next (s.transact .chDisable f (chDisableBody f))

/-- The extended count that SET_COUNT carries. -/
def countOf (f : Frame) : Word :=
  BitVec.ofNat 32 (u32 (f.payload.getD 1 0) (f.payload.getD 2 0) (f.payload.getD 3 0) (f.payload.getD 4 0))

/-- What SET_COUNT does (R9). -/
def setCountBody (f : Frame) (t : State) : Done :=
  forChannel f t fun c =>
    if (t.chan c).enabled then t.done .state
    else (t.setChan c { (t.chan c).load (countOf f) with homed := false }).done .ok

/-- SET_COUNT (R9). -/
def execSetCount (f : Frame) (s : State) : Host.Outcome State Fault Refusal :=
  .next (s.transact .setCount f (setCountBody f))

/-- A channel after CH_CLEAR; the gate of an enabled channel restarts (R10). -/
def Channel.cleared (x : Channel) (gate : Nat) : Channel :=
  { x with
    hw := 0, ext := 0, speed := 0, clamp := false, homed := false
    gateRef := if x.enabled then 0 else x.gateRef
    gateTimer := if x.enabled then some gate else x.gateTimer }

/-- What CH_CLEAR does (R10). -/
def chClearBody (f : Frame) (t : State) : Done :=
  forChannel f t fun c => ((t.setChan c ((t.chan c).cleared (t.params.gate c))).speedRefresh t).done .ok

/-- CH_CLEAR (R10). -/
def execChClear (f : Frame) (s : State) : Host.Outcome State Fault Refusal :=
  .next (s.transact .chClear f (chClearBody f))

/-- What GND_FAULT_CLEAR does (R16). -/
def gndFaultClearBody (t : State) : Done :=
  if t.ctu.groundFault then
    if t.ctu.condition then t.done .state
    else
      (({ t with ctu := { t.ctu with groundFault := false, persistence := 0, source := .gnd } } :
        State).speedRefresh t).done .ok
  else t.done .ok

/-- GND_FAULT_CLEAR (R16). -/
def execGndFaultClear (f : Frame) (s : State) : Host.Outcome State Fault Refusal :=
  .next (s.transact .gndFaultClear f gndFaultClearBody)

/-! ## Edges (R1, R2, R11) -/

/-- What a change of the A and B levels means for the count (R1). -/
inductive Edge where
  | up | down | none
  deriving DecidableEq, Repr

/-- The edge between two successive samples of A and B: a change of one input counts up where A leads B, so on A rising
while B is low, B rising while A is high, A falling while B is high, B falling while A is low; a change of both gives no
direction (R1). -/
def edgeOf (a b a' b' : Bool) : Edge :=
  if a = a' ∧ b = b' then .none
  else if a ≠ a' ∧ b ≠ b' then .none
  else if a ≠ a' then (if a' = b then .down else .up)
  else if b' = a then .up
  else .down

/-- A channel with its inputs at new levels. -/
def Channel.sampled (x : Channel) (a b : Bool) : Channel := { x with levelA := a, levelB := b }

/-- The channel with its inputs sampled and an edge counted (R1, R3). -/
def Channel.counted (x : Channel) (e : Edge) : Channel :=
  match e with
  | .up => x.up
  | .down => x.down
  | .none => x

/-- Does the channel count edges: enabled, and not held by its index (R1, R7)? -/
def State.counts (s : State) (c : ChanId) : Bool := (s.chan c).enabled && !s.countHeld c

/-- A counted edge: the count changes, and a forward count on the distance source builds distance (R1, R11). -/
def State.countEdge (s : State) (c : ChanId) (e : Edge) : State :=
  let t := s.setChan c ((s.chan c).counted e)
  if e = .up ∧ s.ctu.source.chan = c then t.forwardCount else t

/-- QUADRATURE_CHANGE: the levels of A and B as now sampled (R1). -/
def execQuadratureChange (ch : QuadChan) (a b : Bool) (s : State) : Host.Outcome State Fault Refusal :=
  let c := QuadChan.chan ch
  let e := edgeOf (s.chan c).levelA (s.chan c).levelB a b
  let t := s.setChan c ((s.chan c).sampled a b)
  .next (if !s.rstnHeld && s.counts c then t.countEdge c e else t)

/-- PULSE_RISING_EDGE (R2). -/
def execPulseRisingEdge (ch : PulseChan) (s : State) : Host.Outcome State Fault Refusal :=
  let c := PulseChan.chan ch
  .next (if !s.rstnHeld && (s.chan c).enabled then s.setChan c (s.chan c).up else s)

/-! ## The index (R7, R8, R86) -/

/-- A channel whose count the index has cleared; the speed keeps its value (R7). -/
def Channel.indexCleared (x : Channel) (gate : Nat) : Channel :=
  { x with hw := 0, ext := 0, homed := true, gateRef := 0, gateTimer := some gate }

/-- INDEX_ACTIVE: the index input of an ANGULAR channel becomes active (R7). -/
def execIndexActive (side : Side) (s : State) : Host.Outcome State Fault Refusal :=
  let c := slewChan side
  let x := s.chan c
  let t := s.setChan c { x with index := true }
  .next
    (if x.index || s.rstnHeld || !x.enabled || !s.params.indexClear side then t
     else (t.setChan c (({ x with index := true } : Channel).indexCleared (s.params.gate c))).indexEvent side)

/-- INDEX_INACTIVE: counting resumes from the held value with the next counted change (R7). -/
def execIndexInactive (side : Side) (s : State) : Host.Outcome State Fault Refusal :=
  let c := slewChan side
  .next (s.setChan c { s.chan c with index := false })

/-! ## Gates and ground plausibility (R5, R6, R14, R15) -/

/-- The exact speed of the gate that ends now (R5). -/
def State.gateSpeed (s : State) (c : ChanId) : Int := rawSpeed s.params c (gateDelta c (s.chan c))

/-- A channel at the expiry of its gate (R5, R6). -/
def Channel.gated (x : Channel) (raw : Int) (gate : Nat) : Channel :=
  { x with
    speed := limitSpeed raw
    clamp := x.clamp || speedSaturates raw
    gateRef := x.count
    gateTimer := some gate }

/-- The speed of a gate published: the channel, the CLAMP notice, and what the Spray Controller makes of the speed (R5, R6,
R13, R116). -/
def State.publishSpeed (s : State) (c : ChanId) : State :=
  (({ s with
    ctu := s.ctu.setChan c ((s.chan c).gated (s.gateSpeed c) (s.params.gate c))
    ports := postAllIf s.ports .clamp (speedSaturates (s.gateSpeed c) && !(s.chan c).clamp) } : State)).speedRefresh s

/-- The plausibility condition on the speeds as published (R14). -/
def Ctu.implausible (u : Ctu) : Bool := decide (500 < u.chans.tmot.speed.natAbs) && u.chans.gnd.speed == 0

/-- The condition and the persistence after an evaluation (R14). -/
def Ctu.evaluated (u : Ctu) (gate : Nat) : Ctu :=
  { u with condition := u.implausible, persistence := if u.implausible then u.persistence + gate else 0 }

/-- The ground fault is set: the source becomes TMOT and GROUND_FAULT is posted (R15). -/
def State.setGroundFault (s : State) : State :=
  ((({ s with ctu := { s.ctu with groundFault := true, source := .tmot } } : State).post .groundFault)).speedRefresh s

/-- The evaluation at a GND gate expiry (R14). -/
def State.plausibility (s : State) : State :=
  let t := ({ s with ctu := s.ctu.evaluated (s.params.gate .gnd) } : State)
  if 1000 ≤ t.ctu.persistence ∧ !t.ctu.groundFault then t.setGroundFault else t

/-- GATE_EXPIRY (R5). -/
def execGateExpiry (ch : ChanId) (s : State) : Host.Outcome State Fault Refusal :=
  .next
    (if (s.chan ch).enabled && (s.chan ch).gateTimer.ranOut then
      let t := s.publishSpeed ch
      if ch = .gnd then t.plausibility else t
     else s)

/-! ## Uptime (R17) -/

/-- A channel's gate timer one millisecond on. -/
def Channel.ticked (x : Channel) : Channel := { x with gateTimer := tickTimer x.gateTimer }

/-- A bank one millisecond on: the pulse timer, and the open time of an open valve, which holds at its maximum (R124). -/
def Bank.ticked (b : Bank) : Bank :=
  { b with pulseTimer := tickTimer b.pulseTimer, openTime := if b.valve then min maxU32 (b.openTime + 1) else b.openTime }

/-- A port's silence timer one millisecond on. -/
def Port.ticked (x : Port) : Port := { x with silenceTimer := tickTimer x.silenceTimer }

/-- One millisecond: the uptime counts, every running timer has one millisecond less left, and every open valve has been
open one millisecond more (R17, R124; log entry 2). -/
def State.millisecond (s : State) : State :=
  { s with
    ctu := { s.ctu with uptime := s.ctu.uptime + 1, chans := .ofFn fun c => (s.ctu.chans.get c).ticked }
    pba := { s.pba with freshTimer := tickTimer s.pba.freshTimer, allocTimer := tickTimer s.pba.allocTimer }
    tgv := { s.tgv with updateTimer := tickTimer s.tgv.updateTimer }
    arc := { s.arc with
      left := { s.arc.left with moveTimer := tickTimer s.arc.left.moveTimer }
      right := { s.arc.right with moveTimer := tickTimer s.arc.right.moveTimer }
      pickup := { s.arc.pickup with moveTimer := tickTimer s.arc.pickup.moveTimer }
      updateTimer := tickTimer s.arc.updateTimer }
    spc := { s.spc with banks := s.spc.banks.map fun _ b => b.ticked }
    ports := .ofFn fun p => (s.ports.get p).ticked }

/-- UPTIME_TICK (R17): while RSTN is held the uptime stays at 0 (R21). -/
def execUptimeTick (s : State) : Host.Outcome State Fault Refusal := .next (if s.rstnHeld then s else s.millisecond)

end Sys2Proof.Machine
end

