-- ==== Sys2Proof/Machine/Lines.lean ====
section
/-! DEFINITION. The meanings of the stop input, the port resets, the full resets and the silence timers (R73, R97, R118,
R151, R164, R168 to R172, and the reset rule of each block). -/

namespace Sys2Proof.Machine

/-! ## STOPIN -/

/-- T7 of every bank follows STOPIN while the part is held in reset (R131). -/
def Spc.followStop (c : Spc) (stopin : Bool) : Spc :=
  { c with banks := c.banks.map fun _ b => { b with terms := { b.terms with t7 := !stopin } } }

/-- The effects of an assertion, the Spray Controller taking STOPIN first: every valve closes (R118), arms and pickup lift
(R97), the engine suspends (R151), STOP_INPUT is posted (R164). -/
def State.stopEffects (s : State) : State :=
  (((((({ s with stopin := true } : State).sprayRefresh).stopArm .left).stopArm .right).stopPickup).engineStopInput).post
    .stopInput

/-- The event by which a bank's equipment reaches the Spray Controller. -/
def equipEvent : BankId → Config.StopEvent
  | .b0 => .leftArm
  | .b1 => .rightArm
  | .b2 | .b3 => .pickup

/-- A fixed number for each event, which parts two events of one rank. -/
def eventNum : Config.StopEvent → Nat
  | .stopin => 0
  | .leftArm => 1
  | .rightArm => 2
  | .pickup => 3

/-- Does the Spray Controller take one event of an assertion before another? A strict order for every rank function. -/
def takenBefore (rank : Config.StopEvent → Nat) (x y : Config.StopEvent) : Bool :=
  decide (rank x < rank y) || (rank x == rank y && decide (eventNum x < eventNum y))

/-- Does the order matter for a bank: its permissive was true, and its equipment has left WORKING on the assertion? -/
def raced (s t : State) (i : BankId) : Bool :=
  (s.spc.banks.get i).terms.all && s.arc.equipWorking i && !t.arc.equipWorking i

/-- The first event that reaches a bank: STOPIN or the lift of its equipment, whichever is taken first. -/
def firstEvent (rank : Config.StopEvent → Nat) (i : BankId) : Config.StopEvent :=
  if takenBefore rank (equipEvent i) .stopin then equipEvent i else .stopin

/-- The open valves that close before any event has reached bank i: those of the banks whose equipment's lift is taken before
it. Bank i is never one of them. -/
def closedBefore (rank : Config.StopEvent → Nat) (s t : State) (i j : BankId) (b : Bank) : Bool :=
  b.valve && raced s t j && takenBefore rank (equipEvent j) (firstEvent rank i)

/-- The term that a bank latches (R119): T2 where the closings before its first event have taken the estimate to the reserve
(R124), else T7 on STOPIN and T4 on the lift of its equipment. -/
def latchedTerm (rank : Config.StopEvent → Nat) (s t : State) (i : BankId) : Term :=
  if crossesReserve s.params.reserve s.spc.estimate (s.spc.estimate - s.closingMl (closedBefore rank s t i)) then .t2
  else if firstEvent rank i = .stopin then .t7
  else .t4

/-- A bank's latch as the unknown order of the events of one assertion leaves it (R119). -/
def latchOf (s t : State) (i : BankId) (b : Bank) : Bank :=
  if raced s t i then { b with firstFailing := some (latchedTerm (Config.stopRank s.raceCount) s t i) } else b

/-- The first failing terms as the unknown order of the events of one assertion leaves them (R119; log entry 10): the order is
a free value, one for all four banks. -/
def resolveLatch (s t : State) : State :=
  { t with
    raceCount := s.raceCount + 1
    spc := { t.spc with banks := t.spc.banks.map fun i b => latchOf s t i b } }

/-- STOPIN_ASSERTED (R73, R97, R118, R151, R164). -/
def execStopinAsserted (s : State) : Host.Outcome State Fault Refusal :=
  .next
    (if s.stopin then s
     else if s.rstnHeld then { s with stopin := true, spc := s.spc.followStop true }
     else resolveLatch s s.stopEffects)

/-- STOPIN_RELEASED: the drive is re-armed, T7 becomes true again, STOP_INPUT is posted (R71, R73, R118, R164). -/
def execStopinReleased (s : State) : Host.Outcome State Fault Refusal :=
  .next
    (if !s.stopin then s
     else if s.rstnHeld then { s with stopin := false, spc := s.spc.followStop false }
     else (({ s with stopin := false } : State).rearm.sprayRefresh).post .stopInput)

/-! ## Port reset (R170, R171) -/

/-- A port as PRSTN leaves it; the data-out line is held at 0, so no byte of an earlier response stands on it (R170; log entry
37). -/
def Port.portReset (x : Port) : Port :=
  { x with
    response := Response.emptyFrame, held := none, notices := 0, mask := BitVec.allOnes 17, link := .active
    inReset := true, silenceTimer := none, shifted := [] }

/-- A snapshot buffer as a port reset leaves it: empty, its content no longer readable (R19, section 1.3). -/
def SnapBuffer.portReset (b : SnapBuffer) : SnapBuffer := { b with empty := true, seq := 0, nextSeq := 0 }

/-- A port reset, before the consequences for the cab (R170). -/
def State.portReset (s : State) (p : PortId) : State :=
  { s with
    ports := s.ports.set p (s.ports.get p).portReset
    ctu := { s.ctu with snaps := s.ctu.snaps.set p (s.ctu.snaps.get p).portReset } }

/-- PRSTN_ASSERTED (R170). -/
def execPrstnAsserted (port : PortId) (s : State) : Host.Outcome State Fault Refusal :=
  .next
    (if (s.port port).inReset then s
     else if s.rstnHeld then s.setPort port { s.port port with inReset := true, silenceTimer := none, shifted := [] }
     else if port = .cab then (s.portReset .cab).cabLost
     else s.portReset port)

/-- PRSTN_RELEASED (R171). -/
def execPrstnReleased (port : PortId) (s : State) : Host.Outcome State Fault Refusal :=
  .next
    (if !(s.port port).inReset then s
     else
      s.setPort port { s.port port with
        inReset := false
        silenceTimer := if s.rstnHeld then none else some (s.params.silenceLimit port) })

/-! ## Silence (R168, R169) -/

/-- A port whose silence timer has expired (R168). -/
def Port.silent (x : Port) : Port := { x with link := .silent, silenceTimer := none }

/-- SILENCE_TIMER_EXPIRY (R168, R169): after a frame that restarted the timer it does not happen; on a SILENT port the timer
just stops (log entry 26). -/
def execSilenceTimerExpiry (port : PortId) (s : State) : Host.Outcome State Fault Refusal :=
  .next
    (if (s.port port).silenceTimer.ranOut then
      let t := s.setPort port (s.port port).silent
      if port = .cab ∧ (s.port port).link = .active then t.cabLost else t
     else s)

/-! ## Full reset (R21, R46, R58, R77, R100, R112, R131, R156, R172, R179) -/

/-- A channel after a full reset: its inputs keep their levels (R21). -/
def Channel.fullReset (x : Channel) : Channel :=
  { Channel.reset with levelA := x.levelA, levelB := x.levelB, index := x.index }

/-- An arm after a full reset: its switches keep their levels (R100). -/
def Arm.fullReset (a : Arm) : Arm := { Arm.reset with upSw := a.upSw, downSw := a.downSw }

/-- The pickup after a full reset (R100). -/
def Pickup.fullReset (u : Pickup) : Pickup := { Pickup.reset with upSw := u.upSw, downSw := u.downSw }

/-- The silence timer of a port when RSTN is released or was never held (R172). -/
def startedSilence (held inReset : Bool) : Timer := if held || inReset then none else some 1000

/-- A port after a full reset: a PRSTN held asserted keeps it in reset (R172). -/
def Port.fullReset (x : Port) (held : Bool) : Port :=
  { Port.reset with inReset := x.inReset, silenceTimer := startedSilence held x.inReset }

/-- RSTN after a full reset: held by an assertion of RSTN, left as it is by a power-on reset (log entry 6). -/
def rstnAfter (kind : ResetKind) (held : Bool) : Bool :=
  match kind with
  | .rstn => true
  | .powerOn => held

/-- The part after a full reset: every block at its reset values, every input pin at its level, the queue untouched. -/
def State.fullReset (s : State) (held : Bool) : State :=
  { State.reset with
    rstnHeld := held
    stopin := s.stopin
    ctu := { Ctu.reset with chans := .ofFn fun c => (s.ctu.chans.get c).fullReset }
    arc := { Arc.reset with
      left := s.arc.left.fullReset, right := s.arc.right.fullReset, pickup := s.arc.pickup.fullReset }
    spc := Spc.reset.followStop s.stopin
    ports := .ofFn fun p => (s.ports.get p).fullReset held
    raceCount := s.raceCount
    pending := s.pending }

/-- FULL_RESET (00_scope.md 4.5). -/
def execFullReset (kind : ResetKind) (s : State) : Host.Outcome State Fault Refusal :=
  .next (s.fullReset (rstnAfter kind s.rstnHeld))

/-- RSTN_RELEASE: the silence timer of every port that PRSTN does not hold in reset starts at 1000 ms (R172). -/
def execRstnRelease (s : State) : Host.Outcome State Fault Refusal :=
  .next
    (if s.rstnHeld then
      { s with
        rstnHeld := false
        ports := .ofFn fun p => { s.ports.get p with silenceTimer := startedSilence false (s.ports.get p).inReset } }
     else s)

end Sys2Proof.Machine
end

