-- ==== Sys2Proof/Machine/Link.lean ====
section
/-! DEFINITION. The meanings of the link commands and of the transactions that name no command: NOP, BAD_FRAME,
UNKNOWN_COMMAND, NOTICE_READ, NOTICE_MASK (R157 to R167). -/

namespace Sys2Proof.Machine

/-- NOP (R163). -/
def execNop (f : Frame) (s : State) : Host.Outcome State Fault Refusal :=
  .next (if s.deaf f.port then s.ignored f.port f.size else s.nopServed f)

/-- BAD_FRAME: refused with LENGTH or CRC (R158). -/
def execBadFrame (port : PortId) (bytes : List Byte) (s : State) : Host.Outcome State Fault Refusal :=
  if bytes = [] then .refused .illFormed
  else
    match frameFault bytes with
    | none => .refused .illFormed
    | some st => .next (if s.deaf port then s.ignored port bytes.length else s.badServed port bytes st)

/-- UNKNOWN_COMMAND: a valid frame whose code names no command (R160, test 1). -/
def execUnknownCommand (code : Byte) (f : Frame) (s : State) : Host.Outcome State Fault Refusal :=
  match Cmd.ofCode code with
  | some _ => .refused .illFormed
  | none => .next (if s.deaf f.port then s.ignored f.port f.size else ((s.atBlock f).done .unknown).answer f.port code)

/-- What NOTICE_READ does: the content is formed and the notice set becomes empty (R166). -/
def noticeReadBody (f : Frame) (t : State) : Done :=
  (t.setPort f.port { t.port f.port with notices := 0 }).readOk (t.noticeContent f.port)

/-- NOTICE_READ (R166). -/
def execNoticeRead (f : Frame) (s : State) : Host.Outcome State Fault Refusal :=
  .next (s.transact .noticeRead f (noticeReadBody f))

/-- The 24 bits of a NOTICE_MASK. -/
def maskOf (f : Frame) : Nat := u24 (f.payload.getD 0 0) (f.payload.getD 1 0) (f.payload.getD 2 0)

/-- What NOTICE_MASK does (R167). -/
def noticeMaskBody (f : Frame) (t : State) : Done :=
  if 131072 ≤ maskOf f then t.done .range
  else (t.setPort f.port { t.port f.port with mask := BitVec.ofNat 17 (maskOf f) }).done .ok

/-- NOTICE_MASK (R167). -/
def execNoticeMask (f : Frame) (s : State) : Host.Outcome State Fault Refusal :=
  .next (s.transact .noticeMask f (noticeMaskBody f))

end Sys2Proof.Machine
end

