-- ==== Sys2Proof/Machine/Power.lean ====
section
/-! DEFINITION. The meanings of the Power Budget Allocator's commands and events (Chapter 2): BUDGET, LANES_CLEAR, the
freshness expiry, the allocation period expiry. -/

namespace Sys2Proof.Machine

/-! ## BUDGET (R22, R23, R25) -/

/-- The values a BUDGET frame carries (section 11.3.1). -/
structure BudgetFields where
  available : Nat
  traction : Nat
  implement : Nat
  fan : Nat
  ambient : Option Int
  deriving DecidableEq, Repr

/-- The fields of the nine payload bytes. -/
def budgetFields (p : List Byte) : BudgetFields :=
  { available := u16 (p.getD 0 0) (p.getD 1 0), traction := u16 (p.getD 2 0) (p.getD 3 0),
    implement := u16 (p.getD 4 0) (p.getD 5 0), fan := u16 (p.getD 6 0) (p.getD 7 0), ambient := ambientOf (p.getD 8 0) }

/-- The fields as they are written: available power at most 2500, pressures at most 500, ambient in −40 to 85 (R22). -/
def BudgetFields.limited (b : BudgetFields) : BudgetFields :=
  { available := min b.available 2500, traction := min b.traction 500, implement := min b.implement 500,
    fan := min b.fan 500, ambient := b.ambient.map (limit (-40) 85) }

/-- The budget record after an accepted frame (R22, R23, R25). -/
def Pba.withBudget (b : Pba) (v : BudgetFields) (freshLimit : Nat) : Pba :=
  { b with
    available := v.limited.available
    pressTraction := v.limited.traction
    pressImplement := v.limited.implement
    pressFan := v.limited.fan
    ambient := match v.limited.ambient with
      | some a => some a
      | none => b.ambient
    freshness := .fresh
    freshTimer := some freshLimit
    budgetClamp := b.budgetClamp || decide (2500 < v.available) }

/-- What BUDGET does: the record, CLAMP where BUDGET_CLAMP is newly set, and what the Spray Controller makes of the ambient
and the implement pressure (R22, R23, R116, R127). -/
def budgetBody (f : Frame) (t : State) : Done :=
  let v := budgetFields f.payload
  let u := ({ t with
    pba := t.pba.withBudget v t.params.freshLimit
    ports := postAllIf t.ports .clamp (decide (2500 < v.available) && !t.pba.budgetClamp) } : State)
  ((u.refreshIf (u.pba.ambient != t.pba.ambient)).publishSpry).done (if v.limited = v then .ok else .clamped)

/-- BUDGET (R22). -/
def execBudget (f : Frame) (s : State) : Host.Outcome State Fault Refusal :=
  .next (s.transact .budget f (budgetBody f))

/-! ## LANES_CLEAR, expiries -/

/-- The table with its flags and its shed count cleared (R43). -/
def Pba.cleared (b : Pba) : Pba :=
  { b with lanes := .ofFn fun l => (b.lane l).clearClamps, budgetClamp := false, shedCount := 0 }

/-- LANES_CLEAR (R43). -/
def execLanesClear (f : Frame) (s : State) : Host.Outcome State Fault Refusal :=
  .next (s.transact .lanesClear f fun t => ({ t with pba := t.pba.cleared } : State).done .ok)

/-- The budget becomes STALE on its timer (R24). -/
def State.staled (s : State) : State :=
  ({ s with pba := { s.pba with freshness := .stale, freshTimer := none }, sge := s.sge.noteStale } : State).post
    .budgetStale

/-- FRESHNESS_EXPIRY (R24): after a frame that restarted the timer it does not happen (R25). -/
def execFreshnessExpiry (s : State) : Host.Outcome State Fault Refusal :=
  .next (if s.pba.freshness = .fresh ∧ s.pba.freshTimer.ranOut then s.staled else s)

/-- ALLOCATION_PERIOD_EXPIRY (R30). -/
def execAllocationPeriodExpiry (s : State) : Host.Outcome State Fault Refusal :=
  .next (if s.pba.allocTimer.ranOut then s.allocate else s)

end Sys2Proof.Machine
end

