-- ==== Sys2Proof/Machine/ProfileCommands.lean ====
section
/-! DEFINITION. The meanings of PROFILE_SELECT and PROFILE_WRITE (Chapter 3). -/

namespace Sys2Proof.Machine

/-- What PROFILE_SELECT does (R52). -/
def profileSelectBody (f : Frame) (t : State) : Done :=
  if t.sge.state ≠ .idle then t.done .state
  else
    match profileIndexOf (f.payload.getD 0 0) with
    | none => t.done .range
    | some i => if (t.pft.profiles.get i).valid then (t.activateProfile i).done .ok else t.done .range

/-- PROFILE_SELECT (R52). -/
def execProfileSelect (f : Frame) (s : State) : Host.Outcome State Fault Refusal :=
  .next (s.transact .profileSelect f (profileSelectBody f))

/-- Do four brush speeds lie in 0 to 400 and never fall (R47)? -/
def curveOk (r0 r1 r2 r3 : Nat) : Bool := decide (r0 ≤ r1) && decide (r1 ≤ r2) && decide (r2 ≤ r3) && decide (r3 ≤ 400)

/-- The constraints of a profile record (R47). -/
def Profile.ok (p : Profile) : Bool :=
  decide (100 ≤ p.s0) && decide (p.s0 < p.s1) && decide (p.s1 < p.s2) && decide (p.s2 < p.s3) && decide (p.s3 ≤ 4000) &&
    curveOk p.m0 p.m1 p.m2 p.m3 && curveOk p.a0 p.a1 p.a2 p.a3 &&
    decide (p.s0 ≤ p.maxSweep) && decide (p.maxSweep ≤ 4000) && decide (p.fanRpm ≤ 4000) &&
    decide (p.dose.b0 ≤ 500) && decide (p.dose.b1 ≤ 500) && decide (p.dose.b2 ≤ 500) && decide (p.dose.b3 ≤ 500)

/-- The record that a PROFILE_WRITE carries, as it would be stored. -/
def writtenProfile (f : Frame) : Profile := profileOf (f.payload.drop 1)

/-- The whole record stored in one act; a write to the active profile is published (R48, R51). -/
def State.storeProfile (s : State) (i : Fin 8) (p : Profile) : State :=
  let t := ({ s with pft := { s.pft with profiles := s.pft.profiles.set i.val p i.isLt } } : State)
  if s.pft.active = i then t.profilePublished else t

/-- What PROFILE_WRITE does (R48). -/
def profileWriteBody (f : Frame) (t : State) : Done :=
  match profileIndexOf (f.payload.getD 0 0) with
  | none => t.done .range
  | some i =>
    if t.profileInUse i then t.done .inUse
    else if (writtenProfile f).ok then (t.storeProfile i (writtenProfile f)).done .ok
    else t.done .range

/-- PROFILE_WRITE (R48). -/
def execProfileWrite (f : Frame) (s : State) : Host.Outcome State Fault Refusal :=
  .next (s.transact .profileWrite f (profileWriteBody f))

end Sys2Proof.Machine
end

