-- ==== Sys2Proof/Machine/Program.lean ====
section
/-! DEFINITION. The meanings of the segment program's commands (Chapter 8). -/

namespace Sys2Proof.Machine

/-! ## DESC_WRITE, DESC_RETURN (R133, R134, R136) -/

/-- A request for one descriptor: RANGE where the byte names none. -/
def forDescriptor (f : Frame) (t : State) (act : Fin 32 → Done) : Done :=
  match descIndexOf (f.payload.getD 0 0) with
  | none => t.done .range
  | some i => act i

/-- A speed cap as stored: limited to 100..4000 (R134). -/
def limitCap (c : Option Nat) : Option Nat := c.map fun x => max 100 (min x 4000)

/-- A dose override as stored: at most 500 (R134). -/
def limitOverride (d : Option Nat) : Option Nat := d.map fun x => min x 500

/-- The request part that a DESC_WRITE stores, where its codes and its profile index name something (R133, R134). -/
def DescFields.request (d : DescFields) : Option Request := do
  let profile ← profileIndexOf d.profile
  let left ← armSettingOf d.left
  let right ← armSettingOf d.right
  let pickup ← pickupSettingOf d.pickup
  let spray ← sprayOf d.spray
  let endAction ← endActionOf d.endAction
  return {
    lengthMm := d.length * 1000
    settings := { speedCap := limitCap d.speedCap, profile := profile, left := left, leftAngle := d.leftAngle,
                  right := right, rightAngle := d.rightAngle, pickup := pickup, spray := spray,
                  dose := limitOverride d.dose }
    endAction := endAction
    last := d.control.getLsbD 0 }

/-- OK, or CLAMPED where a speed cap or a dose override is limited (R134). -/
def DescFields.status (d : DescFields) : Status :=
  if limitCap d.speedCap = d.speedCap ∧ limitOverride d.dose = d.dose then .ok else .clamped

/-- The descriptor after an accepted DESC_WRITE; bit 1 of the control byte is hand-over (R134). -/
def DescFields.stored (d : DescFields) (r : Request) : Descriptor :=
  { owner := if d.control.getLsbD 1 then .engine else .master, request := r, result := none }

/-- What DESC_WRITE does. Tests 4 and 5 of R133 refuse alike, so their order does not show. -/
def descWriteBody (f : Frame) (t : State) : Done :=
  forDescriptor f t fun i =>
    let d := descFields f.payload
    if (t.sge.ring.get i).owner = .engine then t.done .owned
    else if d.length < 1 ∨ 20000 < d.length then t.done .range
    else
      match d.request with
      | none => t.done .range
      | some r =>
        if (t.pft.profiles.get r.settings.profile).valid then
          ({ t with sge := t.sge.setDesc i (d.stored r) } : State).done d.status
        else t.done .range

/-- DESC_WRITE (R133, R134). -/
def execDescWrite (f : Frame) (s : State) : Host.Outcome State Fault Refusal :=
  .next (s.transact .descWrite f (descWriteBody f))

/-- A descriptor after an accepted DESC_RETURN (R136). -/
def Descriptor.returned (d : Descriptor) : Descriptor :=
  match d.owner with
  | .engine => { d with owner := .master, result := none }
  | .master => d

/-- What DESC_RETURN does (R136). -/
def descReturnBody (f : Frame) (t : State) : Done :=
  forDescriptor f t fun i =>
    if t.sge.state ≠ .idle then t.done .state
    else ({ t with sge := t.sge.setDesc i (t.sge.ring.get i).returned } : State).done .ok

/-- DESC_RETURN (R136). -/
def execDescReturn (f : Frame) (s : State) : Host.Outcome State Fault Refusal :=
  .next (s.transact .descReturn f (descReturnBody f))

/-! ## PGM_START (R107, R138) -/

/-- The starting port of a program. -/
def startPortOf : PortId → StartPort
  | .cab => .cab
  | .chassis => .none
  | .route => .route

/-- The program starts at a descriptor (R107, R138, R139). -/
def State.startProgram (s : State) (p : PortId) (i : Fin 32) : State :=
  ({ s with
    clt := s.clt.map Claim.onStart
    sge := { s.sge with startPort := startPortOf p, unplanned := 0, completed := 0, endKind := .none, cursor := i } } :
    State).segmentStart

/-- What PGM_START does (R138). -/
def pgmStartBody (f : Frame) (t : State) : Done :=
  forDescriptor f t fun i =>
    if t.sge.state ≠ .idle then t.done .state
    else if t.stopin then t.done .state
    else if t.tgv.mode = .transport then t.done .state
    else if (t.sge.ring.get i).owner = .master then t.done .owned
    else (t.startProgram f.port i).done .ok

/-- PGM_START (R138). -/
def execPgmStart (f : Frame) (s : State) : Host.Outcome State Fault Refusal :=
  .next (s.transact .pgmStart f (pgmStartBody f))

/-! ## PGM_POLL, PGM_SUSPEND, PGM_RESUME, PGM_ABORT (R147, R149, R150, R153) -/

/-- What PGM_POLL does (R147). -/
def pgmPollBody (t : State) : Done :=
  (if t.sge.state = .starved ∧ t.sge.atCursor.owner = .engine then t.segmentStart else t).done .ok

/-- PGM_POLL (R147). -/
def execPgmPoll (f : Frame) (s : State) : Host.Outcome State Fault Refusal :=
  .next (s.transact .pgmPoll f pgmPollBody)

/-- What PGM_SUSPEND does (R149). -/
def pgmSuspendBody (t : State) : Done :=
  match t.sge.state with
  | .running => (t.suspend .command .running).done .ok
  | .starved => (t.suspend .command .starved).done .ok
  | .suspended => t.done .ok
  | .stopping | .idle => t.done .state

/-- PGM_SUSPEND (R149). -/
def execPgmSuspend (f : Frame) (s : State) : Host.Outcome State Fault Refusal :=
  .next (s.transact .pgmSuspend f pgmSuspendBody)

/-- The state that a return state names. -/
def ReturnState.engine : ReturnState → EngineState
  | .none => .suspended
  | .running => .running
  | .starved => .starved

/-- The engine goes on in its return state; cause and return state become none (R150). -/
def State.returned (s : State) : State :=
  { s with sge := { s.sge with state := s.sge.returnState.engine, suspendCause := .none, returnState := .none } }

/-- The arm and pickup settings in force are made again to the resources PROGRAM holds (R150). -/
def State.remakeSettings (s : State) : State :=
  match s.sge.settings with
  | some st => ((s.applyHeld st .armL).applyHeld st .armR).applyHeld st .pickup
  | none => s

/-- A pause ends: the engine fetches from the cursor that the PAUSE end left (R145, R150). -/
def State.resumePause (s : State) : State :=
  ({ s with sge := { s.sge with suspendCause := .none, returnState := .none } } : State).fetch

/-- What PGM_RESUME does (R150). -/
def pgmResumeBody (t : State) : Done :=
  if t.sge.state ≠ .suspended then t.done .state
  else
    match t.sge.suspendCause with
    | .command | .none => t.returned.done .ok
    | .pauseEnd => if t.stopin then t.done .state else t.resumePause.done .ok
    | .stopInput => if t.stopin then t.done .state else t.remakeSettings.returned.done .ok

/-- PGM_RESUME (R150). -/
def execPgmResume (f : Frame) (s : State) : Host.Outcome State Fault Refusal :=
  .next (s.transact .pgmResume f pgmResumeBody)

/-- A current segment is written back ABORTED (R153, step 1). -/
def State.abortSegment (s : State) : State := if s.sge.present then s.writeback .aborted else s

/-- What PGM_ABORT does (R153). -/
def pgmAbortBody (t : State) : Done :=
  if t.sge.state = .idle then t.done .state
  else (t.abortSegment.stopAllHeld.programEnd .abort).done .ok

/-- PGM_ABORT (R153). -/
def execPgmAbort (f : Frame) (s : State) : Host.Outcome State Fault Refusal :=
  .next (s.transact .pgmAbort f pgmAbortBody)

end Sys2Proof.Machine
end

