-- ==== Sys2Proof/Machine/ReadCommands.lean ====
section
/-! DEFINITION. The meanings of the eleven reads. A read changes nothing but its port (R19, R44, R50, R75, R98, R111,
R129, R135, R155, R176). -/

namespace Sys2Proof.Machine

/-- What READ_COUNT answers (R19). -/
def readCountBody (f : Frame) (t : State) : Done :=
  match chanOf (f.payload.getD 0 0) with
  | none => t.done .range
  | some c => t.readOk (t.countContent c)

/-- READ_COUNT (R19). -/
def execReadCount (f : Frame) (s : State) : Host.Outcome State Fault Refusal :=
  .next (s.transact .readCount f (readCountBody f))

/-- What READ_SNAP answers (R19). -/
def readSnapBody (f : Frame) (t : State) : Done :=
  if (t.ctu.snaps.get f.port).empty then t.done .state else t.readOk (t.ctu.snaps.get f.port).content

/-- READ_SNAP (R19). -/
def execReadSnap (f : Frame) (s : State) : Host.Outcome State Fault Refusal :=
  .next (s.transact .readSnap f (readSnapBody f))

/-- READ_LANES (R44). -/
def execReadLanes (f : Frame) (s : State) : Host.Outcome State Fault Refusal :=
  .next (s.transact .readLanes f fun t => t.readOk t.lanesContent)

/-- What PROFILE_READ answers (R50). -/
def profileReadBody (f : Frame) (t : State) : Done :=
  match profileIndexOf (f.payload.getD 0 0) with
  | none => t.done .range
  | some i => t.readOk (t.profileContent i)

/-- PROFILE_READ (R50). -/
def execProfileRead (f : Frame) (s : State) : Host.Outcome State Fault Refusal :=
  .next (s.transact .profileRead f (profileReadBody f))

/-- TRAVEL_READ (R75). -/
def execTravelRead (f : Frame) (s : State) : Host.Outcome State Fault Refusal :=
  .next (s.transact .travelRead f fun t => t.readOk t.travelContent)

/-- ARM_READ (R98). -/
def execArmRead (f : Frame) (s : State) : Host.Outcome State Fault Refusal :=
  .next (s.transact .armRead f fun t => t.readOk t.armContent)

/-- CLAIM_READ (R111). -/
def execClaimRead (f : Frame) (s : State) : Host.Outcome State Fault Refusal :=
  .next (s.transact .claimRead f fun t => t.readOk (Clt.content t.clt))

/-- SPRAY_READ (R129). -/
def execSprayRead (f : Frame) (s : State) : Host.Outcome State Fault Refusal :=
  .next (s.transact .sprayRead f fun t => t.readOk t.sprayContent)

/-- What DESC_READ answers (R135). -/
def descReadBody (f : Frame) (t : State) : Done :=
  match descIndexOf (f.payload.getD 0 0) with
  | none => t.done .range
  | some i => t.readOk (t.sge.descContent i)

/-- DESC_READ (R135). -/
def execDescRead (f : Frame) (s : State) : Host.Outcome State Fault Refusal :=
  .next (s.transact .descRead f (descReadBody f))

/-- PGM_READ (R155). -/
def execPgmRead (f : Frame) (s : State) : Host.Outcome State Fault Refusal :=
  .next (s.transact .pgmRead f fun t => t.readOk t.sge.content)

/-- What CFG_READ answers (R176). -/
def cfgReadBody (f : Frame) (t : State) : Done :=
  match paramIdOf (f.payload.getD 0 0) with
  | none => t.done .range
  | some i => t.readOk (t.cfs.content i)

/-- CFG_READ (R176). -/
def execCfgRead (f : Frame) (s : State) : Host.Outcome State Fault Refusal :=
  .next (s.transact .cfgRead f (cfgReadBody f))

end Sys2Proof.Machine
end

