-- ==== Sys2Proof/Machine/Spray.lean ====
section
/-! DEFINITION. The meanings of SPRAY_SET, TANK and the pulse timer's expiry (Chapter 7). -/

namespace Sys2Proof.Machine

/-- The enables a SPRAY_SET carries: bits 0 to 3 of its first byte (section 11.3.1, R181). -/
def sprayMaskOf (f : Frame) : BitVec 4 := (f.payload.getD 0 0).setWidth 4

/-- The dose a SPRAY_SET carries, or absent. -/
def sprayDoseOf (f : Frame) : Option Nat := doseOf (f.payload.getD 1 0) (f.payload.getD 2 0)

/-- A dose limited to 500 mL/m (R114). -/
def limitDose (d : Option Nat) : Option Nat := d.map fun x => min x 500

/-- What SPRAY_SET does (R106, R114). -/
def spraySetBody (f : Frame) (t : State) : Done :=
  gated t .spray
    ((t.spraySetting (some (sprayMaskOf f)) (limitDose (sprayDoseOf f))).done
      (if limitDose (sprayDoseOf f) = sprayDoseOf f then .ok else .clamped))

/-- SPRAY_SET (R114). -/
def execSpraySet (f : Frame) (s : State) : Host.Outcome State Fault Refusal :=
  .next (s.transact .spraySet f (spraySetBody f))

/-- The level a TANK frame carries, mL. -/
def tankLevelOf (f : Frame) : Nat :=
  u32 (f.payload.getD 0 0) (f.payload.getD 1 0) (f.payload.getD 2 0) (f.payload.getD 3 0)

/-- What TANK does (R125). -/
def tankBody (f : Frame) (t : State) : Done :=
  (t.setEstimate (min (tankLevelOf f) 4000000)).done (if tankLevelOf f ≤ 4000000 then .ok else .clamped)

/-- TANK (R125). -/
def execTank (f : Frame) (s : State) : Host.Outcome State Fault Refusal :=
  .next (s.transact .tank f (tankBody f))

/-- PULSE_TIMER_EXPIRY (R122): after a mark that retriggered the pulse it does not happen. -/
def execPulseTimerExpiry (bank : BankId) (s : State) : Host.Outcome State Fault Refusal :=
  .next (if (s.spc.banks.get bank).pulseTimer.ranOut then s.pulseExpired bank else s)

end Sys2Proof.Machine
end

