-- ==== Sys2Proof/Machine/Travel.lean ====
section
/-! DEFINITION. The meanings of TRAVEL_REQ and of the travel update (Chapter 4). -/

namespace Sys2Proof.Machine

/-- What keeps a change to TRANSPORT away: a program, an arm not STOWED, a pickup not UP (R61, test 5). -/
def State.equipmentOut (s : State) : Bool :=
  s.sge.state != .idle || s.arc.left.state != .stowed || s.arc.right.state != .stowed || s.arc.pickup.state != .up

/-- Tests 2 to 5 of R61 for a request with a mode and a speed: the status of the first that fails, if one does. -/
def State.travelRefusal (s : State) (m : TravelMode) (speed : Nat) : Option Status :=
  if s.tgv.awaitingZero ∧ speed ≠ 0 then some .state
  else if m ≠ s.tgv.mode ∧ s.tgv.commandedSpeed ≠ 0 then some .state
  else if m = .sweep ∧ !s.profile.valid then some .range
  else if m = .transport ∧ s.tgv.mode ≠ .transport ∧ s.equipmentOut then some .state
  else none

/-- The travel record after an accepted request (R62). -/
def State.acceptTravel (s : State) (m : TravelMode) (d : Direction) (speed : Nat) : State :=
  { s with tgv := { s.tgv with
      mode := m
      reqDirection := d
      reqSpeed := min speed (s.modeMax m)
      awaitingZero := s.tgv.awaitingZero && decide (speed ≠ 0) } }

/-- The speed a TRAVEL_REQ carries. -/
def travelSpeedOf (f : Frame) : Nat := u16 (f.payload.getD 2 0) (f.payload.getD 3 0)

/-- What TRAVEL_REQ does (R61, R62). -/
def travelReqBody (f : Frame) (t : State) : Done :=
  match modeOf (f.payload.getD 0 0), directionOf (f.payload.getD 1 0) with
  | some m, some d =>
    match t.travelRefusal m (travelSpeedOf f) with
    | some st => t.done st
    | none =>
      (t.acceptTravel m d (travelSpeedOf f)).done (if travelSpeedOf f ≤ t.modeMax m then .ok else .clamped)
  | _, _ => t.done .range

/-- TRAVEL_REQ (R61, R62). -/
def execTravelReq (f : Frame) (s : State) : Host.Outcome State Fault Refusal :=
  .next (s.transact .travelReq f (travelReqBody f))

/-- TRAVEL_UPDATE (R64). -/
def execTravelUpdate (s : State) : Host.Outcome State Fault Refusal :=
  .next (if s.tgv.updateTimer.ranOut then s.travelTick else s)

end Sys2Proof.Machine
end

