-- ==== Sys2Proof/Machine/Dispatch.lean ====
section
/-! DEFINITION. The dispatch: one arm per command of spec/opcode_table.json. -/

namespace Sys2Proof.Machine

/-- The effect of a command on everything but the queue. -/
def exec (i : Instr) (s : State) : Host.Outcome State Fault Refusal :=
  match i with
  | .nop f => Sys2Proof.Machine.execNop f s
  | .badFrame port bytes => Sys2Proof.Machine.execBadFrame port bytes s
  | .unknownCommand code f => Sys2Proof.Machine.execUnknownCommand code f s
  | .noticeRead f => Sys2Proof.Machine.execNoticeRead f s
  | .noticeMask f => Sys2Proof.Machine.execNoticeMask f s
  | .readCount f => Sys2Proof.Machine.execReadCount f s
  | .readSnap f => Sys2Proof.Machine.execReadSnap f s
  | .readLanes f => Sys2Proof.Machine.execReadLanes f s
  | .profileRead f => Sys2Proof.Machine.execProfileRead f s
  | .travelRead f => Sys2Proof.Machine.execTravelRead f s
  | .armRead f => Sys2Proof.Machine.execArmRead f s
  | .claimRead f => Sys2Proof.Machine.execClaimRead f s
  | .sprayRead f => Sys2Proof.Machine.execSprayRead f s
  | .descRead f => Sys2Proof.Machine.execDescRead f s
  | .pgmRead f => Sys2Proof.Machine.execPgmRead f s
  | .cfgRead f => Sys2Proof.Machine.execCfgRead f s
  | .snapshot f => Sys2Proof.Machine.execSnapshot f s
  | .chEnable f => Sys2Proof.Machine.execChEnable f s
  | .chDisable f => Sys2Proof.Machine.execChDisable f s
  | .setCount f => Sys2Proof.Machine.execSetCount f s
  | .chClear f => Sys2Proof.Machine.execChClear f s
  | .gndFaultClear f => Sys2Proof.Machine.execGndFaultClear f s
  | .budget f => Sys2Proof.Machine.execBudget f s
  | .tank f => Sys2Proof.Machine.execTank f s
  | .lanesClear f => Sys2Proof.Machine.execLanesClear f s
  | .cfgWrite f => Sys2Proof.Machine.execCfgWrite f s
  | .cfgCommit f => Sys2Proof.Machine.execCfgCommit f s
  | .travelReq f => Sys2Proof.Machine.execTravelReq f s
  | .claim f => Sys2Proof.Machine.execClaim f s
  | .take f => Sys2Proof.Machine.execTake f s
  | .release f => Sys2Proof.Machine.execRelease f s
  | .armSetDeploy f => Sys2Proof.Machine.execArmSetDeploy f s
  | .armSetRetarget f => Sys2Proof.Machine.execArmSetRetarget f s
  | .armSetStow f => Sys2Proof.Machine.execArmSetStow f s
  | .armClear f => Sys2Proof.Machine.execArmClear f s
  | .pickupSetWork f => Sys2Proof.Machine.execPickupSetWork f s
  | .pickupSetUp f => Sys2Proof.Machine.execPickupSetUp f s
  | .spraySet f => Sys2Proof.Machine.execSpraySet f s
  | .profileSelect f => Sys2Proof.Machine.execProfileSelect f s
  | .profileWrite f => Sys2Proof.Machine.execProfileWrite f s
  | .descWrite f => Sys2Proof.Machine.execDescWrite f s
  | .descReturn f => Sys2Proof.Machine.execDescReturn f s
  | .pgmStart f => Sys2Proof.Machine.execPgmStart f s
  | .pgmPoll f => Sys2Proof.Machine.execPgmPoll f s
  | .pgmSuspend f => Sys2Proof.Machine.execPgmSuspend f s
  | .pgmResume f => Sys2Proof.Machine.execPgmResume f s
  | .pgmAbort f => Sys2Proof.Machine.execPgmAbort f s
  | .quadratureChange ch a b => Sys2Proof.Machine.execQuadratureChange ch a b s
  | .pulseRisingEdge ch => Sys2Proof.Machine.execPulseRisingEdge ch s
  | .indexActive side => Sys2Proof.Machine.execIndexActive side s
  | .indexInactive side => Sys2Proof.Machine.execIndexInactive side s
  | .positionSwitchChange unit sw active => Sys2Proof.Machine.execPositionSwitchChange unit sw active s
  | .stopinAsserted => Sys2Proof.Machine.execStopinAsserted s
  | .stopinReleased => Sys2Proof.Machine.execStopinReleased s
  | .prstnAsserted port => Sys2Proof.Machine.execPrstnAsserted port s
  | .prstnReleased port => Sys2Proof.Machine.execPrstnReleased port s
  | .fullReset kind => Sys2Proof.Machine.execFullReset kind s
  | .rstnRelease => Sys2Proof.Machine.execRstnRelease s
  | .uptimeTick => Sys2Proof.Machine.execUptimeTick s
  | .gateExpiry ch => Sys2Proof.Machine.execGateExpiry ch s
  | .freshnessExpiry => Sys2Proof.Machine.execFreshnessExpiry s
  | .allocationPeriodExpiry => Sys2Proof.Machine.execAllocationPeriodExpiry s
  | .travelUpdate => Sys2Proof.Machine.execTravelUpdate s
  | .armUpdate => Sys2Proof.Machine.execArmUpdate s
  | .moveTimerExpiry unit => Sys2Proof.Machine.execMoveTimerExpiry unit s
  | .pulseTimerExpiry bank => Sys2Proof.Machine.execPulseTimerExpiry bank s
  | .silenceTimerExpiry port => Sys2Proof.Machine.execSilenceTimerExpiry port s

end Sys2Proof.Machine
end

