-- ==== Sys2Proof/Safety.lean ====
section
/-! DEFINITION. The terms in which statements about the machine are made: when a port takes a request, what an answered
request leaves on its port, and what holds of every state the machine can reach. -/

namespace Sys2Proof.Machine

/-! ## Requests -/

/-- A request passes the tests of the port: the port takes transactions, the payload has the command's length, the port may
send the command, and the device takes it in its present state (R157, R160, R161). -/
abbrev State.hears (s : State) (c : Cmd) (f : Frame) : Prop :=
  s.rstnHeld = false ∧ (s.ports.get f.port).inReset = false ∧ f.payload.length = c.reqLen ∧ c.allowed f.port = true ∧
    (s.cfs.ready = true ∨ c.inUnconfigured = true)

/-- The state with the response to a request without a content (R162). -/
def State.replied (t : State) (f : Frame) (c : Cmd) (st : Status) : State :=
  t.respond f.port { status := st, code := c.code, payload := [] }

/-- The state with the response to an accepted read: whole, or part 0 with the rest held (R163). -/
def State.readReplied (t : State) (f : Frame) (c : Cmd) (content : List Byte) : State :=
  if content.length ≤ 28 then t.respond f.port { status := .ok, code := c.code, payload := content }
  else
    t.setPort f.port { t.port f.port with
      response := { status := .ok, code := c.code, payload := partPayload content 0 }
      held := heldAfter c.code content 0 }

/-! ## The fields of a read content, by offset (R180, R181) -/

/-- The byte at an offset. -/
def byteAt (l : List Byte) (k : Nat) : Nat := (l.getD k 0).toNat

/-- One bit of the byte at an offset. -/
def bitAt (l : List Byte) (k b : Nat) : Bool := (l.getD k 0).getLsbD b

/-- The unsigned number in the two bytes from an offset on. -/
def at16 (l : List Byte) (k : Nat) : Nat := u16 (l.getD k 0) (l.getD (k + 1) 0)

/-- The signed number in the two bytes from an offset on. -/
def sat16 (l : List Byte) (k : Nat) : Int := s16 (l.getD k 0) (l.getD (k + 1) 0)

/-- The unsigned number in the four bytes from an offset on. -/
def at32 (l : List Byte) (k : Nat) : Nat := u32 (l.getD k 0) (l.getD (k + 1) 0) (l.getD (k + 2) 0) (l.getD (k + 3) 0)

/-- The signed number in the four bytes from an offset on. -/
def sat32 (l : List Byte) (k : Nat) : Int := s32 (l.getD k 0) (l.getD (k + 1) 0) (l.getD (k + 2) 0) (l.getD (k + 3) 0)

/-! ## What every state that the machine reaches satisfies -/

/-- The parameter sets: every pending value in its range, the active set in range and past the cross-checks, and valid
exactly in READY (R173 to R178). -/
def State.paramsRule (s : State) : Prop :=
  s.cfs.pendingSet.inRange ∧
    (∀ p, s.cfs.activeSet = some p → p.inRange ∧ p.crossCheck = .none) ∧
    (s.cfs.ready = true ↔ s.cfs.activeSet.isSome = true)

/-- An arm at rest with every output off and no movement timed. -/
abbrev Arm.off (a : Arm) : Prop :=
  (a.state = .stowed ∨ a.state = .fault) ∧ a.moveTimer = none ∧ a.slewPlus = 0 ∧ a.slewMinus = 0 ∧ a.brushLevel = 0 ∧ a.liftUp = false ∧
    a.liftDown = false

/-- The pickup at rest with every output off and no movement timed. -/
abbrev Pickup.off (u : Pickup) : Prop :=
  (u.state = .up ∨ u.state = .fault) ∧ u.moveTimer = none ∧ u.mainLevel = 0 ∧ u.fanLevel = 0 ∧ u.raiseValve = false ∧ u.lowerValve = false

/-- What UNCONFIGURED means for the blocks: no channel enabled, every lane inactive and IDLE with grant 0, every timer of a block
stopped (gates, freshness, allocation, updates, moves, pulses), PARKED, no program, no claim, no equipment out, every output
off (R4, R24, R30, R64, R83, R85, R122, R173). -/
def State.quiet (s : State) : Prop :=
  (∀ c, (s.chan c).enabled = false ∧ (s.chan c).gateTimer = none) ∧ s.pba.freshTimer = none ∧
    (∀ l, (s.pba.lane l).req = LaneReq.inactive ∧ (s.pba.lane l).out = LaneOut.idle) ∧
    s.pba.allocTimer = none ∧ s.tgv.updateTimer = none ∧ s.arc.updateTimer = none ∧
    s.tgv.mode = .parked ∧ s.tgv.pumpFwd = 0 ∧ s.tgv.pumpRev = 0 ∧ s.tgv.motor = 0 ∧
    s.sge.state = .idle ∧ (∀ r, s.clt.get r = .free) ∧
    s.arc.left.off ∧ s.arc.right.off ∧ s.arc.pickup.off ∧
    (∀ i, (s.spc.banks.get i).enabled = false ∧ (s.spc.banks.get i).valve = false ∧
      (s.spc.banks.get i).pulseTimer = none) ∧ s.spc.pumpLevel = 0

/-- While RSTN is held the device is UNCONFIGURED, and UNCONFIGURED is quiet (R172, R173). -/
def State.quietRule (s : State) : Prop :=
  (s.rstnHeld = true → s.cfs.ready = false) ∧ (s.cfs.ready = false → s.quiet)

/-- While STOPIN is asserted no arm is DEPLOYING or WORKING or about to deploy after homing, and the pickup is not LOWERING
or WORKING (R97). -/
def State.stopRule (s : State) : Prop :=
  s.stopin = true →
    (∀ side, (s.arm side).state ≠ .deploying ∧ (s.arm side).state ≠ .working ∧
      ((s.arm side).state = .homing → (s.arm side).deployPending = false)) ∧
    s.arc.pickup.state ≠ .lowering ∧ s.arc.pickup.state ≠ .working

/-- The stored terms are those of the inputs as they stand, a valve is open only with all seven true, and its pulse timer
runs exactly while it is open (R116, R121, R122). -/
def State.valveRule (s : State) : Prop :=
  ∀ i, (s.spc.banks.get i).terms = s.termsOf i ∧
    ((s.spc.banks.get i).valve = true → (s.spc.banks.get i).terms.all = true) ∧
    ((s.spc.banks.get i).pulseTimer.isSome = true ↔ (s.spc.banks.get i).valve = true)

/-- An entry that the program neither holds nor lends. -/
abbrev Claim.outsideProgram (c : Claim) : Prop := c = .free ∨ c = .cab

/-- The suspend cause and the return state that an engine state allows, with current-present (8.3, R137, R143, R149,
R151). -/
def Sge.phaseOk (e : Sge) : Prop :=
  match e.state with
  | .idle | .starved => e.present = false ∧ e.suspendCause = .none ∧ e.returnState = .none
  | .running | .stopping => e.present = true ∧ e.suspendCause = .none ∧ e.returnState = .none
  | .suspended =>
    match e.suspendCause, e.returnState with
    | .command, .running => e.present = true
    | .stopInput, .running => e.present = true
    | .command, .starved => e.present = false
    | .stopInput, .starved => e.present = false
    | .pauseEnd, .none => e.present = false
    | _, _ => False

/-- The claims follow the program (R101), the record of the engine is consistent, and a current descriptor is ENGINE-owned
(R137). -/
def State.engineRule (s : State) : Prop :=
  s.sge.phaseOk ∧
    (s.sge.present = true → s.sge.atCursor.owner = .engine) ∧
    (s.sge.state ≠ .idle → s.sge.settings.isSome = true) ∧
    (∀ r, (s.clt.get r).outsideProgram ↔ s.sge.state = .idle)

/-- A descriptor that the engine owns names a valid profile and has a length of 1 to 20000 m (R49, R133, R134). -/
def State.planRule (s : State) : Prop :=
  ∀ i, (s.sge.ring.get i).owner = .engine →
    (s.pft.profiles.get (s.sge.ring.get i).request.settings.profile).valid = true ∧
      1000 ≤ (s.sge.ring.get i).request.lengthMm ∧ (s.sge.ring.get i).request.lengthMm ≤ 20000000

/-- The outputs of an arm: levels up to 4095, one slew direction at a time, the brush only in WORKING, each lift valve only
in its movement (R84, R87, R89, R91). -/
def Arm.driveRule (a : Arm) : Prop :=
  a.slewPlus ≤ 4095 ∧ a.slewMinus ≤ 4095 ∧ a.brushLevel ≤ 4095 ∧ (a.slewPlus = 0 ∨ a.slewMinus = 0) ∧
    (a.brushLevel ≠ 0 → a.state = .working) ∧ (a.liftUp = true → a.state = .lifting) ∧
    (a.liftDown = true → a.state = .deploying ∧ a.phase = .lower)

/-- The outputs of the pickup (R91, R96). -/
def Pickup.driveRule (u : Pickup) : Prop :=
  u.mainLevel ≤ 4095 ∧ u.fanLevel ≤ 4095 ∧ (u.mainLevel ≠ 0 ∨ u.fanLevel ≠ 0 → u.state = .working) ∧
    (u.raiseValve = true → u.state = .raising) ∧ (u.lowerValve = true → u.state = .lowering)

/-- Every proportional output in 0..4095, one pump coil at a time, brushes and lifts only where the state drives them (R69,
R84, R87, R89, R91, R96, R128). -/
def State.outputRule (s : State) : Prop :=
  s.tgv.pumpFwd ≤ 4095 ∧ s.tgv.pumpRev ≤ 4095 ∧ s.tgv.motor ≤ 4095 ∧ (s.tgv.pumpFwd = 0 ∨ s.tgv.pumpRev = 0) ∧
    s.spc.pumpLevel ≤ 4095 ∧ s.arc.left.driveRule ∧ s.arc.right.driveRule ∧ s.arc.pickup.driveRule

/-- The measured figures stay in the ranges of their fields: speeds in ±32767 (R6), the micrometre remainder below 1000
(R11), each bank's microlitre remainder below 1000 (R124), the estimate at most 4,000,000 mL (R117). -/
def State.figureRule (s : State) : Prop :=
  (∀ c, -32767 ≤ (s.chan c).speed ∧ (s.chan c).speed ≤ 32767) ∧ s.ctu.remainder < 1000 ∧
    (∀ i, (s.spc.banks.get i).remainder < 1000) ∧ s.spc.estimate ≤ 4000000

end Sys2Proof.Machine
end

