-- ==== Sys2Proof/WellFormed.lean ====
section
/-! DEFINITION. Which terms of `Instr` are commands: a valid frame has at most 28 payload bytes (R180), stands at the
row of its code and action (R183), and a BAD_FRAME has bytes that fail the checks of R158. -/

namespace Sys2Proof

/-- A frame carries 0 to 28 payload bytes (R158, R180). -/
def Frame.wf (f : Frame) : Bool := decide (f.payload.length ≤ 28)

/-- Bytes that make a transaction whose frame is refused with LENGTH or CRC (R157, R158). -/
def badBytes (bytes : List Byte) : Bool := !bytes.isEmpty && (frameFault bytes).isSome

/-- Does the term spell a command? -/
def Instr.wf (i : Instr) : Bool :=
  match i with
  | .badFrame _ bytes => badBytes bytes
  | _ =>
    match i.request with
    | some (code, f) => f.wf && (instrOf code f == i)
    | none => true

end Sys2Proof
end

