-- ==== Sys2Proof/Certificates/Slice0/Obligations.lean ====
section
/-! DEFINITION. The statements for the provers, each a `Prop`. A request's state is written from `s.atBlock f`: the state in
which the frame has been heard and a held read is lost, before the owning block acts. -/

open Sys2Proof Sys2Proof.Machine

/-! ## The step, the queue, completion -/

/-- A step takes the command at the front of the queue and carries it out with the queue's rest. -/
def Obligations.StepTakesFront : Prop :=
  ∀ (c : Instr) (rest : List Instr) (s : State), s.pending = c :: rest → step s = exec c { s with pending := rest }

/-- Every term that spells a command completes in every state: no command of the table stops the machine. No command reads or
writes the queue: what it does is the same whatever waits, and the queue stays. -/
def Obligations.CommandsCompleteAndLeaveTheQueue : Prop :=
  (∀ (c : Instr) (s : State), c.wf = true → ∃ t, exec c s = .next t) ∧
  ∀ (c : Instr) (s t : State), exec c s = .next t →
    t.pending = s.pending ∧ ∀ q : List Instr, exec c { s with pending := q } = .next { t with pending := q }

/-! ## Reset -/

/-- The values that the manual gives after a full reset, field by field, for every block (R21, R46, R58, R77, R100, R112, R131,
R156, R172, R179, and the tables of sections 1.3, 4.1, 5.1, 5.6, 7.1, 8.3 and 9.1). The levels of the input pins and the cap
that the Travel Governor last read are not among them (log entries 5 and 18). Beside them the parameter table of section 10.3:
the range and the default of each of the 64 ids, and the id that each named parameter has; a class outside its range, which no
run reaches, counts as 3 (log entry 27). -/
def Obligations.ResetValues : Prop :=
  ((List.finRange 64).map fun i => ((paramTable.get i).lo, (paramTable.get i).hi, Params.defaults.val i)) =
    ([(10, 250, 50), (10, 250, 50), (10, 250, 50), (10, 250, 50), (10, 250, 50), (10, 250, 50), (10, 250, 50), (10, 250, 50),
        (1, 5000, 400), (1, 5000, 400), (1, 10000, 60), (1, 10000, 60), (1, 10000, 60), (1, 10000, 60), (0, 1, 1), (0, 1, 1),
        (50, 1000, 250)] ++
      [(0, 3, 1), (0, 3, 0), (0, 3, 0), (0, 3, 2), (0, 3, 2), (0, 3, 3), (10, 65535, 800), (10, 65535, 1200),
        (10, 65535, 400), (10, 65535, 400), (10, 65535, 200), (0, 4000, 300), (100, 2000, 500), (0, 500, 20)] ++
      [(1, 1000, 120), (0, 4000, 40), (50, 5000, 500), (50, 5000, 800), (100, 10000, 2000), (1000, 16000, 8300),
        (0, 4095, 4095), (0, 4095, 1600)] ++
      [(360, 65535, 14400), (-20000, 20000, 0), (-20000, 20000, 7200), (0, 500, 8), (1, 255, 16), (0, 4095, 3000),
        (0, 4095, 1200), (1000, 20000, 5000), (200, 10000, 2000), (10, 1000, 160), (10, 1000, 400), (10, 1000, 50),
        (0, 100, 75)] ++
      [(10, 2000, 100), (10, 2000, 100), (10, 2000, 100), (10, 2000, 100), (0, 4000, 300), (0, 4000000, 100000), (-40, 85, 2),
        (0, 500, 20), (0, 500, 10), (100, 5000, 1000), (100, 5000, 1000), (100, 5000, 1000)] : List (Int × Int × Int)) ∧
  (∀ p : Params,
    ([ChanId.gnd, .tmot, .bmain, .barml, .barmr, .slewl, .slewr, .fan].map p.gate ++
        [p.pitchGnd, p.pitchTmot, p.cprBmain, p.cprBarml, p.cprBarmr, p.cprFan, p.sprayInterval] =
      ([0, 1, 2, 3, 4, 5, 6, 7, 8, 9, 10, 11, 12, 13, 16] : List (Fin 64)).map fun k => (p.val k).toNat) ∧
    (p.indexClear .left = (p.val 14 != 0) ∧ p.indexClear .right = (p.val 15 != 0)) ∧
    [LaneId.trac, .main, .fan, .arml, .armr, .spry].map p.laneClass =
      (([17, 18, 19, 20, 21, 22] : List (Fin 64)).map fun k => min 3 (p.val k).toNat) ∧
    ([LaneId.main, .fan, .arml, .armr, .spry].map p.qfs ++ [p.fallback, p.freshLimit, p.readmitMargin] =
      ([23, 24, 25, 26, 27, 28, 29, 30] : List (Fin 64)).map fun k => (p.val k).toNat) ∧
    ([p.ktrac, p.tractionFloor, p.upRamp, p.downRamp, p.stopRamp, p.transportMax, p.sweepMotor, p.transportMotor] =
      ([31, 32, 33, 34, 35, 36, 37, 38] : List (Fin 64)).map fun k => (p.val k).toNat) ∧
    ([p.slewCpr, p.slewMin, p.slewMax, p.minSpraySpeed, p.frost] = ([39, 40, 41, 56, 58] : List (Fin 64)).map p.val) ∧
    ([p.deadband, p.kslew, p.slewMaxLevel, p.homingLevel, p.moveTimeout, p.stallTime, p.armDisp, p.mainDisp, p.fanDisp,
        p.fanFloorPct] =
      ([42, 43, 44, 45, 46, 47, 48, 49, 50, 51] : List (Fin 64)).map fun k => (p.val k).toNat) ∧
    ([BankId.b0, .b1, .b2, .b3].map p.nozzleFlow ++ [p.reserve, p.pumpPower, p.pumpFloor] ++
        [PortId.cab, .chassis, .route].map p.silenceLimit =
      ([52, 53, 54, 55, 57, 59, 60, 61, 62, 63] : List (Fin 64)).map fun k => (p.val k).toNat)) ∧
  State.reset.cfs = { ready := false, pendingSet := Params.defaults, activeSet := none, commitResult := .none } ∧
  (∀ side, State.reset.params.indexClear side = true) ∧
  (∀ c, State.reset.chan c = { State.reset.chan c with
    enabled := false
    hw := 0
    ext := 0
    gateRef := 0
    speed := 0
    clamp := false
    gateTimer := none
    homed := false }) ∧
  State.reset.ctu = { State.reset.ctu with
    accumulator := 0
    remainder := 0
    source := .gnd
    markProgress := 0
    groundFault := false
    condition := false
    persistence := 0
    uptime := 0 } ∧
  (∀ p, State.reset.ctu.snaps.get p = {
    empty := true
    seq := 0
    counts := .ofFn fun _ => 0
    speeds := .ofFn fun _ => 0
    accumulator := 0
    uptime := 0
    nextSeq := 0 }) ∧
  State.reset.pba = { State.reset.pba with
    available := 0
    pressTraction := 0
    pressImplement := 0
    pressFan := 0
    ambient := none
    freshness := .stale
    freshTimer := none
    budgetClamp := false
    slack := 0
    shedCount := 0
    budgetInEffect := 0
    allocNumber := 0
    allocTimer := none } ∧
  (∀ l, State.reset.pba.lane l = {
    req := { active := false, demand := 0, floor := 0, flow := 0 }
    out := { state := .idle, grant := 0, flow := 0 }
    demandClamp := false
    flowClamp := false
    levelClamp := false }) ∧
  (State.reset.pft.active = 0 ∧ ∀ i, State.reset.pft.profiles.get i = {
    valid := false
    s0 := 0, s1 := 0, s2 := 0, s3 := 0
    m0 := 0, m1 := 0, m2 := 0, m3 := 0
    a0 := 0, a1 := 0, a2 := 0, a3 := 0
    maxSweep := 0
    fanRpm := 0
    dose := .ofFn fun _ => 0 }) ∧
  State.reset.tgv = { State.reset.tgv with
    mode := .parked
    direction := .fwd
    reqDirection := .fwd
    reqSpeed := 0
    segCap := none
    stopRequest := false
    stopReported := false
    awaitingZero := false
    demandSpeed := 0
    tractionCap := none
    targetSpeed := 0
    commandedSpeed := 0
    pumpFwd := 0
    pumpRev := 0
    motor := 0
    updateTimer := none } ∧
  (∀ side, State.reset.arm side = { State.reset.arm side with
    state := .stowed
    phase := .slew
    cause := .none
    slewTarget := 0
    onTarget := false
    deployPending := false
    rpm := 0
    moveTimer := none
    stallTimer := 0
    stallCount := 0
    slewPlus := 0
    slewMinus := 0
    liftUp := false
    liftDown := false
    brushLevel := 0 }) ∧
  State.reset.arc.pickup = { State.reset.arc.pickup with
    state := .up
    cause := .none
    mainRpm := 0
    fanRpm := 0
    moveTimer := none
    stallTimer := 0
    stallCount := 0
    raiseValve := false
    lowerValve := false
    mainLevel := 0
    fanLevel := 0 } ∧
  State.reset.arc.cap = none ∧ State.reset.arc.updateTimer = none ∧
  (∀ r, (State.reset.clt.get r).holder = .none ∧ (State.reset.clt.get r).lender = false) ∧
  (State.reset.spc.estimate = 0 ∧ State.reset.spc.pumpLevel = 0 ∧ ∀ i, State.reset.spc.banks.get i = {
    enabled := false
    dose := none
    doseInEffect := 0
    width := 0
    widthClamp := false
    terms := State.reset.termsOf i
    firstFailing := none
    valve := false
    pulseTimer := none
    openTime := 0
    remainder := 0
    doseShort := false }) ∧
  State.reset.sge = { State.reset.sge with
    state := .idle
    suspendCause := .none
    returnState := .none
    cursor := 0
    present := false
    startPort := .none
    settings := none
    figures := {
      distance := 0
      leadIn := 0
      water := 0
      stalls := 0
      flags := {
        overL := false
        overR := false
        overPickup := false
        overSpray := false
        staleSeen := false
        shedSeen := false
        doseShortSeen := false
        stoppedByInput := false } }
    unplanned := 0
    completed := 0
    endKind := .none } ∧
  (∀ i, (State.reset.sge.ring.get i).owner = .master ∧ (State.reset.sge.ring.get i).result = none ∧
    (State.reset.sge.ring.get i).request.bytes = List.replicate 17 0) ∧
  ∀ p, (State.reset.port p).response = { status := .empty, code := 0, payload := [] } ∧
    (State.reset.port p).held = none ∧ (State.reset.port p).notices = 0 ∧
    (State.reset.port p).mask = BitVec.allOnes 17 ∧ (State.reset.port p).attnLow = false ∧
    (State.reset.port p).link = .active ∧ (State.reset.port p).silenceTimer = some 1000

/-- A full reset sets every block to its reset values and leaves the levels of the input pins; RSTN held keeps the part in
reset, a power-on reset leaves RSTN as it is (the model's choice, log entry 6). The release of RSTN starts the silence timers
of the ports that PRSTN does not hold; a release of RSTN that is not held changes nothing (the model's choice, log entry 4). -/
def Obligations.FullResetAndRelease : Prop :=
  ∀ s : State,
    (∀ kind, ∃ t, exec (.fullReset kind) s = .next t ∧
      t.rstnHeld = (match kind with | .rstn => true | .powerOn => s.rstnHeld) ∧
      t.stopin = s.stopin ∧ t.pft = Pft.reset ∧ t.pba = Pba.reset ∧ t.tgv = Tgv.reset ∧ t.clt = Clt.reset ∧
      t.sge = Sge.reset ∧ t.cfs = Cfs.reset ∧
      (∀ c, t.chan c =
        { Channel.reset with levelA := (s.chan c).levelA, levelB := (s.chan c).levelB, index := (s.chan c).index }) ∧
      t.ctu = { Ctu.reset with chans := t.ctu.chans } ∧
      (∀ side, t.arm side = { Arm.reset with upSw := (s.arm side).upSw, downSw := (s.arm side).downSw }) ∧
      t.arc.pickup = { Pickup.reset with upSw := s.arc.pickup.upSw, downSw := s.arc.pickup.downSw } ∧
      t.arc.cap = none ∧ t.arc.updateTimer = none ∧
      (∀ i, t.spc.banks.get i = { Bank.reset with terms := { Bank.reset.terms with t7 := !s.stopin } }) ∧
      t.spc.estimate = 0 ∧ t.spc.pumpLevel = 0 ∧
      ∀ p, t.port p = { Port.reset with
        inReset := (s.port p).inReset
        silenceTimer := if t.rstnHeld || (s.port p).inReset then none else some 1000 }) ∧
    (s.rstnHeld = true → ∃ t, exec .rstnRelease s = .next t ∧
      (∀ p, t.port p = { s.port p with silenceTimer := if (s.port p).inReset then none else some 1000 }) ∧
      t = { s with rstnHeld := false, ports := t.ports }) ∧
    (s.rstnHeld = false → exec .rstnRelease s = .next s)

/-! ## Frames and ports -/

/-- Sending a transaction and receiving it gives the command back: for every well-formed request and every BAD_FRAME, the
bytes that a master clocks in for it are read as that command. Zero bytes alone are a NOP. The row of a request is the
model's reading of its payload (log entry 24). Beside that the bytes of a request frame and of a response frame (R180), and the
CRC of R159, one byte after another. -/
def Obligations.TransactionsRoundTrip : Prop :=
  (∀ c : Instr, c.wf = true → (c.request.isSome = true ∨ ∃ p bytes, c = .badFrame p bytes) →
    ∃ p bytes, encodeTransaction c = some (p, bytes) ∧ decodeTransaction p bytes = some c) ∧
  (∀ (p : PortId) (n : Nat), 3 ≤ n → decodeTransaction p (List.replicate n 0) = some (.nop ⟨p, [], n - 3⟩)) ∧
  (∀ (c : Instr) (code : Byte) (f : Frame) (head : List Byte), c.wf = true → c.request = some (code, f) →
    head = [code, BitVec.ofNat 8 f.payload.length] ++ f.payload →
    encodeTransaction c = some (f.port, head ++ [crc head] ++ List.replicate f.padding 0)) ∧
  (∀ (r : Response) (head : List Byte),
    head = [BitVec.ofNat 8 (Status.num r.status), r.code, BitVec.ofNat 8 r.payload.length] ++ r.payload →
    r.bytes = head ++ [crc head]) ∧
  crc [] = 0 ∧
  ∀ step : Byte → Byte, (∀ r, step r = if r.msb then (r <<< 1) ^^^ 0x2F else r <<< 1) →
    ∀ (l : List Byte) (b : Byte), crc (l ++ [b]) = step^[8] (crc l ^^^ b)

/-- The code table and the permission matrix: each code names its command with its payload length, every other code none; the
commands of the counting, budget, tank and configuration group belong to the chassis port, those of travel, claims, equipment and
profile selection to the cab port, those of profiles and program to the cab and route ports, and the link commands, the reads and
SNAPSHOT to every port. Beside them the values of the statuses and of every enumerated set, the absent values, and the byte order
of the fields; that of the three-byte fields is the model's choice (log entry 38). -/
def Obligations.CommandTable : Prop :=
  (∀ (code : Byte) (c : Cmd), Cmd.ofCode code = some c ↔ (code, c, c.reqLen) ∈ ([
    (0x00, .nop, 0), (0x01, .noticeRead, 0), (0x02, .noticeMask, 3), (0x10, .readCount, 1), (0x11, .readSnap, 0),
    (0x12, .readLanes, 0), (0x13, .profileRead, 1), (0x14, .travelRead, 0), (0x15, .armRead, 0),
    (0x16, .claimRead, 0), (0x17, .sprayRead, 0), (0x18, .descRead, 1), (0x19, .pgmRead, 0), (0x1A, .cfgRead, 1),
    (0x20, .snapshot, 0), (0x30, .chEnable, 1), (0x31, .chDisable, 1), (0x32, .setCount, 5), (0x33, .chClear, 1),
    (0x34, .gndFaultClear, 0), (0x38, .budget, 9), (0x39, .tank, 4), (0x3A, .lanesClear, 0), (0x3C, .cfgWrite, 5),
    (0x3D, .cfgCommit, 0), (0x40, .travelReq, 4), (0x41, .claim, 1), (0x42, .take, 1), (0x43, .release, 1),
    (0x44, .armSet, 4), (0x45, .armClear, 1), (0x46, .pickupSet, 1), (0x47, .spraySet, 3),
    (0x48, .profileSelect, 1), (0x50, .profileWrite, 28), (0x51, .descWrite, 18), (0x52, .descReturn, 1),
    (0x53, .pgmStart, 1), (0x54, .pgmPoll, 0), (0x55, .pgmSuspend, 0), (0x56, .pgmResume, 0), (0x57, .pgmAbort, 0)] :
      List (Byte × Cmd × Nat))) ∧
  (∀ (c : Cmd) (p : PortId), c.allowed p = (
    if 0x30 ≤ c.code ∧ c.code ≤ 0x3D then p == .chassis
    else if 0x40 ≤ c.code ∧ c.code ≤ 0x48 then p == .cab
    else if 0x50 ≤ c.code then p == .cab || p == .route
    else true)) ∧
  (∀ c : Cmd, c.inUnconfigured = true ↔ c.code ≤ 0x1A ∨ c = .cfgWrite ∨ c = .cfgCommit) ∧
  (∀ b : Byte,
    (∀ x, chanOf b = some x ↔ (b, x) ∈ [(0, .gnd), (1, .tmot), (2, .bmain), (3, .barml), (4, .barmr), (5, .slewl),
      (6, .slewr), (7, .fan)]) ∧
    (∀ x, modeOf b = some x ↔ (b, x) ∈ [(0, .parked), (1, .sweep), (2, .transport)]) ∧
    (∀ x, directionOf b = some x ↔ (b, x) ∈ [(0, .fwd), (1, .rev)]) ∧
    (∀ x, sideOf b = some x ↔ (b, x) ∈ [(0, .left), (1, .right)]) ∧
    (∀ x, armSettingOf b = some x ↔ (b, x) ∈ [(0, .stow), (1, .work), (2, .keep)]) ∧
    (∀ x, pickupSettingOf b = some x ↔ (b, x) ∈ [(0, .up), (1, .work), (2, .keep)]) ∧
    (∀ x, endActionOf b = some x ↔ (b, x) ∈ [(0, .cont), (1, .pause), (2, .stop)]) ∧
    (∀ x, resourceOf b = some x ↔ (b, x) ∈ [(0, .armL), (1, .armR), (2, .pickup), (3, .spray)]) ∧
    (∀ x, profileIndexOf b = some x ↔ b.toNat = x.val) ∧ (∀ x, descIndexOf b = some x ↔ b.toNat = x.val) ∧
    (∀ x, paramIdOf b = some x ↔ b.toNat = x.val) ∧
    sprayOf b = (if b.toNat ≤ 15 then some (some (BitVec.ofNat 4 b.toNat)) else if b = 255 then some none else none) ∧
    ambientOf b = (if b = 128 then none else some b.toInt)) ∧
  ([.cfgDone, .budgetStale, .laneShed, .laneReadmit, .clamp, .armStall, .armFault, .claimLost, .segDone, .pgmStarved,
    .pgmSuspended, .pgmEnd, .sprayBlock, .doseShort, .tankReserve, .stopInput, .groundFault].map Notice.num = List.range 17 ∧
    [.parked, .sweep, .transport].map TravelMode.num = List.range 3 ∧
    [.stow, .work, .keep].map ArmSetting.num = List.range 3 ∧ [.up, .work, .keep].map PickupSetting.num = List.range 3 ∧
    [.cont, .pause, .stop].map EndAction.num = List.range 3 ∧ [.none, .cab, .program].map Holder.num = List.range 3 ∧
    [.idle, .full, .part, .starved].map LaneState.num = List.range 4 ∧
    [.stowed, .homing, .deploying, .working, .lifting, .fault].map ArmState.num = List.range 6 ∧
    [.slew, .lower, .spinup].map Phase.num = List.range 3 ∧
    [.none, .command, .stop, .stall, .starved, .claimLoss, .reference, .timeout, .switch].map Cause.num = List.range 9 ∧
    [.up, .lowering, .working, .raising, .fault].map PickupState.num = List.range 5 ∧
    [.idle, .running, .suspended, .starved, .stopping].map EngineState.num = List.range 5 ∧
    [.none, .command, .pauseEnd, .stopInput].map SuspendCause.num = List.range 4 ∧
    [.none, .running, .starved].map ReturnState.num = List.range 3 ∧
    [.none, .cab, .route].map StartPort.num = List.range 3 ∧ [.none, .last, .stop, .abort].map EndKind.num = List.range 4 ∧
    [.none, .slewLimits, .transportMax, .tractionFloor, .fallback].map CommitResult.num = List.range 5 ∧
    [.done, .aborted].map SegStatus.num = List.range 2 ∧
    [.ok, .clamped, .empty, .crc, .length, .unknown, .denied, .state, .range, .claimed, .owned, .inUse].map Status.num =
      List.range 12 ∧
    [none, some .t1, some .t2, some .t3, some .t4, some .t5, some .t6, some .t7].map termNum = List.range 8) ∧
  (∀ a b c d : Byte, u16 a b = a.toNat * 256 + b.toNat ∧ u24 a b c = a.toNat * 65536 + b.toNat * 256 + c.toNat ∧
    u32 a b c d = a.toNat * 16777216 + b.toNat * 65536 + c.toNat * 256 + d.toNat ∧
    s16 a b = Int.bmod (u16 a b) 65536 ∧ s32 a b c d = Int.bmod (u32 a b c d) 4294967296 ∧
    angleOf a b = (if s16 a b = -32768 then none else some (s16 a b))) ∧
  ∀ n : Nat, be24 n = [BitVec.ofNat 8 (n / 65536), BitVec.ofNat 8 (n / 256), BitVec.ofNat 8 n]

/-- The port's own tests, in their order. A port held in port reset (R157), and every port while RSTN is held (R172), takes no
transaction; PRSTN holds its data-out line at 0 (R170), so the bytes that come out are zeros (log entry 37). A valid frame,
before it is decided, has shifted the old response out (R157), made the link ACTIVE and restarted the silence timer (R168) and
lost the held read (R163). Then a wrong payload length is LENGTH, a port without the permission is DENIED, a command that
UNCONFIGURED does not take is STATE (R160, R161, R173); a refused request does nothing else. -/
def Obligations.PortTests : Prop :=
  ∀ s : State,
    (∀ c : Instr, c.wf = true →
      (∀ code f, c.request = some (code, f) →
        ((s.ports.get f.port).inReset = true → exec c s = .next { s with ports := s.ports.set f.port { s.ports.get f.port with
          shifted := List.replicate (f.payload.length + 3 + f.padding) 0 } }) ∧
        ((s.ports.get f.port).inReset = false → s.rstnHeld = true → exec c s = .next s)) ∧
      (∀ p bytes, c = .badFrame p bytes →
        ((s.ports.get p).inReset = true → exec c s = .next { s with ports := s.ports.set p { s.ports.get p with
          shifted := List.replicate bytes.length 0 } }) ∧
        ((s.ports.get p).inReset = false → s.rstnHeld = true → exec c s = .next s))) ∧
    ∀ f : Frame,
      s.atBlock f = { s with ports := s.ports.set f.port { s.ports.get f.port with
        shifted := ((s.ports.get f.port).response.bytes ++ List.replicate (f.payload.length + 3 + f.padding) 0).take
          (f.payload.length + 3 + f.padding)
        link := .active
        silenceTimer := some (s.params.silenceLimit f.port)
        held := none } } ∧
      ∀ c : Cmd, s.rstnHeld = false → (s.ports.get f.port).inReset = false →
        (f.payload.length ≠ c.reqLen → exec (c.toInstr f) s = .next ((s.atBlock f).replied f c .length)) ∧
        (f.payload.length = c.reqLen → c.allowed f.port = false →
          exec (c.toInstr f) s = .next ((s.atBlock f).replied f c .denied)) ∧
        (f.payload.length = c.reqLen → c.allowed f.port = true → s.cfs.ready = false → c.inUnconfigured = false →
          exec (c.toInstr f) s = .next ((s.atBlock f).replied f c .state))

/-- A frame of the wrong shape is refused with LENGTH and one whose CRC byte is wrong with CRC: the old response goes out, the
held read is lost, the response echoes the first byte, and neither the silence timer nor any block changes. A valid frame whose
code names no command is answered UNKNOWN. -/
def Obligations.BadAndUnknownFrames : Prop :=
  ∀ (s : State) (p : PortId), s.rstnHeld = false → (s.ports.get p).inReset = false →
    (∀ (bytes : List Byte) (st : Status), bytes ≠ [] →
      ((bytes.length < 3 ∨ 28 < (bytes.getD 1 0).toNat ∨ bytes.length < (bytes.getD 1 0).toNat + 3) ∧ st = .length ∨
        (bytes.getD 1 0).toNat ≤ 28 ∧ (bytes.getD 1 0).toNat + 3 ≤ bytes.length ∧
          bytes.getD ((bytes.getD 1 0).toNat + 2) 0 ≠ crc (bytes.take ((bytes.getD 1 0).toNat + 2)) ∧ st = .crc) →
      exec (.badFrame p bytes) s = .next { s with ports := s.ports.set p { s.ports.get p with
        shifted := ((s.ports.get p).response.bytes ++ List.replicate bytes.length 0).take bytes.length
        held := none
        response := { status := st, code := bytes.headD 0, payload := [] } } }) ∧
    (∀ (code : Byte) (f : Frame), f.port = p → (∀ c : Cmd, c.code ≠ code) →
      exec (.unknownCommand code f) s =
        .next ((s.atBlock f).respond p { status := .unknown, code := code, payload := [] }))

/-- A valid NOP is answered with the next part of a held read, which becomes absent after its last part, and otherwise with OK,
code 0 and no payload. The parts of a long read, joined in part order without their two header bytes, are its content, and every
part but the last fills a response. -/
def Obligations.LongReadsComeInParts : Prop :=
  (∀ (s : State) (f : Frame), s.hears .nop f →
    ((s.port f.port).held = none →
      exec (.nop f) s = .next ((s.heard f).respond f.port { status := .ok, code := 0, payload := [] })) ∧
    (∀ h, (s.port f.port).held = some h →
      exec (.nop f) s = .next ((s.heard f).setPort f.port { (s.heard f).port f.port with
        response := { status := .ok, code := h.code,
                      payload := byteOf h.next :: byteOf (partCount h.content) ::
                        (h.content.drop (26 * h.next)).take 26 }
        held := if h.next + 1 < partCount h.content then some { h with next := h.next + 1 } else none }))) ∧
  ∀ content : List Byte, 28 < content.length →
    (List.range (partCount content)).flatMap (fun k => (partPayload content k).drop 2) = content ∧
    (∀ k, k + 1 < partCount content → (partPayload content k).length = 28) ∧
    (∀ k, k < partCount content → 2 < (partPayload content k).length ∧ (partPayload content k).length ≤ 28) ∧
    partCount content = content.length / 26 + (if content.length % 26 = 0 then 0 else 1)

/-! ## Reads -/

/-- Every accepted read answers with its content, whole or in parts, and changes nothing but its port. A channel, profile,
descriptor or parameter number that names none is refused with RANGE. -/
def Obligations.ReadsAnswered : Prop :=
  ∀ (s : State) (f : Frame),
    (∀ c, s.hears .readCount f → chanOf (f.payload.getD 0 0) = some c →
      exec (.readCount f) s = .next ((s.atBlock f).readReplied f .readCount (s.countContent c))) ∧
    (s.hears .readSnap f → (s.ctu.snaps.get f.port).empty = false →
      exec (.readSnap f) s = .next ((s.atBlock f).readReplied f .readSnap (s.ctu.snaps.get f.port).content)) ∧
    (s.hears .readSnap f → (s.ctu.snaps.get f.port).empty = true →
      exec (.readSnap f) s = .next ((s.atBlock f).replied f .readSnap .state)) ∧
    (s.hears .readLanes f →
      exec (.readLanes f) s = .next ((s.atBlock f).readReplied f .readLanes s.lanesContent)) ∧
    (∀ i, s.hears .profileRead f → profileIndexOf (f.payload.getD 0 0) = some i →
      exec (.profileRead f) s = .next ((s.atBlock f).readReplied f .profileRead (s.profileContent i))) ∧
    (s.hears .travelRead f →
      exec (.travelRead f) s = .next ((s.atBlock f).readReplied f .travelRead (s.atBlock f).travelContent)) ∧
    (s.hears .armRead f → exec (.armRead f) s = .next ((s.atBlock f).readReplied f .armRead s.armContent)) ∧
    (∀ code : Claim → Byte, code .free = 0 → code .cab = 1 → code .program = 2 → code .lent = 5 →
      s.hears .claimRead f → exec (.claimRead f) s = .next ((s.atBlock f).respond f.port
        { status := .ok, code := 0x16
          payload := [code s.clt.armL, code s.clt.armR, code s.clt.pickup, code s.clt.spray] })) ∧
    (s.hears .sprayRead f → exec (.sprayRead f) s = .next ((s.atBlock f).readReplied f .sprayRead s.sprayContent)) ∧
    (∀ i, s.hears .descRead f → descIndexOf (f.payload.getD 0 0) = some i →
      exec (.descRead f) s = .next ((s.atBlock f).readReplied f .descRead (s.sge.descContent i))) ∧
    (s.hears .pgmRead f → exec (.pgmRead f) s = .next ((s.atBlock f).readReplied f .pgmRead s.sge.content)) ∧
    (∀ i, s.hears .cfgRead f → paramIdOf (f.payload.getD 0 0) = some i →
      exec (.cfgRead f) s = .next ((s.atBlock f).readReplied f .cfgRead (s.cfs.content i))) ∧
    (8 ≤ (f.payload.getD 0 0).toNat →
      (s.hears .readCount f → exec (.readCount f) s = .next ((s.atBlock f).replied f .readCount .range)) ∧
      (s.hears .profileRead f → exec (.profileRead f) s = .next ((s.atBlock f).replied f .profileRead .range))) ∧
    (32 ≤ (f.payload.getD 0 0).toNat → s.hears .descRead f →
      exec (.descRead f) s = .next ((s.atBlock f).replied f .descRead .range)) ∧
    (64 ≤ (f.payload.getD 0 0).toNat → s.hears .cfgRead f →
      exec (.cfgRead f) s = .next ((s.atBlock f).replied f .cfgRead .range))

/-- Every read content has the length of the code table, the long ones the part counts of R182, and every field stands where
the layout of section 11.3.4 puts it, each number modulo the width of its field. That "reversal pending" in TRAVEL_READ is the
stop cause is the model's reading (log entry 17), and so is the byte order of the three-byte fields (log entry 38). -/
def Obligations.ReadContentLayout : Prop :=
  ∀ s : State,
    ((∀ c, (s.countContent c).length = 8) ∧ (∀ p, (s.ctu.snaps.get p).content.length = 57) ∧ s.lanesContent.length = 82 ∧
      (∀ i, (s.profileContent i).length = 28) ∧ s.travelContent.length = 26 ∧ s.armContent.length = 58 ∧
      (Clt.content s.clt).length = 4 ∧ s.sprayContent.length = 74 ∧ (∀ i, (s.sge.descContent i).length = 34) ∧
      s.sge.content.length = 44 ∧ (∀ i, (s.cfs.content i).length = 11) ∧ (∀ p, (s.noticeContent p).length = 7) ∧
      (∀ p, partCount (s.ctu.snaps.get p).content = 3) ∧ partCount s.lanesContent = 4 ∧ partCount s.sprayContent = 3 ∧
      partCount s.armContent = 3 ∧ (∀ i, partCount (s.sge.descContent i) = 2) ∧ partCount s.sge.content = 2) ∧
    (∀ (c : ChanId) (l : List Byte), l = s.countContent c →
      byteAt l 0 = ChanId.num c ∧ at32 l 1 = (s.chan c).count.toNat ∧ sat16 l 5 = Int.bmod (s.chan c).speed 65536 ∧
      bitAt l 7 0 = (s.chan c).enabled ∧ bitAt l 7 1 = (s.chan c).clamp ∧
      bitAt l 7 2 = (match c with
        | .slewl => s.params.indexClear .left
        | .slewr => s.params.indexClear .right
        | .gnd | .tmot | .bmain | .barml | .barmr | .fan => false) ∧
      bitAt l 7 3 = ((c == .slewl || c == .slewr) && (s.chan c).homed) ∧
      bitAt l 7 4 = (c == .gnd && s.ctu.groundFault) ∧ bitAt l 7 5 = (c == .gnd && s.ctu.source == .tmot)) ∧
    (∀ (p : PortId) (b : SnapBuffer) (l : List Byte), b = s.ctu.snaps.get p → l = b.content →
      byteAt l 0 = b.seq.toNat ∧ at32 l 1 = b.uptime.toNat ∧ at32 l 5 = b.accumulator.toNat ∧
      ∀ c : ChanId, at32 l (9 + 6 * ChanId.num c) = (b.counts.get c).toNat ∧
        sat16 l (13 + 6 * ChanId.num c) = Int.bmod (b.speeds.get c) 65536) ∧
    (∀ l : List Byte, l = s.lanesContent →
      at16 l 0 = s.pba.available % 65536 ∧ at16 l 2 = s.pba.pressTraction % 65536 ∧
      at16 l 4 = s.pba.pressImplement % 65536 ∧ at16 l 6 = s.pba.pressFan % 65536 ∧
      (l.getD 8 0).toInt = Int.bmod (s.pba.ambient.getD (-128)) 256 ∧ bitAt l 9 0 = (s.pba.freshness == .fresh) ∧
      bitAt l 9 1 = s.pba.budgetClamp ∧
      bitAt l 9 2 = (s.pba.budgetClamp || lanesUp.any fun x =>
        (s.pba.lane x).demandClamp || (s.pba.lane x).flowClamp || (s.pba.lane x).levelClamp) ∧
      at16 l 10 = s.pba.budgetInEffect % 65536 ∧ byteAt l 12 = s.pba.allocNumber.toNat ∧
      at16 l 13 = s.pba.slack % 65536 ∧ byteAt l 15 = s.pba.shedCount % 256 ∧
      ∀ (i : LaneId) (x : Lane) (o : Nat), x = s.pba.lane i → o = 16 + 11 * lanesUp.idxOf i →
        bitAt l o 0 = x.req.active ∧ byteAt l o / 2 % 4 = x.out.state.num ∧ byteAt l o / 8 % 4 = s.params.laneClass i ∧
        bitAt l o 5 = x.demandClamp ∧ bitAt l o 6 = x.flowClamp ∧ bitAt l o 7 = x.levelClamp ∧
        at16 l (o + 1) = x.req.demand % 65536 ∧ at16 l (o + 3) = x.req.floor % 65536 ∧
        at16 l (o + 5) = x.req.flow % 65536 ∧ at16 l (o + 7) = x.out.grant % 65536 ∧
        at16 l (o + 9) = x.out.flow % 65536) ∧
    (∀ (i : Fin 8) (p : Profile) (l : List Byte), p = s.pft.profiles.get i → l = s.profileContent i →
      byteAt l 0 % 8 = s.pft.active.val ∧ bitAt l 0 3 = p.valid ∧ bitAt l 0 4 = s.profileInUse i ∧
      (p.s1 < 4096 → p.s3 < 4096 → p.m1 < 4096 → p.m3 < 4096 → p.a1 < 4096 → p.a3 < 4096 → p.fanRpm < 4096 →
        p.dose.b1 < 4096 → p.dose.b3 < 4096 →
        pairAt (l.drop 1) 0 = (p.s0 % 4096, p.s1) ∧ pairAt (l.drop 1) 1 = (p.s2 % 4096, p.s3) ∧
        pairAt (l.drop 1) 2 = (p.m0 % 4096, p.m1) ∧ pairAt (l.drop 1) 3 = (p.m2 % 4096, p.m3) ∧
        pairAt (l.drop 1) 4 = (p.a0 % 4096, p.a1) ∧ pairAt (l.drop 1) 5 = (p.a2 % 4096, p.a3) ∧
        pairAt (l.drop 1) 6 = (p.maxSweep % 4096, p.fanRpm) ∧ pairAt (l.drop 1) 7 = (p.dose.b0 % 4096, p.dose.b1) ∧
        pairAt (l.drop 1) 8 = (p.dose.b2 % 4096, p.dose.b3))) ∧
    (∀ (l : List Byte) (g : Tgv), l = s.travelContent → g = s.tgv →
      byteAt l 0 = g.mode.num ∧ bitAt l 1 0 = (g.direction == .rev) ∧ bitAt l 1 1 = (g.reqDirection == .rev) ∧
      bitAt l 1 2 = s.stopin ∧ bitAt l 1 3 = g.stopRequest ∧
      bitAt l 1 4 = (s.ports.cab.link == .silent || s.ports.cab.inReset) ∧
      bitAt l 1 5 = (g.reqDirection != g.direction && decide (0 < g.commandedSpeed)) ∧ bitAt l 1 6 = g.stopReported ∧
      bitAt l 1 7 = g.awaitingZero ∧ at16 l 2 = g.reqSpeed % 65536 ∧ at16 l 4 = s.modeMax g.mode % 65536 ∧
      at16 l 6 = g.segCap.getD 0 % 65536 ∧ at16 l 8 = g.brushCapRead.getD 0 % 65536 ∧
      at16 l 10 = (match g.tractionCap with
        | none => 65535
        | some c => min c 65534) ∧
      at16 l 12 = g.demandSpeed % 65536 ∧ at16 l 14 = g.targetSpeed % 65536 ∧ at16 l 16 = g.commandedSpeed % 65536 ∧
      sat16 l 18 = Int.bmod s.measured 65536 ∧ at16 l 20 = g.pumpFwd % 65536 ∧ at16 l 22 = g.pumpRev % 65536 ∧
      at16 l 24 = g.motor % 65536) ∧
    (∀ l : List Byte, l = s.armContent →
      (∀ (side : Side) (a : Arm) (o : Nat), a = s.arm side → o = (match side with
          | .left => 0
          | .right => 21) →
        byteAt l o = a.state.num ∧ byteAt l (o + 1) = a.phase.num ∧ byteAt l (o + 2) = a.cause.num ∧
        sat16 l (o + 3) = Int.bmod a.slewTarget 65536 ∧ sat32 l (o + 5) = s.position side ∧
        bitAt l (o + 9) 0 = (s.chan (slewChan side)).homed ∧ bitAt l (o + 9) 1 = a.onTarget ∧
        bitAt l (o + 9) 2 = a.deployPending ∧ bitAt l (o + 9) 3 = a.upSw ∧ bitAt l (o + 9) 4 = a.downSw ∧
        bitAt l (o + 9) 5 = a.liftUp ∧ bitAt l (o + 9) 6 = a.liftDown ∧ at16 l (o + 10) = a.rpm % 65536 ∧
        at16 l (o + 12) = a.stallTimer % 65536 ∧ byteAt l (o + 14) = a.stallCount % 256 ∧
        at16 l (o + 15) = a.slewPlus % 65536 ∧ at16 l (o + 17) = a.slewMinus % 65536 ∧
        at16 l (o + 19) = a.brushLevel % 65536) ∧
      ∀ u : Pickup, u = s.arc.pickup →
        byteAt l 42 = u.state.num ∧ byteAt l 43 = u.cause.num ∧ at16 l 44 = u.mainRpm % 65536 ∧
        at16 l 46 = u.fanRpm % 65536 ∧ at16 l 48 = u.stallTimer % 65536 ∧ byteAt l 50 = u.stallCount % 256 ∧
        bitAt l 51 0 = u.upSw ∧ bitAt l 51 1 = u.downSw ∧ bitAt l 51 2 = u.raiseValve ∧ bitAt l 51 3 = u.lowerValve ∧
        at16 l 52 = u.mainLevel % 65536 ∧ at16 l 54 = u.fanLevel % 65536 ∧ at16 l 56 = s.arc.cap.getD 0 % 65536) ∧
    (∀ l : List Byte, l = s.sprayContent →
      at32 l 0 = s.spc.estimate % 4294967296 ∧ bitAt l 4 0 = decide (s.spc.estimate ≤ s.params.reserve) ∧
      (∀ (i : BankId) (b : Bank) (o : Nat), b = s.spc.banks.get i → o = (match i with
          | .b0 => 5
          | .b1 => 20
          | .b2 => 35
          | .b3 => 50) →
        bitAt l o 0 = b.enabled ∧ bitAt l o 1 = b.widthClamp ∧ bitAt l o 2 = b.terms.all ∧ bitAt l o 3 = b.valve ∧
        bitAt l o 4 = b.doseShort ∧ at16 l (o + 1) = b.dose.getD 65535 % 65536 ∧ at16 l (o + 3) = b.doseInEffect % 65536 ∧
        at16 l (o + 5) = b.width % 65536 ∧ bitAt l (o + 7) 0 = b.terms.t1 ∧ bitAt l (o + 7) 1 = b.terms.t2 ∧
        bitAt l (o + 7) 2 = b.terms.t3 ∧ bitAt l (o + 7) 3 = b.terms.t4 ∧ bitAt l (o + 7) 4 = b.terms.t5 ∧
        bitAt l (o + 7) 5 = b.terms.t6 ∧ bitAt l (o + 7) 6 = b.terms.t7 ∧ byteAt l (o + 8) = termNum b.firstFailing ∧
        at32 l (o + 9) = b.openTime % 4294967296 ∧ at16 l (o + 13) = b.remainder % 65536) ∧
      bitAt l 65 0 = (s.pba.lane .spry).req.active ∧ at16 l 66 = (s.pba.lane .spry).req.demand % 65536 ∧
      at16 l 68 = (s.pba.lane .spry).req.floor % 65536 ∧ at16 l 70 = (s.pba.lane .spry).req.flow % 65536 ∧
      at16 l 72 = s.spc.pumpLevel % 65536) ∧
    (∀ (i : Fin 32) (d : Descriptor) (st : Settings) (l : List Byte), d = s.sge.ring.get i → st = d.request.settings →
      l = s.sge.descContent i →
      byteAt l 0 = i.val ∧ bitAt l 1 0 = (d.owner == .engine) ∧ bitAt l 1 1 = (s.sge.present && s.sge.cursor == i) ∧
      bitAt l 1 2 = d.result.isSome ∧ at16 l 2 = d.request.lengthMm / 1000 % 65536 ∧
      at16 l 4 = st.speedCap.getD 0 % 65536 ∧ byteAt l 6 = st.profile.val ∧ byteAt l 7 = st.left.num ∧
      sat16 l 8 = Int.bmod (st.leftAngle.getD (-32768)) 65536 ∧ byteAt l 10 = st.right.num ∧
      sat16 l 11 = Int.bmod (st.rightAngle.getD (-32768)) 65536 ∧ byteAt l 13 = st.pickup.num ∧
      byteAt l 14 = (match st.spray with
        | none => 255
        | some m => m.toNat) ∧
      at16 l 15 = st.dose.getD 65535 % 65536 ∧ byteAt l 17 = d.request.endAction.num ∧ bitAt l 18 0 = d.request.last ∧
      bitAt l 18 1 = false ∧ (d.result = none → l.drop 19 = List.replicate 15 0) ∧
      ∀ r : SegResult, d.result = some r →
        byteAt l 19 = r.status.num ∧ at32 l 20 = r.figures.distance % 4294967296 ∧
        at32 l 24 = r.figures.leadIn % 4294967296 ∧ at32 l 28 = r.figures.water % 4294967296 ∧
        byteAt l 32 = r.figures.stalls % 256 ∧ bitAt l 33 0 = r.figures.flags.overL ∧
        bitAt l 33 1 = r.figures.flags.overR ∧ bitAt l 33 2 = r.figures.flags.overPickup ∧
        bitAt l 33 3 = r.figures.flags.overSpray ∧ bitAt l 33 4 = r.figures.flags.staleSeen ∧
        bitAt l 33 5 = r.figures.flags.shedSeen ∧ bitAt l 33 6 = r.figures.flags.doseShortSeen ∧
        bitAt l 33 7 = r.figures.flags.stoppedByInput) ∧
    (∀ (e : Sge) (l : List Byte), e = s.sge → l = e.content →
      byteAt l 0 = e.state.num ∧ byteAt l 1 = e.suspendCause.num ∧ byteAt l 2 = e.returnState.num ∧
      byteAt l 3 = e.cursor.val ∧ bitAt l 4 0 = e.present ∧ bitAt l 4 1 = e.settings.isSome ∧
      byteAt l 5 = e.startPort.num ∧ byteAt l 6 = e.endKind.num ∧
      (e.settings = none → (l.drop 7).take 13 = List.replicate 13 0) ∧
      (∀ st : Settings, e.settings = some st →
        at16 l 7 = st.speedCap.getD 0 % 65536 ∧ byteAt l 9 = st.profile.val ∧ byteAt l 10 = st.left.num ∧
        sat16 l 11 = Int.bmod (st.leftAngle.getD (-32768)) 65536 ∧ byteAt l 13 = st.right.num ∧
        sat16 l 14 = Int.bmod (st.rightAngle.getD (-32768)) 65536 ∧ byteAt l 16 = st.pickup.num ∧
        byteAt l 17 = (match st.spray with
          | none => 255
          | some m => m.toNat) ∧
        at16 l 18 = st.dose.getD 65535 % 65536) ∧
      at32 l 20 = e.figures.distance % 4294967296 ∧ at32 l 24 = e.figures.leadIn % 4294967296 ∧
      at32 l 28 = e.figures.water % 4294967296 ∧ byteAt l 32 = e.figures.stalls % 256 ∧
      bitAt l 33 0 = e.figures.flags.overL ∧ bitAt l 33 1 = e.figures.flags.overR ∧
      bitAt l 33 2 = e.figures.flags.overPickup ∧ bitAt l 33 3 = e.figures.flags.overSpray ∧
      bitAt l 33 4 = e.figures.flags.staleSeen ∧ bitAt l 33 5 = e.figures.flags.shedSeen ∧
      bitAt l 33 6 = e.figures.flags.doseShortSeen ∧ bitAt l 33 7 = e.figures.flags.stoppedByInput ∧
      at32 l 34 = e.unplanned % 4294967296 ∧ at16 l 38 = e.completed % 65536 ∧
      ∀ i : Fin 32, (at32 l 40).testBit i.val = ((e.ring.get i).owner == .engine)) ∧
    (∀ (i : Fin 64) (l : List Byte), l = s.cfs.content i →
      byteAt l 0 = i.val ∧ sat32 l 1 = Int.bmod (s.cfs.pendingSet.val i) 4294967296 ∧
      sat32 l 5 = (match s.cfs.activeSet with
        | some p => Int.bmod (p.val i) 4294967296
        | none => 0) ∧
      bitAt l 9 0 = s.cfs.ready ∧ bitAt l 9 1 = s.cfs.activeSet.isSome ∧ byteAt l 10 = s.cfs.commitResult.num) ∧
    ∀ (p : PortId) (l : List Byte), l = s.noticeContent p →
      (∀ k : Notice, bitAt l (2 - k.num / 8) (k.num % 8) = (s.port p).hasNotice k ∧
        bitAt l (5 - k.num / 8) (k.num % 8) = (s.port p).mask.getLsbD k.num) ∧
      bitAt l 6 0 = (s.ports.cab.link == .silent) ∧ bitAt l 6 1 = s.ports.cab.inReset ∧
      bitAt l 6 2 = (s.ports.chassis.link == .silent) ∧ bitAt l 6 3 = s.ports.chassis.inReset ∧
      bitAt l 6 4 = (s.ports.route.link == .silent) ∧ bitAt l 6 5 = s.ports.route.inReset

/-! ## Notices -/

/-- NOTICE_READ answers with the set, the mask and the link states and empties the set of its own port, which drives ATTN high.
A posting reaches every port's set whatever its mask, its link and its reset, once each, and takes nothing away. That the set and
the mask are sent most significant byte first is the model's choice (log entry 38). -/
def Obligations.NoticesPostedAndRead : Prop :=
  (∀ (s : State) (f : Frame), s.hears .noticeRead f →
    ∃ t, exec (.noticeRead f) s = .next t ∧
      t = ((s.atBlock f).setPort f.port { (s.atBlock f).port f.port with notices := 0 }).respond f.port
        { status := .ok, code := 0x01,
          payload := be24 (s.port f.port).notices.toNat ++ be24 (s.port f.port).mask.toNat ++
            [(s.atBlock f).linkByte] } ∧
      (t.port f.port).attnLow = false) ∧
  ∀ (s : State) (k : Notice) (p : PortId) (j : Notice),
    (((s.post k).port p).hasNotice j = true ↔ j = k ∨ (s.port p).hasNotice j = true) ∧
    ((s.post k).post k) = s.post k ∧
    s.post k = { s with ports := (s.post k).ports } ∧
    { (s.post k).port p with notices := (s.port p).notices } = s.port p

/-- NOTICE_MASK: a mask with a bit beyond the seventeen kinds is refused with RANGE; otherwise the mask of its own port becomes
the one carried. The notice sets and the other ports' masks stay, and ATTN is low exactly while the set meets the mask.
That the three bytes of the mask come most significant first is the model's choice (log entry 38). -/
def Obligations.NoticeMaskSet : Prop :=
  ∀ (s : State) (f : Frame), s.hears .noticeMask f →
    (131072 ≤ u24 (f.payload.getD 0 0) (f.payload.getD 1 0) (f.payload.getD 2 0) →
      exec (.noticeMask f) s = .next ((s.atBlock f).replied f .noticeMask .range)) ∧
    (u24 (f.payload.getD 0 0) (f.payload.getD 1 0) (f.payload.getD 2 0) < 131072 →
      ∃ t, exec (.noticeMask f) s = .next t ∧
        t = ((s.atBlock f).setPort f.port { (s.atBlock f).port f.port with
          mask := BitVec.ofNat 17 (u24 (f.payload.getD 0 0) (f.payload.getD 1 0) (f.payload.getD 2 0)) }).replied f
            .noticeMask .ok ∧
        (∀ p, (t.port p).notices = (s.port p).notices) ∧
        (∀ p, p ≠ f.port → (t.port p).mask = (s.port p).mask) ∧
        ((t.port f.port).attnLow = true ↔
          ∃ k : Notice, (s.port f.port).notices.getLsbD k.num = true ∧
            (u24 (f.payload.getD 0 0) (f.payload.getD 1 0) (f.payload.getD 2 0)).testBit k.num = true))

/-! ## Counter Unit -/

/-- SNAPSHOT latches all eight counts and speeds, the accumulator, the uptime and the sequence number into its own port's
buffer, and nothing else changes. -/
def Obligations.SnapshotLatches : Prop :=
  ∀ (s : State) (f : Frame) (b : SnapBuffer), s.hears .snapshot f →
    b = {
      empty := false
      seq := (s.ctu.snaps.get f.port).nextSeq
      counts := .ofFn fun c => (s.chan c).ext ++ (s.chan c).hw
      speeds := .ofFn fun c => (s.chan c).speed
      accumulator := s.ctu.accumulator
      uptime := s.ctu.uptime
      nextSeq := (s.ctu.snaps.get f.port).nextSeq + 1 } →
    exec (.snapshot f) s = .next
      (State.replied { s.atBlock f with ctu := { s.ctu with snaps := s.ctu.snaps.set f.port b } } f .snapshot .ok)

/-- SET_COUNT loads the low 16 bits of its value into the hw count and the high 16 into the extension of a disabled channel,
which is no longer homed; gate reference, speed and clamp flag stay. On an enabled channel it is refused with STATE. -/
def Obligations.SetCountLoads : Prop :=
  ∀ (s : State) (f : Frame) (c : ChanId) (v : Word), s.hears .setCount f → chanOf (f.payload.getD 0 0) = some c →
    v.toNat = u32 (f.payload.getD 1 0) (f.payload.getD 2 0) (f.payload.getD 3 0) (f.payload.getD 4 0) →
    ((s.chan c).enabled = true → exec (.setCount f) s = .next ((s.atBlock f).replied f .setCount .state)) ∧
    ((s.chan c).enabled = false → ∃ x : Channel,
      x = { s.chan c with hw := v.extractLsb' 0 16, ext := v.extractLsb' 16 16, homed := false } ∧ x.count = v ∧
      exec (.setCount f) s = .next (((s.atBlock f).setChan c x).replied f .setCount .ok))

/-- CH_ENABLE, CH_DISABLE and CH_CLEAR on the channel they name; the Spray Controller takes a changed measured speed. A number
that names no channel is refused with RANGE. -/
def Obligations.ChannelCommands : Prop :=
  ∀ (s : State) (f : Frame),
    (∀ c, chanOf (f.payload.getD 0 0) = some c →
      (s.hears .chEnable f → (s.chan c).enabled = true →
        exec (.chEnable f) s = .next ((s.atBlock f).replied f .chEnable .ok)) ∧
      (s.hears .chEnable f → (s.chan c).enabled = false →
        exec (.chEnable f) s = .next (((s.atBlock f).setChan c { s.chan c with
          enabled := true, gateRef := (s.chan c).count, gateTimer := some (s.params.gate c) }).replied f .chEnable .ok)) ∧
      (s.hears .chDisable f → (s.chan c).enabled = false →
        exec (.chDisable f) s = .next ((s.atBlock f).replied f .chDisable .ok)) ∧
      (s.hears .chDisable f → (s.chan c).enabled = true →
        exec (.chDisable f) s = .next (State.replied (State.speedRefresh { s.atBlock f with ctu :=
          { s.ctu.setChan c { s.chan c with enabled := false, gateTimer := none, speed := 0, homed := false } with
            persistence := if c = .gnd then 0 else s.ctu.persistence } } s) f .chDisable .ok)) ∧
      (s.hears .chClear f →
        exec (.chClear f) s = .next (State.replied (State.speedRefresh ((s.atBlock f).setChan c { s.chan c with
          hw := 0, ext := 0, speed := 0, clamp := false, homed := false
          gateRef := if (s.chan c).enabled then 0 else (s.chan c).gateRef
          gateTimer := if (s.chan c).enabled then some (s.params.gate c) else (s.chan c).gateTimer }) s) f .chClear
            .ok))) ∧
    (8 ≤ (f.payload.getD 0 0).toNat →
      (s.hears .chEnable f → exec (.chEnable f) s = .next ((s.atBlock f).replied f .chEnable .range)) ∧
      (s.hears .chDisable f → exec (.chDisable f) s = .next ((s.atBlock f).replied f .chDisable .range)) ∧
      (s.hears .setCount f → exec (.setCount f) s = .next ((s.atBlock f).replied f .setCount .range)) ∧
      (s.hears .chClear f → exec (.chClear f) s = .next ((s.atBlock f).replied f .chClear .range)))

/-- The plausibility evaluation: the condition is a TMOT speed above 500 mm/s with GND at 0; the persistence grows by the gate
while it holds and is 0 otherwise; at 1000 ms the fault is set once, the source becomes TMOT and GROUND_FAULT is posted.
GND_FAULT_CLEAR: OK without effect while there is no fault, STATE while the condition holds, and otherwise the fault ends and
GND is the distance source again. -/
def Obligations.GroundFaultSetAndCleared : Prop :=
  (∀ (s : State) (holds : Bool) (n : Nat),
    (holds = true ↔ 500 < (s.chan .tmot).speed.natAbs ∧ (s.chan .gnd).speed = 0) →
    n = (if holds then s.ctu.persistence + s.params.gate .gnd else 0) →
    (1000 ≤ n ∧ s.ctu.groundFault = false →
      s.plausibility.ctu = { s.ctu with condition := holds, persistence := n, groundFault := true, source := .tmot } ∧
      s.plausibility.measured = (s.chan .tmot).speed ∧
      ∀ p, (s.plausibility.port p).hasNotice .groundFault = true) ∧
    (n < 1000 ∨ s.ctu.groundFault = true →
      s.plausibility = { s with ctu := { s.ctu with condition := holds, persistence := n } })) ∧
  ∀ (s : State) (f : Frame), s.hears .gndFaultClear f →
    (s.ctu.groundFault = false → exec (.gndFaultClear f) s = .next ((s.atBlock f).replied f .gndFaultClear .ok)) ∧
    (s.ctu.groundFault = true → s.ctu.condition = true →
      exec (.gndFaultClear f) s = .next ((s.atBlock f).replied f .gndFaultClear .state)) ∧
    (s.ctu.groundFault = true → s.ctu.condition = false →
      exec (.gndFaultClear f) s = .next (State.replied (State.speedRefresh { s.atBlock f with ctu :=
        { s.ctu with groundFault := false, persistence := 0, source := .gnd } } s) f .gndFaultClear .ok))

/-- A change on a quadrature channel's inputs counts up where it leaves A leading B and down where B leads A; a change of
both, a disabled channel, a count held by its index and a part in reset count nothing. A pulse channel counts its rising
edges up. Only a forward count on the distance source builds distance. That a level already there is no change, and that a
part in reset only follows its levels, are the model's reading (log entries 4 and 7). -/
def Obligations.EdgesCount : Prop :=
  ∀ (s : State),
    (∀ (ch : QuadChan) (a b : Bool) (c : ChanId) (x : Channel), c = QuadChan.chan ch →
      x = { s.chan c with levelA := a, levelB := b } →
      (s.rstnHeld = true ∨ (s.chan c).enabled = false ∨ s.countHeld c = true ∨
          ((s.chan c).levelA = a ↔ (s.chan c).levelB = b) →
        exec (.quadratureChange ch a b) s = .next (s.setChan c x)) ∧
      (s.rstnHeld = false → (s.chan c).enabled = true → s.countHeld c = false →
        (((s.chan c).levelA ≠ a ∧ (s.chan c).levelB = b ∧ a = !b) ∨
          ((s.chan c).levelA = a ∧ (s.chan c).levelB ≠ b ∧ a = b)) →
        ∃ y : Channel, y.count = x.count + 1 ∧ x = { y with hw := x.hw, ext := x.ext } ∧
          exec (.quadratureChange ch a b) s =
            .next (if s.ctu.source.chan = c then (s.setChan c y).forwardCount else s.setChan c y)) ∧
      (s.rstnHeld = false → (s.chan c).enabled = true → s.countHeld c = false →
        (((s.chan c).levelA ≠ a ∧ (s.chan c).levelB = b ∧ a = b) ∨
          ((s.chan c).levelA = a ∧ (s.chan c).levelB ≠ b ∧ a = !b)) →
        ∃ y : Channel, y.count = x.count - 1 ∧ x = { y with hw := x.hw, ext := x.ext } ∧
          exec (.quadratureChange ch a b) s = .next (s.setChan c y))) ∧
    (∀ (ch : PulseChan) (c : ChanId), c = PulseChan.chan ch →
      (s.rstnHeld = true ∨ (s.chan c).enabled = false → exec (.pulseRisingEdge ch) s = .next s) ∧
      (s.rstnHeld = false → (s.chan c).enabled = true →
        ∃ y : Channel, y.count = (s.chan c).count + 1 ∧ s.chan c = { y with hw := (s.chan c).hw, ext := (s.chan c).ext } ∧
          exec (.pulseRisingEdge ch) s = .next (s.setChan c y)))

/-- A forward count adds its channel's pitch to the micrometre remainder; for each whole millimetre in turn, 1000 µm are taken
from it, the accumulator grows, the Segment Engine receives the millimetre, and the mark progress grows or, at the spray
interval, returns to 0 and hands a distance mark to the Spray Controller. At the Counter Unit the remainder, the accumulator
and the mark progress change and nothing else. -/
def Obligations.ForwardCountBuildsDistance : Prop :=
  ∀ (s u : State) (mm : State → State) (n : Nat),
    u = { s with ctu := { s.ctu with remainder := s.ctu.remainder + s.sourcePitch } } →
    n = (s.ctu.remainder + s.sourcePitch) / 1000 →
    (∀ t v : State, v = State.engineMm { t with ctu := { t.ctu with
        remainder := t.ctu.remainder - 1000
        accumulator := t.ctu.accumulator + 1 } } →
      mm t = (if v.params.sprayInterval ≤ v.ctu.markProgress + 1 then
          State.distanceMark { v with ctu := { v.ctu with markProgress := 0 } }
        else { v with ctu := { v.ctu with markProgress := v.ctu.markProgress + 1 } })) →
    s.forwardCount = mm^[n] u ∧
    (s.ctu.markProgress < s.params.sprayInterval → s.forwardCount.ctu = { s.ctu with
      accumulator := s.ctu.accumulator + BitVec.ofNat 32 n
      remainder := (s.ctu.remainder + s.sourcePitch) % 1000
      markProgress := (s.ctu.markProgress + n) % s.params.sprayInterval })

/-- The index input of an enabled ANGULAR channel with index-clear enable clears the count, homes the channel and restarts
the gate, and the event takes an arm in HOMING into DEPLOYING or STOWED. Otherwise, and on release, only the level is
followed. That an event counts only from the other level, and that a part in reset follows the level alone, are the model's
reading (log entries 4 and 7). -/
def Obligations.IndexClearsAndHomes : Prop :=
  ∀ (s : State) (side : Side) (x : Channel), x = s.chan (slewChan side) →
    (s.rstnHeld = false → x.enabled = true → s.params.indexClear side = true → x.index = false →
      ∀ t, t = s.setChan (slewChan side) { x with
          index := true, hw := 0, ext := 0, homed := true, gateRef := 0
          gateTimer := some (s.params.gate (slewChan side)) } →
        exec (.indexActive side) s = .next
          (if (s.arm side).state = .homing ∧ (s.arm side).deployPending = true then
            t.setArm side { s.arm side with
              deployPending := false, state := .deploying, phase := .slew, moveTimer := some s.params.moveTimeout }
           else if (s.arm side).state = .homing then
            t.setArm side { s.arm side with
              state := .stowed, moveTimer := none, slewPlus := 0, slewMinus := 0, liftUp := false, liftDown := false }
           else t)) ∧
    (s.rstnHeld = true ∨ x.enabled = false ∨ s.params.indexClear side = false ∨ x.index = true →
      exec (.indexActive side) s = .next (s.setChan (slewChan side) { x with index := true })) ∧
    exec (.indexInactive side) s = .next (s.setChan (slewChan side) { x with index := false })

/-- At the expiry of an enabled channel's gate the speed of R5 is published, limited to ±32767 with the clamp flag and
CLAMP, and the next gate starts at the present count; at a GND expiry the plausibility evaluation follows. That an expiry
acts only once its timer has run out is the model's choice (log entry 3). -/
def Obligations.GateExpiryPublishesSpeed : Prop :=
  ∀ (s : State) (ch : ChanId) (x : Channel), x = s.chan ch →
    (x.enabled = true → x.gateTimer = some 0 →
      ∀ (v : Int) (t : State),
        v = (match ch with
          | .gnd => ((x.count - x.gateRef).toInt * s.params.pitchGnd).tdiv (s.params.gate .gnd)
          | .tmot => ((x.count - x.gateRef).toInt * s.params.pitchTmot).tdiv (s.params.gate .tmot)
          | .bmain => (((x.count - x.gateRef).toNat : Int) * 60000).tdiv (s.params.gate .bmain * s.params.cprBmain)
          | .barml => (((x.count - x.gateRef).toNat : Int) * 60000).tdiv (s.params.gate .barml * s.params.cprBarml)
          | .barmr => (((x.count - x.gateRef).toNat : Int) * 60000).tdiv (s.params.gate .barmr * s.params.cprBarmr)
          | .fan => (((x.count - x.gateRef).toNat : Int) * 60000).tdiv (s.params.gate .fan * s.params.cprFan)
          | .slewl => ((x.count - x.gateRef).toInt * 1000).tdiv (s.params.gate .slewl)
          | .slewr => ((x.count - x.gateRef).toInt * 1000).tdiv (s.params.gate .slewr)) →
        t = State.speedRefresh { s with
          ctu := s.ctu.setChan ch { x with
            speed := max (-32767) (min 32767 v)
            clamp := x.clamp || decide (v < -32767 ∨ 32767 < v)
            gateRef := x.count
            gateTimer := some (s.params.gate ch) }
          ports := postAllIf s.ports .clamp (decide (v < -32767 ∨ 32767 < v) && !x.clamp) } s →
        exec (.gateExpiry ch) s = .next (if ch = .gnd then t.plausibility else t)) ∧
    (x.enabled = false ∨ x.gateTimer ≠ some 0 → exec (.gateExpiry ch) s = .next s)

/-- One millisecond of the model (log entry 2): the uptime counts, every running timer loses a millisecond, every open valve's
open time grows, and nothing else changes; while RSTN is held nothing changes. -/
def Obligations.UptimeTickMovesTimers : Prop :=
  ∀ s : State,
    (s.rstnHeld = true → exec .uptimeTick s = .next s) ∧
    (s.rstnHeld = false → ∃ t, exec .uptimeTick s = .next t ∧
      t.ctu.uptime = s.ctu.uptime + 1 ∧
      (∀ c, t.chan c = { s.chan c with gateTimer := (s.chan c).gateTimer.map (· - 1) }) ∧
      (∀ i, t.spc.banks.get i = { s.spc.banks.get i with
        pulseTimer := (s.spc.banks.get i).pulseTimer.map (· - 1)
        openTime := if (s.spc.banks.get i).valve then min 4294967295 ((s.spc.banks.get i).openTime + 1)
          else (s.spc.banks.get i).openTime }) ∧
      (∀ p, t.port p = { s.port p with silenceTimer := (s.port p).silenceTimer.map (· - 1) }) ∧
      (∀ side, t.arm side = { s.arm side with moveTimer := (s.arm side).moveTimer.map (· - 1) }) ∧
      t.arc.pickup = { s.arc.pickup with moveTimer := s.arc.pickup.moveTimer.map (· - 1) } ∧
      t.arc.cap = s.arc.cap ∧
      t.arc.updateTimer = s.arc.updateTimer.map (· - 1) ∧
      t.tgv = { s.tgv with updateTimer := s.tgv.updateTimer.map (· - 1) } ∧
      t.pba = { s.pba with freshTimer := s.pba.freshTimer.map (· - 1), allocTimer := s.pba.allocTimer.map (· - 1) } ∧
      t = { s with ctu := { s.ctu with uptime := t.ctu.uptime, chans := t.ctu.chans }, pba := t.pba, tgv := t.tgv,
                   arc := t.arc, spc := { s.spc with banks := t.spc.banks }, ports := t.ports })

/-! ## Power Budget Allocator -/

/-- BUDGET writes its fields (section 11.3.1: four numbers of two bytes and a signed byte, 128 for "not supplied"), limited to
2500 pu, 500 bar and −40 to 85 °C; "not supplied" keeps the ambient; the budget is FRESH with its timer restarted; a limited
available power sets BUDGET_CLAMP, and posts CLAMP where it was clear. The Spray Controller then takes the ambient and the
pressure. -/
def Obligations.BudgetWritesRecord : Prop :=
  ∀ (s t : State) (f : Frame) (v : BudgetFields), s.hears .budget f → v = {
      available := u16 (f.payload.getD 0 0) (f.payload.getD 1 0)
      traction := u16 (f.payload.getD 2 0) (f.payload.getD 3 0)
      implement := u16 (f.payload.getD 4 0) (f.payload.getD 5 0)
      fan := u16 (f.payload.getD 6 0) (f.payload.getD 7 0)
      ambient := if f.payload.getD 8 0 = 128 then none else some (f.payload.getD 8 0).toInt } →
    t = { s.atBlock f with
      pba := { s.pba with
        available := min v.available 2500
        pressTraction := min v.traction 500
        pressImplement := min v.implement 500
        pressFan := min v.fan 500
        ambient := match v.ambient with
          | some a => some (max (-40) (min 85 a))
          | none => s.pba.ambient
        freshness := .fresh
        freshTimer := some s.params.freshLimit
        budgetClamp := s.pba.budgetClamp || decide (2500 < v.available) }
      ports := postAllIf (s.atBlock f).ports .clamp (decide (2500 < v.available) && !s.pba.budgetClamp) } →
    exec (.budget f) s = .next (State.replied ((t.refreshIf (t.pba.ambient != s.pba.ambient)).publishSpry) f .budget
      (if v.available ≤ 2500 ∧ v.traction ≤ 500 ∧ v.implement ≤ 500 ∧ v.fan ≤ 500 ∧
          (v.ambient.all fun a => decide (-40 ≤ a) && decide (a ≤ 85)) = true then .ok
       else .clamped))

/-- LANES_CLEAR clears the eighteen lane flags, BUDGET_CLAMP and the shed count, and nothing else of the record. The
freshness expiry makes a FRESH budget STALE, stops its timer, posts BUDGET_STALE on every port and marks a current segment;
it changes no value of the record. That an expiry acts only once its timer has run out, so that none happens after a frame that
restarted the timer (R25), is the model's choice (log entry 3). -/
def Obligations.LanesClearAndFreshnessExpiry : Prop :=
  ∀ (s : State) (f : Frame) (fresh : Prop), (fresh ↔ s.pba.freshness = .fresh ∧ s.pba.freshTimer = some 0) →
    (s.hears .lanesClear f → exec (.lanesClear f) s = .next (State.replied { s.atBlock f with pba := { s.pba with
      budgetClamp := false
      shedCount := 0
      lanes := .ofFn fun l =>
        { s.pba.lane l with demandClamp := false, flowClamp := false, levelClamp := false } } } f .lanesClear .ok)) ∧
    (fresh → ∃ t, exec .freshnessExpiry s = .next t ∧ t.pba = { s.pba with freshness := .stale, freshTimer := none } ∧
      (∀ p, (t.port p).hasNotice .budgetStale = true) ∧
      t.sge = { s.sge with figures := { s.sge.figures with flags := { s.sge.figures.flags with
        staleSeen := s.sge.figures.flags.staleSeen || s.sge.present } } } ∧
      t = { s with pba := t.pba, sge := t.sge, ports := (s.post .budgetStale).ports }) ∧
    (¬fresh → exec .freshnessExpiry s = .next s)

/-- One allocation: the budget in effect is shared out exactly, grants and slack together; a lane that asks for nothing is IDLE
with grant 0, a STARVED lane has grant 0, a served lane has a grant between its effective floor and its demand and is FULL
exactly when it has its demand; each grant is converted to flow at the lane's pressure, a flow above 65535 fu saturating with
FLOW_CLAMP; CLAMP is posted exactly where a lane flag goes from clear to set; the number counts on and the timer is loaded
again. -/
def Obligations.AllocationSharesBudget : Prop :=
  ∀ s : State, s.pba.allocTimer = some 0 →
    ∃ t, exec .allocationPeriodExpiry s = .next t ∧
      t.pba.budgetInEffect = (match s.pba.freshness with
        | .fresh => s.pba.available
        | .stale => s.params.fallback) ∧
      t.pba.allocNumber = s.pba.allocNumber + 1 ∧ t.pba.allocTimer = some 20 ∧
      (lanesUp.map fun l => (t.pba.lane l).out.grant).sum + t.pba.slack = t.pba.budgetInEffect ∧
      (∀ l, ((s.pba.lane l).req.active = false → (t.pba.lane l).out = LaneOut.idle) ∧
        ((s.pba.lane l).req.active = true → (t.pba.lane l).out.state ≠ .idle) ∧
        ((t.pba.lane l).out.state = .starved → (t.pba.lane l).out.grant = 0) ∧
        ((t.pba.lane l).out.state = .full ∨ (t.pba.lane l).out.state = .part →
          min (s.pba.lane l).req.floor (s.pba.lane l).req.demand ≤ (t.pba.lane l).out.grant ∧
          (t.pba.lane l).out.grant ≤ (s.pba.lane l).req.demand ∧
          ((t.pba.lane l).out.state = .full ↔ (t.pba.lane l).out.grant = (s.pba.lane l).req.demand)) ∧
        (t.pba.lane l).out.flow = min 65535 (600 * (t.pba.lane l).out.grant / max (s.pba.heldPressure l) 20) ∧
        (t.pba.lane l).flowClamp = ((s.pba.lane l).flowClamp ||
          decide (65535 < 600 * (t.pba.lane l).out.grant / max (s.pba.heldPressure l) 20))) ∧
      (∀ p, (t.port p).hasNotice .clamp = ((s.port p).hasNotice .clamp || lanesUp.any fun l =>
        (t.pba.lane l).demandClamp && !(s.pba.lane l).demandClamp || (t.pba.lane l).flowClamp && !(s.pba.lane l).flowClamp ||
          (t.pba.lane l).levelClamp && !(s.pba.lane l).levelClamp)) ∧
      t.cfs = s.cfs ∧ t.ctu = s.ctu ∧ t.pft = s.pft ∧ t.tgv = s.tgv ∧ t.clt = s.clt

/-- Who is shed and who comes back: with the lanes ranked by class and, within a class, by index, an admitted lane is shed
exactly when it has a floor and the floors of the admitted lanes not above it exceed the budget; a STARVED lane is re-admitted
exactly when its floor and the readmit margin fit beside the floors of the lanes that stayed and of those re-admitted before it.
Every shed is counted and posts LANE_SHED; a re-admission posts LANE_READMIT. -/
def Obligations.AllocationAdmits : Prop :=
  ∀ (s t : State) (floor rank : LaneId → Nat) (asks starved : LaneId → Bool), s.pba.allocTimer = some 0 →
    exec .allocationPeriodExpiry s = .next t →
    (∀ l, floor l = min (s.pba.lane l).req.floor (s.pba.lane l).req.demand ∧
      rank l = 6 * s.params.laneClass l + lanesUp.idxOf l ∧ asks l = (s.pba.lane l).req.active ∧
      starved l = ((s.pba.lane l).out.state == .starved)) →
    (∀ l, asks l = true → starved l = false →
      ((t.pba.lane l).out.state = .starved ↔ floor l ≠ 0 ∧ s.budgetInEffect <
        ((lanesUp.filter fun x => asks x && !starved x && decide (rank x ≤ rank l)).map floor).sum)) ∧
    (∀ l, asks l = true → starved l = true →
      ((t.pba.lane l).out.state ≠ .starved ↔
        ((lanesUp.filter fun x => (t.pba.lane x).out.state.served && (!starved x || decide (rank x < rank l))).map
          floor).sum + floor l + s.params.readmitMargin ≤ s.budgetInEffect)) ∧
    t.pba.shedCount = min 255 (s.pba.shedCount +
      (lanesUp.filter fun x => asks x && !starved x && (t.pba.lane x).out.state == .starved).length) ∧
    (∀ p, (t.port p).hasNotice .laneShed = ((s.port p).hasNotice .laneShed ||
      lanesUp.any fun x => asks x && !starved x && (t.pba.lane x).out.state == .starved)) ∧
    (∀ p, (t.port p).hasNotice .laneReadmit = ((s.port p).hasNotice .laneReadmit ||
      lanesUp.any fun x => starved x && (t.pba.lane x).out.state.served))

/-- Distribution by class: what the classes before have left over decides. A class whose extras fit is served in full; in the
others each lane has its floor and its share of the remainder, in proportion to its extra, rounded down. -/
def Obligations.AllocationDistributes : Prop :=
  ∀ (s t : State) (floor extra : LaneId → Nat) (served : List LaneId), s.pba.allocTimer = some 0 →
    exec .allocationPeriodExpiry s = .next t →
    (∀ l, floor l = min (s.pba.lane l).req.floor (s.pba.lane l).req.demand ∧
      extra l = (s.pba.lane l).req.demand - floor l) →
    served = (lanesUp.filter fun l => (t.pba.lane l).out.state.served) →
    ∀ (l : LaneId) (rest sum : Nat), l ∈ served →
      rest + (served.map floor).sum + ((served.filter fun x =>
        decide (s.params.laneClass x < s.params.laneClass l)).map fun x => (t.pba.lane x).out.grant - floor x).sum =
          s.budgetInEffect →
      sum = ((served.filter fun x => decide (s.params.laneClass x = s.params.laneClass l)).map extra).sum →
      (t.pba.lane l).out.grant = if sum ≤ rest then (s.pba.lane l).req.demand else floor l + extra l * rest / sum

/-- A publication of grants lowers each brush, broom and fan level to what the new grant carries, and to 0 where the lane is
STARVED or IDLE; it never raises one. The pump level is set from the new grant. The other outputs do not change. That an
expiry acts only once its timer has run out is the model's choice (log entry 3). -/
def Obligations.DriveLevelsFollowGrants : Prop :=
  ∀ (s : State) (carried : State → LaneId → Nat),
    (∀ u l, carried u l =
      if (u.pba.lane l).out.state = .full ∨ (u.pba.lane l).out.state = .part then
        roundDivNat (min (u.pba.lane l).out.flow (u.pba.lane l).req.flow * 4095) (u.params.qfs l)
      else 0) →
    (s.pba.allocTimer = some 0 → ∃ t, exec .allocationPeriodExpiry s = .next t ∧
      t.arc = { s.arc with
        left := { s.arc.left with brushLevel := min s.arc.left.brushLevel (carried t .arml) }
        right := { s.arc.right with brushLevel := min s.arc.right.brushLevel (carried t .armr) }
        pickup := { s.arc.pickup with
          mainLevel := min s.arc.pickup.mainLevel (carried t .main)
          fanLevel := min s.arc.pickup.fanLevel (carried t .fan) } } ∧
      t.spc.pumpLevel = (if (t.pba.lane .spry).req.active = true then min 4095 (carried t .spry) else 0)) ∧
    (s.pba.allocTimer ≠ some 0 → exec .allocationPeriodExpiry s = .next s)

/-! ## Arithmetic of the manual, profiles -/

/-- Rounding to nearest with a tie to the even neighbour, on integers and on natural numbers, and division rounding up. -/
def Obligations.DivisionsRound : Prop :=
  (∀ n d : Int, 0 < d →
    2 * (roundDiv n d * d - n) ≤ d ∧ -d ≤ 2 * (roundDiv n d * d - n) ∧
    (2 * (roundDiv n d * d - n) = d ∨ 2 * (roundDiv n d * d - n) = -d → roundDiv n d % 2 = 0)) ∧
  (∀ n d : Nat, 0 < d → (roundDivNat n d : Int) = roundDiv n d) ∧
  ∀ n d : Nat, 0 < d → n ≤ ceilDiv n d * d ∧ ceilDiv n d * d < n + d

/-- The forward curve of R54, for a curve whose breakpoints rise and whose brush speeds never fall: the three rows of the table,
the values at the breakpoints, the range, the monotony. -/
def Obligations.CurveForward : Prop :=
  ∀ c : Curve, c.s0 < c.s1 → c.s1 < c.s2 → c.s2 < c.s3 → c.r0 ≤ c.r1 → c.r1 ≤ c.r2 → c.r2 ≤ c.r3 →
    (∀ v, v ≤ c.s0 → c.forward v = c.r0) ∧ (∀ v, c.s3 ≤ v → c.forward v = c.r3) ∧
    (∀ v, c.s0 ≤ v → v < c.s1 → c.forward v = c.r0 + (v - c.s0) * (c.r1 - c.r0) / (c.s1 - c.s0)) ∧
    (∀ v, c.s1 ≤ v → v < c.s2 → c.forward v = c.r1 + (v - c.s1) * (c.r2 - c.r1) / (c.s2 - c.s1)) ∧
    (∀ v, c.s2 ≤ v → v < c.s3 → c.forward v = c.r2 + (v - c.s2) * (c.r3 - c.r2) / (c.s3 - c.s2)) ∧
    c.forward c.s0 = c.r0 ∧ c.forward c.s1 = c.r1 ∧ c.forward c.s2 = c.r2 ∧ c.forward c.s3 = c.r3 ∧
    (∀ v, c.r0 ≤ c.forward v ∧ c.forward v ≤ c.r3) ∧ (∀ v w, v ≤ w → c.forward v ≤ c.forward w) ∧
    (c.r0 = c.r1 → ∀ v, v ≤ c.s1 → c.forward v = c.r0) ∧
    (c.r1 = c.r2 → ∀ v, c.s1 ≤ v → v ≤ c.s2 → c.forward v = c.r1) ∧
    (c.r2 = c.r3 → ∀ v, c.s2 ≤ v → c.forward v = c.r2)

/-- The inverse curve of R55: the three rows of the table with the highest index, the plateau cases, the range, the bound by the
forward curve, the monotony. -/
def Obligations.CurveInverse : Prop :=
  ∀ c : Curve, c.s0 < c.s1 → c.s1 < c.s2 → c.s2 < c.s3 → c.r0 ≤ c.r1 → c.r1 ≤ c.r2 → c.r2 ≤ c.r3 →
    (∀ q, c.r3 ≤ q ↔ c.inverse q = none) ∧ (∀ q, q < c.r0 → c.inverse q = some c.s0) ∧
    (∀ q, c.r2 ≤ q → q < c.r3 →
      c.inverse q = some (c.s2 + (q - c.r2) * (c.s3 - c.s2) / (c.r3 - c.r2))) ∧
    (∀ q, c.r1 ≤ q → q < c.r2 →
      c.inverse q = some (c.s1 + (q - c.r1) * (c.s2 - c.s1) / (c.r2 - c.r1))) ∧
    (∀ q, c.r0 ≤ q → q < c.r1 →
      c.inverse q = some (c.s0 + (q - c.r0) * (c.s1 - c.s0) / (c.r1 - c.r0))) ∧
    (c.r0 = c.r1 → c.r1 < c.r2 → c.inverse c.r0 = some c.s1) ∧
    (c.r1 = c.r2 → c.r2 < c.r3 → c.inverse c.r1 = some c.s2) ∧
    (∀ q v, c.r0 ≤ q → c.inverse q = some v → c.s0 ≤ v ∧ v < c.s3 ∧ c.forward v ≤ q) ∧
    (∀ q q' v', q ≤ q' → c.inverse q' = some v' → ∃ v, c.inverse q = some v ∧ v ≤ v')

/-- PROFILE_SELECT and PROFILE_WRITE: their tests in order, what a stored profile must satisfy, and the publication of a
changed active profile, on which a bank set to PROFILE takes the new default dose and a new width. The record is nine
twelve-bit pairs from payload offset 1 on (sections 11.1 and 11.3.2); a stored record is valid. -/
def Obligations.ProfileCommands : Prop :=
  ∀ (s : State) (f : Frame) (pair : Nat → Nat × Nat) (p : Profile),
    (∀ k, pair k = ((f.payload.getD (3 * k + 1) 0).toNat * 16 + (f.payload.getD (3 * k + 2) 0).toNat / 16,
      (f.payload.getD (3 * k + 2) 0).toNat % 16 * 256 + (f.payload.getD (3 * k + 3) 0).toNat)) →
    p = {
      valid := true
      s0 := (pair 0).1, s1 := (pair 0).2, s2 := (pair 1).1, s3 := (pair 1).2
      m0 := (pair 2).1, m1 := (pair 2).2, m2 := (pair 3).1, m3 := (pair 3).2
      a0 := (pair 4).1, a1 := (pair 4).2, a2 := (pair 5).1, a3 := (pair 5).2
      maxSweep := (pair 6).1
      fanRpm := (pair 6).2
      dose := { b0 := (pair 7).1, b1 := (pair 7).2, b2 := (pair 8).1, b3 := (pair 8).2 } } →
    p.valid = true ∧
    (s.hears .profileSelect f → s.sge.state ≠ .idle →
      exec (.profileSelect f) s = .next ((s.atBlock f).replied f .profileSelect .state)) ∧
    (8 ≤ (f.payload.getD 0 0).toNat → s.sge.state = .idle → s.hears .profileSelect f →
      exec (.profileSelect f) s = .next ((s.atBlock f).replied f .profileSelect .range)) ∧
    (∀ i : Fin 8, (f.payload.getD 0 0).toNat = i.val → s.sge.state = .idle → s.hears .profileSelect f →
      ((s.pft.profiles.get i).valid = false →
        exec (.profileSelect f) s = .next ((s.atBlock f).replied f .profileSelect .range)) ∧
      ((s.pft.profiles.get i).valid = true → s.pft.active = i →
        exec (.profileSelect f) s = .next ((s.atBlock f).replied f .profileSelect .ok)) ∧
      ((s.pft.profiles.get i).valid = true → s.pft.active ≠ i →
        exec (.profileSelect f) s = .next (State.replied
          (State.profilePublished { s.atBlock f with pft := { s.pft with active := i } }) f .profileSelect .ok))) ∧
    (8 ≤ (f.payload.getD 0 0).toNat → s.hears .profileWrite f →
      exec (.profileWrite f) s = .next ((s.atBlock f).replied f .profileWrite .range)) ∧
    (∀ (i : Fin 8) (t : State), (f.payload.getD 0 0).toNat = i.val → s.hears .profileWrite f →
      t = { s.atBlock f with pft := { s.pft with profiles := s.pft.profiles.set i.val p i.isLt } } →
      (s.profileInUse i = true →
        exec (.profileWrite f) s = .next ((s.atBlock f).replied f .profileWrite .inUse)) ∧
      (s.profileInUse i = false → p.ok = false →
        exec (.profileWrite f) s = .next ((s.atBlock f).replied f .profileWrite .range)) ∧
      (s.profileInUse i = false → p.ok = true →
        exec (.profileWrite f) s = .next
          (State.replied (if s.pft.active = i then t.profilePublished else t) f .profileWrite .ok))) ∧
    (p.ok = true ↔ (100 ≤ p.s0 ∧ p.s0 < p.s1 ∧ p.s1 < p.s2 ∧ p.s2 < p.s3 ∧ p.s3 ≤ 4000) ∧
      (p.m0 ≤ p.m1 ∧ p.m1 ≤ p.m2 ∧ p.m2 ≤ p.m3 ∧ p.m3 ≤ 400) ∧ (p.a0 ≤ p.a1 ∧ p.a1 ≤ p.a2 ∧ p.a2 ≤ p.a3 ∧ p.a3 ≤ 400) ∧
      p.s0 ≤ p.maxSweep ∧ p.maxSweep ≤ 4000 ∧ p.fanRpm ≤ 4000 ∧ ∀ i, p.dose.get i ≤ 500) ∧
    (∀ i : Fin 8, s.profileInUse i = true ↔ (s.pft.active = i ∧ (s.pft.profiles.get i).valid = true) ∨
      ∃ k : Fin 32, (s.sge.ring.get k).owner = .engine ∧ (s.sge.ring.get k).request.settings.profile = i) ∧
    (∀ (i : BankId) (b : Bank), b = s.spc.banks.get i →
      (b.dose = none ∧ b.doseInEffect ≠ s.profile.dose.get i →
        s.profilePublished.spc.banks.get i =
          Bank.rewidth { b with doseInEffect := s.profile.dose.get i } s.params i) ∧
      (b.dose ≠ none ∨ b.doseInEffect = s.profile.dose.get i → s.profilePublished.spc.banks.get i = b))

/-! ## Travel Governor -/

/-- TRAVEL_REQ: the five tests in their order, and what an accepted request stores, with CLAMPED where the speed is above the
maximum of the new mode. -/
def Obligations.TravelRequests : Prop :=
  ∀ (s : State) (f : Frame), s.hears .travelReq f →
    (3 ≤ (f.payload.getD 0 0).toNat ∨ 2 ≤ (f.payload.getD 1 0).toNat →
      exec (.travelReq f) s = .next ((s.atBlock f).replied f .travelReq .range)) ∧
    (∀ (m : TravelMode) (d : Direction) (v top : Nat),
      modeOf (f.payload.getD 0 0) = some m → directionOf (f.payload.getD 1 0) = some d →
      v = u16 (f.payload.getD 2 0) (f.payload.getD 3 0) →
      top = (match m with
        | .parked => 0
        | .sweep => (match s.tgv.segCap with
          | some c => min s.profile.maxSweep c
          | none => s.profile.maxSweep)
        | .transport => s.params.transportMax) →
      exec (.travelReq f) s = .next
        (if s.tgv.awaitingZero = true ∧ v ≠ 0 then (s.atBlock f).replied f .travelReq .state
         else if m ≠ s.tgv.mode ∧ s.tgv.commandedSpeed ≠ 0 then (s.atBlock f).replied f .travelReq .state
         else if m = .sweep ∧ s.profile.valid = false then (s.atBlock f).replied f .travelReq .range
         else if m = .transport ∧ s.tgv.mode ≠ .transport ∧ (s.sge.state ≠ .idle ∨ s.arc.left.state ≠ .stowed ∨
            s.arc.right.state ≠ .stowed ∨ s.arc.pickup.state ≠ .up) then (s.atBlock f).replied f .travelReq .state
         else State.replied { s.atBlock f with tgv := { s.tgv with
           mode := m
           reqDirection := d
           reqSpeed := min v top
           awaitingZero := if v = 0 then false else s.tgv.awaitingZero } } f .travelReq
             (if v ≤ top then .ok else .clamped)))

/-- One travel update: direction, demand speed, traction cap, target, ramp, TRAC lane, outputs; and the completion of a
program stop, which ends a STOPPING program with a re-arm. A stop cause makes the target 0, and the commanded speed never
jumps. A demand or floor above 2500 pu sets DEMAND_CLAMP of TRAC and a pump level above 4095 its LEVEL_CLAMP, each posting CLAMP
where it was clear. That an expiry acts only once its timer has run out is the model's choice (log entry 3). -/
def Obligations.TravelUpdateDrives : Prop :=
  ∀ (s : State) (g : Tgv) (dem tgt cmd raw : Nat) (dir : Direction) (cap : Option Nat) (stop done : Prop), g = s.tgv →
    dem = min (min g.reqSpeed (s.modeMax g.mode)) (match s.arc.cap with
      | some c => if g.mode = .sweep then c else g.reqSpeed
      | none => g.reqSpeed) →
    cap = (match (s.pba.lane .trac).out.state with
      | .part => some ((s.pba.lane .trac).out.grant * 1000 / s.params.ktrac)
      | .starved => some 0
      | .full => none
      | .idle => none) →
    (stop ↔ s.stopin = true ∨ g.stopRequest = true ∨ s.ports.cab.link = .silent ∨ s.ports.cab.inReset = true ∨
      (g.reqDirection ≠ g.direction ∧ 0 < g.commandedSpeed)) →
    (stop → tgt = 0) → (¬stop → tgt = min dem (cap.getD dem)) →
    cmd = (if g.commandedSpeed < tgt then min tgt (g.commandedSpeed + max 1 (s.params.upRamp / 100))
      else max tgt (g.commandedSpeed - max 1 ((if s.stopin then s.params.stopRamp else s.params.downRamp) / 100))) →
    dir = (if g.commandedSpeed = 0 then g.reqDirection else g.direction) →
    raw = (match g.mode with
      | .parked => 0
      | .sweep => roundDivNat (cmd * 4095) 4000
      | .transport => roundDivNat (cmd * 4095) 12000) →
    (done ↔ g.stopRequest = true ∧ g.stopReported = false ∧ cmd = 0 ∧ s.measured = 0) →
    (g.updateTimer ≠ some 0 → exec .travelUpdate s = .next s) ∧
    (g.updateTimer = some 0 → ∃ (t : State) (h : Tgv), exec .travelUpdate s = .next t ∧
      h = { g with
        direction := dir
        demandSpeed := dem
        tractionCap := cap
        brushCapRead := s.arc.cap
        targetSpeed := tgt
        commandedSpeed := cmd
        pumpFwd := if dir = .fwd then min raw 4095 else 0
        pumpRev := if dir = .rev then min raw 4095 else 0
        motor := match g.mode with
          | .parked => 0
          | .sweep => s.params.sweepMotor
          | .transport => s.params.transportMotor
        updateTimer := some 10 } ∧
      (t.pba.lane .trac).req = (if g.mode = .parked then LaneReq.inactive else
        { active := true
          demand := min 2500 (ceilDiv (min dem (cmd + s.params.upRamp / 10) * s.params.ktrac) 1000)
          floor := min 2500 s.params.tractionFloor
          flow := 0 }) ∧
      (t.pba.lane .trac).levelClamp = ((s.pba.lane .trac).levelClamp || decide (4095 < raw)) ∧
      (t.pba.lane .trac).demandClamp = ((s.pba.lane .trac).demandClamp || (g.mode != .parked &&
        (decide (2500 < ceilDiv (min dem (cmd + s.params.upRamp / 10) * s.params.ktrac) 1000) ||
          decide (2500 < s.params.tractionFloor)))) ∧
      (t.pba.lane .trac).flowClamp = (s.pba.lane .trac).flowClamp ∧
      (∀ p, (t.port p).hasNotice .clamp = ((s.port p).hasNotice .clamp ||
        (t.pba.lane .trac).demandClamp && !(s.pba.lane .trac).demandClamp ||
        (t.pba.lane .trac).levelClamp && !(s.pba.lane .trac).levelClamp)) ∧
      t.pba = s.pba.setLane .trac (t.pba.lane .trac) ∧ (t.pba.lane .trac).out = (s.pba.lane .trac).out ∧
      t.arc = s.arc ∧ t.spc = s.spc ∧ t.ctu = s.ctu ∧ t.cfs = s.cfs ∧ t.pft = s.pft ∧
      (¬done → t.tgv = h ∧ t.sge = s.sge ∧ t.clt = s.clt) ∧
      (done → s.sge.state ≠ .stopping → t.tgv = { h with stopReported := true } ∧ t.sge = s.sge ∧ t.clt = s.clt) ∧
      (done → s.sge.state = .stopping →
        t.tgv = { h with
          stopReported := true, stopRequest := false, segCap := none, reqSpeed := 0, awaitingZero := true } ∧
        t.sge.state = .idle ∧ t.sge.endKind = .stop ∧ t.sge.present = false ∧
        t.sge.completed = min 65535 (s.sge.completed + 1) ∧ t.sge.cursor = s.sge.cursor ∧
        t.sge.ring.get s.sge.cursor = { s.sge.ring.get s.sge.cursor with
          owner := .master
          result := some { status := .done, figures := s.sge.figures } } ∧
        (∀ i, i ≠ s.sge.cursor → t.sge.ring.get i = s.sge.ring.get i) ∧ t.clt = s.clt.map Claim.onEnd ∧
        ∀ p, (t.port p).hasNotice .segDone = true ∧ (t.port p).hasNotice .pgmEnd = true))

/-! ## Claims -/

/-- CLAIM, TAKE and RELEASE on the entry they name; TAKE of a Program entry marks a current segment, RELEASE of a Lent entry
gives the resource the setting in force, or the stop's setting while the program is STOPPING. A byte that names no resource is
refused with RANGE. -/
def Obligations.ClaimCommands : Prop :=
  ∀ (s : State) (f : Frame),
    (∀ (r : Resource) (e : Claim), resourceOf (f.payload.getD 0 0) = some r → e = s.clt.get r →
      (s.hears .claim f →
        exec (.claim f) s = .next (State.replied ((s.atBlock f).setClaim r (if e = .free then .cab else e)) f .claim
          (if e = .program then .claimed else .ok))) ∧
      (s.hears .take f →
        exec (.take f) s = .next (State.replied { (s.atBlock f).setClaim r (match e with
            | .free | .cab => .cab
            | .program | .lent => .lent) with
          sge := if e = .program ∧ s.sge.present = true then
              { s.sge with figures := { s.sge.figures with flags := s.sge.figures.flags.override r } }
            else s.sge } f .take .ok)) ∧
      (s.hears .release f →
        (e = .free ∨ e = .program → exec (.release f) s = .next ((s.atBlock f).replied f .release .claimed)) ∧
        (e = .cab → exec (.release f) s = .next (((s.atBlock f).setClaim r .free).replied f .release .ok)) ∧
        (∀ st, e = .lent → s.sge.settings = some st →
          s.sge.state = .running ∨ s.sge.state = .starved ∨ s.sge.state = .suspended →
          exec (.release f) s =
            .next ((((s.atBlock f).setClaim r .program).applySetting r st).replied f .release .ok)) ∧
        (e = .lent → s.sge.state = .stopping →
          exec (.release f) s = .next ((((s.atBlock f).setClaim r .program).stopResource r).replied f .release .ok)))) ∧
    (4 ≤ (f.payload.getD 0 0).toNat →
      (s.hears .claim f → exec (.claim f) s = .next ((s.atBlock f).replied f .claim .range)) ∧
      (s.hears .take f → exec (.take f) s = .next ((s.atBlock f).replied f .take .range)) ∧
      (s.hears .release f → exec (.release f) s = .next ((s.atBlock f).replied f .release .range)))

/-- Every gated request is refused with CLAIMED unless CAB holds the resource, and changes nothing but its port; an arm code
that names no arm is refused with RANGE before that. -/
def Obligations.GatedRequestsNeedClaim : Prop :=
  ∀ (s : State) (f : Frame),
    (∀ side, sideOf (f.payload.getD 0 0) = some side → (s.clt.get (armResource side)).holder ≠ .cab →
      (s.hears .armSet f →
        exec (.armSetDeploy f) s = .next ((s.atBlock f).replied f .armSet .claimed) ∧
        exec (.armSetRetarget f) s = .next ((s.atBlock f).replied f .armSet .claimed) ∧
        exec (.armSetStow f) s = .next ((s.atBlock f).replied f .armSet .claimed)) ∧
      (s.hears .armClear f → exec (.armClear f) s = .next ((s.atBlock f).replied f .armClear .claimed))) ∧
    (2 ≤ (f.payload.getD 0 0).toNat →
      (s.hears .armSet f →
        exec (.armSetDeploy f) s = .next ((s.atBlock f).replied f .armSet .range) ∧
        exec (.armSetRetarget f) s = .next ((s.atBlock f).replied f .armSet .range) ∧
        exec (.armSetStow f) s = .next ((s.atBlock f).replied f .armSet .range)) ∧
      (s.hears .armClear f → exec (.armClear f) s = .next ((s.atBlock f).replied f .armClear .range))) ∧
    (s.clt.pickup.holder ≠ .cab → s.hears .pickupSet f →
      exec (.pickupSetWork f) s = .next ((s.atBlock f).replied f .pickupSet .claimed) ∧
      exec (.pickupSetUp f) s = .next ((s.atBlock f).replied f .pickupSet .claimed)) ∧
    (s.clt.spray.holder ≠ .cab → s.hears .spraySet f →
      exec (.spraySet f) s = .next ((s.atBlock f).replied f .spraySet .claimed)) ∧
    (∀ e : Claim, e.holder ≠ .cab ↔ e = .free ∨ e = .program)

/-! ## Arm Controller -/

/-- DEPLOY, RETARGET, STOW and ARM_CLEAR on an arm whose resource CAB holds: the slew target with its limits and status, the
state tables, and the entry into LIFTING spelled out. An action code that names no action is refused with RANGE. That a RETARGET
without an angle is refused with RANGE in every state of the arm is the model's reading (log entry 33). -/
def Obligations.ArmRequests : Prop :=
  ∀ (s : State) (f : Frame) (side : Side) (a : Arm) (angle : Option Int) (raw target : Int) (st : Status) (up : State),
    sideOf (f.payload.getD 0 0) = some side → (s.clt.get (armResource side)).holder = .cab → a = s.arm side →
    angle = angleOf (f.payload.getD 2 0) (f.payload.getD 3 0) →
    raw = (match angle with
      | some x => roundDiv (x * s.params.slewCpr) 3600
      | none => a.slewTarget) →
    target = max s.params.slewMin (min s.params.slewMax raw) → st = (if target = raw then .ok else .clamped) →
    up = (((s.atBlock f).publishLane (armLane side) LaneReq.inactive).setArm side { a with
        state := .lifting
        cause := .command
        brushLevel := 0
        rpm := 0
        deployPending := false
        stallTimer := 0
        slewTarget := 0
        liftDown := false
        liftUp := !a.upSw
        moveTimer := some s.params.moveTimeout }).refreshIf (a.state == .working) →
    (s.hears .armSet f → 3 ≤ (f.payload.getD 1 0).toNat →
      exec (.armSetDeploy f) s = .next ((s.atBlock f).replied f .armSet .range) ∧
      exec (.armSetRetarget f) s = .next ((s.atBlock f).replied f .armSet .range) ∧
      exec (.armSetStow f) s = .next ((s.atBlock f).replied f .armSet .range)) ∧
    (s.hears .armSet f → (f.payload.getD 1 0).toNat = 0 →
      (s.stopin = true ∨ s.tgv.mode = .transport →
        exec (.armSetDeploy f) s = .next ((s.atBlock f).replied f .armSet .state)) ∧
      (s.stopin = false → s.tgv.mode ≠ .transport →
        (a.state = .stowed → (s.chan (slewChan side)).homed = true → exec (.armSetDeploy f) s = .next
          (((s.atBlock f).setArm side { a with
            slewTarget := target
            state := .deploying
            phase := .slew
            moveTimer := some s.params.moveTimeout }).replied f .armSet st)) ∧
        (a.state = .stowed → (s.chan (slewChan side)).homed = false → exec (.armSetDeploy f) s = .next
          (((s.atBlock f).setArm side { a with
            slewTarget := target
            deployPending := true
            state := .homing
            moveTimer := some s.params.moveTimeout }).replied f .armSet st)) ∧
        (a.state = .homing → exec (.armSetDeploy f) s = .next
          (((s.atBlock f).setArm side { a with slewTarget := target, deployPending := true }).replied f .armSet st)) ∧
        (a.state = .deploying ∨ a.state = .working → exec (.armSetDeploy f) s = .next
          (if angle = none then (s.atBlock f).replied f .armSet .ok
           else ((s.atBlock f).setArm side { a with slewTarget := target }).replied f .armSet st)) ∧
        (a.state = .lifting ∨ a.state = .fault →
          exec (.armSetDeploy f) s = .next ((s.atBlock f).replied f .armSet .state)))) ∧
    (s.hears .armSet f → (f.payload.getD 1 0).toNat = 1 →
      (angle = none → exec (.armSetRetarget f) s = .next ((s.atBlock f).replied f .armSet .range)) ∧
      (angle ≠ none → a.state = .deploying ∨ a.state = .working → exec (.armSetRetarget f) s = .next
        (((s.atBlock f).setArm side { a with slewTarget := target }).replied f .armSet st)) ∧
      (angle ≠ none → a.state ≠ .deploying → a.state ≠ .working →
        exec (.armSetRetarget f) s = .next ((s.atBlock f).replied f .armSet .state))) ∧
    (s.hears .armSet f → (f.payload.getD 1 0).toNat = 2 →
      (a.state = .homing ∨ a.state = .deploying ∨ a.state = .working →
        exec (.armSetStow f) s = .next (up.replied f .armSet .ok)) ∧
      (a.state = .stowed ∨ a.state = .lifting →
        exec (.armSetStow f) s = .next ((s.atBlock f).replied f .armSet .ok)) ∧
      (a.state = .fault → exec (.armSetStow f) s = .next ((s.atBlock f).replied f .armSet .state))) ∧
    (s.hears .armClear f →
      (a.state ≠ .fault ∨ a.upSw = true ∧ a.downSw = true →
        exec (.armClear f) s = .next ((s.atBlock f).replied f .armClear .state)) ∧
      (a.state = .fault → a.upSw = true → a.downSw = false → exec (.armClear f) s = .next
        (((s.atBlock f).setArm side { a with
          state := .stowed
          moveTimer := none
          slewPlus := 0
          slewMinus := 0
          liftUp := false
          liftDown := false }).replied f .armClear .ok)) ∧
      (a.state = .fault → a.upSw = false → exec (.armClear f) s = .next (up.replied f .armClear .ok)))

/-- PICKUP_SET WORK and UP with the PICKUP claim: the state table, the entries into LOWERING and RAISING spelled out, each
ending at once where its switch is found active. That UP from FAULT with the up switch active keeps the cause is the model's
reading (log entry 31). -/
def Obligations.PickupRequests : Prop :=
  ∀ (s : State) (f : Frame) (u : Pickup) (down up : State), s.hears .pickupSet f → s.clt.pickup.holder = .cab →
    u = s.arc.pickup →
    down = State.refreshIf { s.atBlock f with arc := { s.arc with pickup := { u with
      state := if u.downSw then .working else .lowering
      raiseValve := false
      lowerValve := !u.downSw
      moveTimer := if u.downSw then none else some s.params.moveTimeout } } } u.downSw →
    up = State.refreshIf { ((s.atBlock f).publishLane .main LaneReq.inactive).publishLane .fan LaneReq.inactive with
      arc := { s.arc with pickup := { u with
        state := if u.upSw then .up else .raising
        cause := .command
        mainRpm := 0
        fanRpm := 0
        mainLevel := 0
        fanLevel := 0
        stallTimer := 0
        lowerValve := false
        raiseValve := !u.upSw
        moveTimer := if u.upSw then none else some s.params.moveTimeout } } } (u.state == .working) →
    (f.payload.getD 0 0 = 1 →
      (s.stopin = true ∨ s.tgv.mode = .transport →
        exec (.pickupSetWork f) s = .next ((s.atBlock f).replied f .pickupSet .state)) ∧
      (s.stopin = false → s.tgv.mode ≠ .transport →
        (u.state = .up → exec (.pickupSetWork f) s = .next (down.replied f .pickupSet .ok)) ∧
        (u.state = .lowering ∨ u.state = .working →
          exec (.pickupSetWork f) s = .next ((s.atBlock f).replied f .pickupSet .ok)) ∧
        (u.state = .raising ∨ u.state = .fault →
          exec (.pickupSetWork f) s = .next ((s.atBlock f).replied f .pickupSet .state)))) ∧
    (f.payload.getD 0 0 = 0 →
      (u.state = .up ∨ u.state = .raising →
        exec (.pickupSetUp f) s = .next ((s.atBlock f).replied f .pickupSet .ok)) ∧
      (u.state = .lowering ∨ u.state = .working → exec (.pickupSetUp f) s = .next (up.replied f .pickupSet .ok)) ∧
      (u.state = .fault → u.upSw = true → u.downSw = true →
        exec (.pickupSetUp f) s = .next ((s.atBlock f).replied f .pickupSet .state)) ∧
      (u.state = .fault → u.upSw = true → u.downSw = false → exec (.pickupSetUp f) s = .next
        (State.replied { s.atBlock f with arc := { s.arc with pickup := { u with state := .up } } } f .pickupSet .ok)) ∧
      (u.state = .fault → u.upSw = false → exec (.pickupSetUp f) s = .next (up.replied f .pickupSet .ok))) ∧
    (2 ≤ (f.payload.getD 0 0).toNat → exec (.pickupSetUp f) s = .next ((s.atBlock f).replied f .pickupSet .range))

/-- A change of a position switch, and the expiry of a move timer: both switches active outside FAULT, and a movement that runs
out of time, put the unit into FAULT with everything off and ARM_FAULT posted; otherwise a switch ends the phase or the
movement it belongs to. A part in reset only follows the level. That a level already there changes nothing, that a part in
reset only follows, that an expiry acts only once its timer has run out, and that the pickup's commanded speeds are 0 at once
on its entry to FAULT are the model's reading (log entries 3, 4, 7 and 35). -/
def Obligations.SwitchesAndTimeouts : Prop :=
  ∀ s : State,
    (∀ (unit : Equip) (sw : SwitchEnd) (active : Bool),
      (s.switchLevel unit sw = active → exec (.positionSwitchChange unit sw active) s = .next s) ∧
      (s.switchLevel unit sw ≠ active → s.rstnHeld = true →
        exec (.positionSwitchChange unit sw active) s = .next (s.withSwitch unit sw active))) ∧
    (∀ (side : Side) (unit : Equip) (faulted : Arm → Cause → Arm),
      unit = (match side with
        | .left => .left
        | .right => .right) →
      (∀ x c, faulted x c = { x with
        state := .fault
        cause := c
        slewPlus := 0
        slewMinus := 0
        brushLevel := 0
        liftUp := false
        liftDown := false
        deployPending := false
        rpm := 0
        moveTimer := none
        stallTimer := 0 }) →
      (∀ (sw : SwitchEnd) (active : Bool) (a : Arm), s.rstnHeld = false → s.switchLevel unit sw ≠ active →
        a = (match sw with
          | .up => { s.arm side with upSw := active }
          | .down => { s.arm side with downSw := active }) →
        (a.upSw = true ∧ a.downSw = true ∧ a.state ≠ .fault →
          exec (.positionSwitchChange unit sw active) s = .next
            ((((s.publishLane (armLane side) LaneReq.inactive).setArm side (faulted a .switch)).refreshIf
              (a.state == .working)).post .armFault)) ∧
        (a.upSw = false ∨ a.downSw = false ∨ a.state = .fault →
          exec (.positionSwitchChange unit sw active) s = .next (s.setArm side
            (if a.state = .deploying ∧ a.phase = .lower ∧ a.downSw = true then
              { a with phase := .spinup, liftDown := false }
             else if a.state = .lifting then { a with liftUp := !a.upSw }
             else a)))) ∧
      ((s.arm side).moveTimer = some 0 → (s.arm side).state = .homing ∨ (s.arm side).state = .deploying ∨
          (s.arm side).state = .lifting →
        exec (.moveTimerExpiry unit) s = .next
          (((s.publishLane (armLane side) LaneReq.inactive).setArm side (faulted (s.arm side) .timeout)).post
            .armFault)) ∧
      ((s.arm side).moveTimer ≠ some 0 ∨ (s.arm side).state = .stowed ∨ (s.arm side).state = .working ∨
          (s.arm side).state = .fault → exec (.moveTimerExpiry unit) s = .next s)) ∧
    (∀ (faulted : Pickup → Cause → Pickup) (off : State → State),
      (∀ x c, faulted x c = { x with
        state := .fault
        cause := c
        mainRpm := 0
        fanRpm := 0
        mainLevel := 0
        fanLevel := 0
        raiseValve := false
        lowerValve := false
        moveTimer := none
        stallTimer := 0 }) →
      (∀ t, off t = (t.publishLane .main LaneReq.inactive).publishLane .fan LaneReq.inactive) →
      (∀ (sw : SwitchEnd) (active : Bool) (u : Pickup), s.rstnHeld = false → s.switchLevel .pickup sw ≠ active →
        u = (match sw with
          | .up => { s.arc.pickup with upSw := active }
          | .down => { s.arc.pickup with downSw := active }) →
        (u.upSw = true ∧ u.downSw = true ∧ u.state ≠ .fault →
          exec (.positionSwitchChange .pickup sw active) s = .next
            ((State.refreshIf { off s with arc := { s.arc with pickup := faulted u .switch } }
              (u.state == .working)).post .armFault)) ∧
        (u.state = .lowering → u.upSw = false → u.downSw = true →
          exec (.positionSwitchChange .pickup sw active) s = .next
            (State.sprayRefresh { s with arc := { s.arc with pickup :=
              { u with state := .working, lowerValve := false, moveTimer := none } } })) ∧
        (u.state = .raising → u.upSw = true → u.downSw = false →
          exec (.positionSwitchChange .pickup sw active) s = .next { s with arc := { s.arc with pickup :=
            { u with state := .up, raiseValve := false, moveTimer := none } } }) ∧
        (u.state = .lowering → u.downSw = false →
          exec (.positionSwitchChange .pickup sw active) s = .next { s with arc := { s.arc with pickup :=
            { u with lowerValve := true } } }) ∧
        (u.state = .raising → u.upSw = false →
          exec (.positionSwitchChange .pickup sw active) s = .next { s with arc := { s.arc with pickup :=
            { u with raiseValve := true } } }) ∧
        (u.state = .fault ∨ (u.state = .up ∨ u.state = .working) ∧ (u.upSw = false ∨ u.downSw = false) →
          exec (.positionSwitchChange .pickup sw active) s = .next { s with arc := { s.arc with pickup := u } })) ∧
      (s.arc.pickup.moveTimer = some 0 → s.arc.pickup.state = .lowering ∨ s.arc.pickup.state = .raising →
        exec (.moveTimerExpiry .pickup) s = .next
          (State.post { off s with arc := { s.arc with pickup := faulted s.arc.pickup .timeout } } .armFault)) ∧
      (s.arc.pickup.moveTimer ≠ some 0 ∨ s.arc.pickup.state = .up ∨ s.arc.pickup.state = .working ∨
          s.arc.pickup.state = .fault → exec (.moveTimerExpiry .pickup) s = .next s))

/-- What one arm update leaves: the slew outputs by the state of each arm, the brush, broom and fan speeds and levels by state
and lane, the four lanes' fields with their clamp flags, the brush-sufficiency cap, and the timer loaded again. CLAMP is posted
exactly where a lane flag goes from clear to set. The other blocks change only where the Spray Controller and the engine take
the changes. That an expiry acts only once its timer has run out, and that on-target is false where the slew loop does not run,
are the model's reading (log entries 3 and 14). -/
def Obligations.ArmUpdateDrivesOutputs : Prop :=
  ∀ (s : State) (raw : LaneId → Nat → Nat) (flow : Nat → Nat → Nat) (power : LaneId → Nat → Nat)
    (rpm : LaneId → Nat → Nat) (req : LaneId → Nat → Nat → LaneReq) (p : Params) (pr : Profile)
    (armSpeed mainSpeed fanFloor : Nat), s.arc.updateTimer = some 0 → p = s.params → pr = s.profile →
    armSpeed = pr.armCurve.forward s.tgv.targetSpeed → mainSpeed = pr.mainCurve.forward s.tgv.targetSpeed →
    fanFloor = ceilDiv (pr.fanRpm * p.fanDisp * p.fanFloorPct) 10000 →
    (∀ l q, raw l q = if (s.pba.lane l).out.state = .full ∨ (s.pba.lane l).out.state = .part then
      roundDivNat (min (s.pba.lane l).out.flow q * 4095) (p.qfs l) else 0) →
    (∀ n d, flow n d = ceilDiv (n * d) 100) → (∀ l d, rpm l d = (s.pba.lane l).out.flow * 100 / d) →
    (∀ l q, power l q = ceilDiv (q * s.pba.pressure l) 600) →
    (∀ l q floor, req l q floor =
      { active := true, flow := q, demand := min 2500 (power l q), floor := min 2500 (power l floor) }) →
    ∃ t, exec .armUpdate s = .next t ∧ t.arc.updateTimer = some 10 ∧
      (∀ (side : Side) (a : Arm) (e : Int) (l : LaneId) (q floor : Nat) (on : Bool), a = t.arm side →
        e = a.slewTarget - s.position side → l = armLane side → q = flow armSpeed p.armDisp →
        floor = flow pr.a0 p.armDisp → on = (a.state == .working || a.state == .deploying && a.phase == .spinup) →
        (a.state = .deploying ∨ a.state = .working ∨ a.state = .lifting ∧ (s.chan (slewChan side)).homed = true →
          a.onTarget = decide (e.natAbs ≤ p.deadband) ∧
          a.slewPlus = (if p.deadband < e.natAbs ∧ 0 < e then min p.slewMaxLevel (e.natAbs * p.kslew) else 0) ∧
          a.slewMinus = (if p.deadband < e.natAbs ∧ e < 0 then min p.slewMaxLevel (e.natAbs * p.kslew) else 0)) ∧
        (a.state = .homing ∨ a.state = .lifting ∧ (s.chan (slewChan side)).homed = false →
          a.onTarget = false ∧ a.slewPlus = 0 ∧ a.slewMinus = p.homingLevel) ∧
        (a.state = .stowed ∨ a.state = .fault → a.onTarget = false ∧ a.slewPlus = 0 ∧ a.slewMinus = 0) ∧
        (a.state = .working → a.brushLevel = min 4095 (raw l q) ∧ a.rpm = min armSpeed (rpm l p.armDisp)) ∧
        (a.state ≠ .working → a.brushLevel = 0 ∧ a.rpm = 0) ∧
        (t.pba.lane l).req = (if on then req l q floor else LaneReq.inactive) ∧
        (t.pba.lane l).levelClamp = ((s.pba.lane l).levelClamp || a.state == .working && decide (4095 < raw l q)) ∧
        (t.pba.lane l).demandClamp = ((s.pba.lane l).demandClamp ||
          on && (decide (2500 < power l q) || decide (2500 < power l floor)))) ∧
      (∀ (u : Pickup) (on : Bool) (q qf : Nat), u = t.arc.pickup → on = (u.state == .working) →
        q = flow mainSpeed p.mainDisp → qf = flow pr.fanRpm p.fanDisp →
        u.mainLevel = (if on then min 4095 (raw .main q) else 0) ∧
        u.mainRpm = (if on then min mainSpeed (rpm .main p.mainDisp) else 0) ∧
        u.fanLevel = (if on then min 4095 (raw .fan qf) else 0) ∧
        u.fanRpm = (if on then min pr.fanRpm (rpm .fan p.fanDisp) else 0) ∧
        (t.pba.lane .main).req = (if on then req .main q (flow pr.m0 p.mainDisp) else LaneReq.inactive) ∧
        (t.pba.lane .fan).req = (if on then req .fan qf fanFloor else LaneReq.inactive) ∧
        (t.pba.lane .main).levelClamp = ((s.pba.lane .main).levelClamp || on && decide (4095 < raw .main q)) ∧
        (t.pba.lane .fan).levelClamp = ((s.pba.lane .fan).levelClamp || on && decide (4095 < raw .fan qf)) ∧
        (t.pba.lane .main).demandClamp = ((s.pba.lane .main).demandClamp ||
          on && (decide (2500 < power .main q) || decide (2500 < power .main (flow pr.m0 p.mainDisp)))) ∧
        (t.pba.lane .fan).demandClamp = ((s.pba.lane .fan).demandClamp ||
          on && (decide (2500 < power .fan qf) || decide (2500 < power .fan fanFloor)))) ∧
      (∀ q, (t.port q).hasNotice .clamp = ((s.port q).hasNotice .clamp || lanesUp.any fun l =>
        (t.pba.lane l).demandClamp && !(s.pba.lane l).demandClamp || (t.pba.lane l).flowClamp && !(s.pba.lane l).flowClamp ||
          (t.pba.lane l).levelClamp && !(s.pba.lane l).levelClamp)) ∧
      (s.tgv.mode ≠ .sweep → t.arc.cap = none) ∧
      (∀ cap, t.arc.cap = some cap → s.tgv.mode = .sweep ∧
        ((∃ side, (t.arm side).state = .working ∧ (s.pba.lane (armLane side)).out.state = .part ∧
            pr.armCurve.inverse (rpm (armLane side) p.armDisp) = some cap) ∨
          (t.arc.pickup.state = .working ∧ (s.pba.lane .main).out.state = .part ∧
            pr.mainCurve.inverse (rpm .main p.mainDisp) = some cap))) ∧
      (∀ side c, s.tgv.mode = .sweep → (t.arm side).state = .working → (s.pba.lane (armLane side)).out.state = .part →
        pr.armCurve.inverse (rpm (armLane side) p.armDisp) = some c → ∃ cap, t.arc.cap = some cap ∧ cap ≤ c) ∧
      (∀ c, s.tgv.mode = .sweep → t.arc.pickup.state = .working → (s.pba.lane .main).out.state = .part →
        pr.mainCurve.inverse (rpm .main p.mainDisp) = some c → ∃ cap, t.arc.cap = some cap ∧ cap ≤ c) ∧
      t.ctu = s.ctu ∧ t.tgv = s.tgv ∧ t.pft = s.pft ∧ t.clt = s.clt ∧ t.cfs = s.cfs ∧
      (∀ l, (t.pba.lane l).out = (s.pba.lane l).out) ∧ t.pba = { s.pba with lanes := t.pba.lanes }

/-- How one arm update moves an arm and the pickup: starvation first, then stall, then the progress of an arm's movement. A lift
can end in STOWED in the same update. Each stall counts on its unit, in the current segment, and posts ARM_STALL. That an expiry
acts only once its timer has run out, that the units are dealt with in a fixed order in each stage, and that the loss of a slew
reference is acted on at the update are the model's reading (log entries 3, 12 and 13). -/
def Obligations.ArmUpdateMovesArms : Prop :=
  ∀ (s : State), (s.arc.updateTimer ≠ some 0 → exec .armUpdate s = .next s) ∧
    (∀ (t : State) (u v : Pickup) (starved lags : Bool) (behind : ChanId → Nat → Bool), s.arc.updateTimer = some 0 →
      exec .armUpdate s = .next t → u = s.arc.pickup → v = t.arc.pickup →
      (∀ c rpm, behind c rpm =
        (decide (0 < rpm) && (s.chan c).enabled && decide ((s.chan c).speed * 2 < (rpm : Int)))) →
      starved = ((s.pba.lane .main).out.state == .starved || (s.pba.lane .fan).out.state == .starved) →
      lags = (behind .bmain u.mainRpm || behind .fan u.fanRpm) →
      (u.state = .working → starved = true → v.cause = .starved ∧ v.state = (if u.upSw then .up else .raising) ∧
        v.stallCount = u.stallCount) ∧
      (u.state = .working → starved = false → lags = true → s.params.stallTime ≤ u.stallTimer + 10 →
        v.cause = .stall ∧ v.state = (if u.upSw then .up else .raising) ∧ v.stallCount = min 255 (u.stallCount + 1) ∧
        ∀ p, (t.port p).hasNotice .armStall = true) ∧
      (u.state = .working → starved = false → (lags = true → u.stallTimer + 10 < s.params.stallTime) →
        v.state = .working ∧ v.stallTimer = (if lags then u.stallTimer + 10 else 0) ∧ v.cause = u.cause ∧
        v.stallCount = u.stallCount) ∧
      (u.state ≠ .working → v.state = u.state ∧ v.cause = u.cause ∧ v.stallCount = u.stallCount ∧ v.stallTimer = 0) ∧
      (∀ (stalls : Nat) (stalled : Side → Bool), (∀ side, stalled side =
          ((s.arm side).state == .working && (s.pba.lane (armLane side)).out.state != .starved &&
            behind (brushChan side) (s.arm side).rpm && decide (s.params.stallTime ≤ (s.arm side).stallTimer + 10))) →
        stalls = (stalled .left).toNat + (stalled .right).toNat +
          (u.state == .working && !starved && lags && decide (s.params.stallTime ≤ u.stallTimer + 10)).toNat →
        (s.sge.present = true → 0 < stalls → t.sge.figures.stalls = min 255 (s.sge.figures.stalls + stalls)) ∧
        (s.sge.present = false ∨ stalls = 0 → t.sge.figures.stalls = s.sge.figures.stalls) ∧
        ∀ p, (t.port p).hasNotice .armStall = ((s.port p).hasNotice .armStall || decide (0 < stalls)))) ∧
    ∀ (t : State) (side : Side) (a b : Arm) (starved lags homed near : Bool), s.arc.updateTimer = some 0 →
      exec .armUpdate s = .next t → a = s.arm side → b = t.arm side →
      starved = ((s.pba.lane (armLane side)).out.state == .starved) →
      lags = (decide (0 < a.rpm) && (s.chan (brushChan side)).enabled &&
        decide ((s.chan (brushChan side)).speed * 2 < (a.rpm : Int))) →
      homed = (s.chan (slewChan side)).homed →
      near = decide ((a.slewTarget - s.position side).natAbs ≤ s.params.deadband) →
      (starved = true → a.state = .working ∨ a.state = .deploying ∧ a.phase = .spinup →
        b.cause = .starved ∧ (b.state = .lifting ∨ b.state = .stowed)) ∧
      (starved = false → a.state = .working → lags = true → s.params.stallTime ≤ a.stallTimer + 10 →
        b.cause = .stall ∧ (b.state = .lifting ∨ b.state = .stowed) ∧ b.stallCount = min 255 (a.stallCount + 1) ∧
        ∀ p, (t.port p).hasNotice .armStall = true) ∧
      (starved = false → a.state = .working → (lags = true → a.stallTimer + 10 < s.params.stallTime) → homed = true →
        b.state = .working ∧ b.stallTimer = (if lags then a.stallTimer + 10 else 0) ∧ b.cause = a.cause) ∧
      (starved = false → homed = false →
        a.state = .deploying ∨ a.state = .working ∧ (lags = true → a.stallTimer + 10 < s.params.stallTime) →
        b.cause = .reference ∧ b.state = .lifting) ∧
      (a.state = .deploying → a.phase = .slew → homed = true →
        b.state = .deploying ∧ b.phase = (if near then (if a.downSw then .spinup else .lower) else .slew)) ∧
      (a.state = .deploying → a.phase = .lower → homed = true → b.state = .deploying ∧ b.phase = .lower) ∧
      (a.state = .deploying → a.phase = .spinup → homed = true → starved = false →
        b.state = (if (s.pba.lane (armLane side)).out.state = .full ∨ (s.pba.lane (armLane side)).out.state = .part
          then .working else .deploying) ∧
        (b.state = .working → b.moveTimer = none)) ∧
      (a.state = .lifting → b.state = (if a.upSw = true ∧ homed = true ∧ near = true then .stowed else .lifting)) ∧
      (a.state = .stowed ∨ a.state = .homing ∨ a.state = .fault → b.state = a.state)

/-! ## Spray Controller -/

/-- What the Spray Controller does when an input of its terms changes: the stored terms are those of the inputs as they then
stand, an open valve stays open only on all seven, its water leaves the estimate and joins the water used of a current segment,
the first failing term is latched and SPRAY_BLOCK posted where a permissive is lost with T1 true, TANK_RESERVE is posted where
the closings take the estimate to the reserve, and the SPRY lane follows the banks. That the open time of a closed valve is 0,
and that all four banks are evaluated before a valve closes, are the model's reading (log entries 15 and 36). -/
def Obligations.RefreshClosesValves : Prop :=
  ∀ (s t : State) (ml : BankId → Nat), t = s.sprayRefresh →
    (∀ i, ml i = if (s.spc.banks.get i).valve = true ∧ (t.spc.banks.get i).valve = false then
      ((s.spc.banks.get i).remainder + s.params.nozzleFlow i * (s.spc.banks.get i).openTime) / 1000 else 0) →
    (∀ (i : BankId) (b c : Bank), b = s.spc.banks.get i → c = t.spc.banks.get i →
      c.terms = t.termsOf i ∧ c.valve = (b.valve && c.terms.all) ∧
      (b.valve = true → c.valve = false → c.pulseTimer = none ∧ c.openTime = 0 ∧
        c.remainder = (b.remainder + s.params.nozzleFlow i * b.openTime) % 1000) ∧
      c.firstFailing = (if b.terms.all && (s.termsOf i).t1 && !(s.termsOf i).all then (s.termsOf i).firstFalse
        else if (s.termsOf i).all && !c.terms.all then some .t2
        else b.firstFailing) ∧
      c.enabled = b.enabled ∧ c.dose = b.dose ∧ c.doseInEffect = b.doseInEffect ∧ c.width = b.width) ∧
    t.spc.estimate = s.spc.estimate - (ml .b0 + ml .b1 + ml .b2 + ml .b3) ∧
    t.sge = (if s.sge.present then { s.sge with figures := { s.sge.figures with
        water := min 4294967295 (s.sge.figures.water + (ml .b0 + ml .b1 + ml .b2 + ml .b3)) } }
      else s.sge) ∧
    (∀ p, (t.port p).hasNotice .sprayBlock = ((s.port p).hasNotice .sprayBlock || [BankId.b0, .b1, .b2, .b3].any fun i =>
        (s.spc.banks.get i).terms.all && (s.termsOf i).t1 && !(s.termsOf i).all ||
          (s.termsOf i).all && !(t.spc.banks.get i).terms.all) ∧
      (t.port p).hasNotice .tankReserve = ((s.port p).hasNotice .tankReserve ||
        decide (s.params.reserve < s.spc.estimate) && decide (t.spc.estimate ≤ s.params.reserve))) ∧
    (s.params.pumpPower ≤ 2500 → s.params.pumpFloor ≤ 2500 → (t.pba.lane .spry).req =
      (if t.spc.banks.any fun _ x => x.terms.t1 && x.terms.t4 then
        { active := true
          demand := s.params.pumpPower
          floor := s.params.pumpFloor
          flow := 600 * s.params.pumpPower / s.pba.pressure .spry }
       else LaneReq.inactive)) ∧
    t.arc = s.arc ∧ t.ctu = s.ctu ∧ t.tgv = s.tgv ∧ t.clt = s.clt ∧ t.cfs = s.cfs

/-- SPRAY_SET with the SPRAY claim: all four banks in one act take the enables and the dose, with their latches cleared and
their widths computed anew, a width of 0 raised to 1 ms with WIDTH_CLAMP; then the terms are evaluated. A dose above 500 is
limited and answered CLAMPED. That a setting clears WIDTH_CLAMP first, so that it may post CLAMP again, is the model's
reading (log entry 21). -/
def Obligations.SpraySettings : Prop :=
  ∀ (s t : State) (f : Frame) (dose : Option Nat) (eff width : BankId → Nat) (raised : BankId → Bool),
    s.hears .spraySet f → s.clt.spray.holder = .cab →
    dose = (if u16 (f.payload.getD 1 0) (f.payload.getD 2 0) = 65535 then none
      else some (min (u16 (f.payload.getD 1 0) (f.payload.getD 2 0)) 500)) →
    (∀ i, eff i = dose.getD (s.profile.dose.get i) ∧
      width i = roundDivNat (eff i * s.params.sprayInterval) (s.params.nozzleFlow i) ∧
      raised i = (decide (0 < eff i) && decide (width i = 0))) →
    t = { s.atBlock f with
      spc := { s.spc with banks := .ofFn fun i => { s.spc.banks.get i with
        enabled := (f.payload.getD 0 0).getLsbD (match i with
          | .b0 => 0
          | .b1 => 1
          | .b2 => 2
          | .b3 => 3)
        dose := dose
        firstFailing := none
        doseShort := false
        doseInEffect := eff i
        width := if raised i then 1 else width i
        widthClamp := raised i } }
      ports := postAllIf (s.atBlock f).ports .clamp (raised .b0 || raised .b1 || raised .b2 || raised .b3) } →
    exec (.spraySet f) s = .next (t.sprayRefresh.replied f .spraySet
      (if 500 < u16 (f.payload.getD 1 0) (f.payload.getD 2 0) ∧
          u16 (f.payload.getD 1 0) (f.payload.getD 2 0) ≠ 65535 then .clamped else .ok))

/-- TANK sets the estimate, limited to 4,000,000 mL, posting TANK_RESERVE where it falls to the reserve; the expiry of an open
bank's pulse timer closes it and takes its water from the estimate, carrying the microlitres; a distance mark opens or
retriggers every bank with its permissive and a width, and posts DOSE_SHORT at a first retrigger. That an expiry acts only once
its timer has run out, so that none happens after a mark that restarted the timer (R122), and that a closing sets the open time
to 0 are the model's reading (log entries 3 and 15). -/
def Obligations.TankPulsesAndMarks : Prop :=
  ∀ s : State,
    (∀ (f : Frame) (level n : Nat) (t : State), s.hears .tank f →
      level = u32 (f.payload.getD 0 0) (f.payload.getD 1 0) (f.payload.getD 2 0) (f.payload.getD 3 0) →
      n = min level 4000000 →
      t = { s.atBlock f with
        spc := { s.spc with estimate := n }
        ports := postAllIf (s.atBlock f).ports .tankReserve
          (decide (s.params.reserve < s.spc.estimate) && decide (n ≤ s.params.reserve)) } →
      exec (.tank f) s = .next ((if n = s.spc.estimate then t else t.sprayRefresh).replied f .tank
        (if level ≤ 4000000 then .ok else .clamped))) ∧
    (∀ (i : BankId) (b : Bank) (ul left : Nat) (t : State), b = s.spc.banks.get i → b.valve = true →
      b.pulseTimer = some 0 → ul = b.remainder + s.params.nozzleFlow i * b.openTime →
      left = s.spc.estimate - ul / 1000 →
      t = { s with
        spc := { s.spc with
          estimate := left
          banks := .ofFn fun j =>
            if j = i then { b with valve := false, pulseTimer := none, openTime := 0, remainder := ul % 1000 }
            else s.spc.banks.get j }
        sge := if s.sge.present then
            { s.sge with figures := { s.sge.figures with
              water := min 4294967295 (s.sge.figures.water + ul / 1000) } }
          else s.sge
        ports := postAllIf s.ports .tankReserve
          (decide (s.params.reserve < s.spc.estimate) && decide (left ≤ s.params.reserve)) } →
      exec (.pulseTimerExpiry i) s = .next (if left = s.spc.estimate then t else t.sprayRefresh)) ∧
    (∀ i, (s.spc.banks.get i).pulseTimer ≠ some 0 → exec (.pulseTimerExpiry i) s = .next s) ∧
    (∀ (i : BankId) (b : Bank), b = s.spc.banks.get i →
      s.distanceMark.spc.banks.get i =
        (if b.terms.all = true ∧ 0 < b.width then
          { b with
            valve := true
            pulseTimer := some b.width
            openTime := if b.valve then b.openTime else 0
            doseShort := b.doseShort || b.valve }
         else b)) ∧
    (∀ p, (s.distanceMark.port p).hasNotice .doseShort = ((s.port p).hasNotice .doseShort ||
      [BankId.b0, .b1, .b2, .b3].any fun i => (s.spc.banks.get i).terms.all && decide (0 < (s.spc.banks.get i).width) &&
        (s.spc.banks.get i).valve && !(s.spc.banks.get i).doseShort))

/-! ## Segment program -/

/-- DESC_WRITE and DESC_RETURN: the tests in their order, and what an accepted request stores, with the cap limited to 100..4000
and the dose to 500. The fields stand at the offsets of section 11.3.3. -/
def Obligations.DescriptorCommands : Prop :=
  ∀ (s : State) (f : Frame) (d : DescFields),
    d = {
      index := f.payload.getD 0 0
      length := u16 (f.payload.getD 1 0) (f.payload.getD 2 0)
      speedCap := if u16 (f.payload.getD 3 0) (f.payload.getD 4 0) = 0 then none
        else some (u16 (f.payload.getD 3 0) (f.payload.getD 4 0))
      profile := f.payload.getD 5 0
      left := f.payload.getD 6 0
      leftAngle := if s16 (f.payload.getD 7 0) (f.payload.getD 8 0) = -32768 then none
        else some (s16 (f.payload.getD 7 0) (f.payload.getD 8 0))
      right := f.payload.getD 9 0
      rightAngle := if s16 (f.payload.getD 10 0) (f.payload.getD 11 0) = -32768 then none
        else some (s16 (f.payload.getD 10 0) (f.payload.getD 11 0))
      pickup := f.payload.getD 12 0
      spray := f.payload.getD 13 0
      dose := if u16 (f.payload.getD 14 0) (f.payload.getD 15 0) = 65535 then none
        else some (u16 (f.payload.getD 14 0) (f.payload.getD 15 0))
      endAction := f.payload.getD 16 0
      control := f.payload.getD 17 0 } →
    (32 ≤ (f.payload.getD 0 0).toNat →
      (s.hears .descWrite f → exec (.descWrite f) s = .next ((s.atBlock f).replied f .descWrite .range)) ∧
      (s.hears .descReturn f → exec (.descReturn f) s = .next ((s.atBlock f).replied f .descReturn .range))) ∧
    (∀ (i : Fin 32) (x : Descriptor), (f.payload.getD 0 0).toNat = i.val → x = s.sge.ring.get i →
      (s.hears .descWrite f →
        (x.owner = .engine → exec (.descWrite f) s = .next ((s.atBlock f).replied f .descWrite .owned)) ∧
        (x.owner = .master → (d.length < 1 ∨ 20000 < d.length ∨ profileIndexOf d.profile = none ∨
            (∃ p, profileIndexOf d.profile = some p ∧ (s.pft.profiles.get p).valid = false) ∨
            armSettingOf d.left = none ∨ armSettingOf d.right = none ∨ pickupSettingOf d.pickup = none ∨
            sprayOf d.spray = none ∨ endActionOf d.endAction = none) →
          exec (.descWrite f) s = .next ((s.atBlock f).replied f .descWrite .range)) ∧
        (∀ (p : Fin 8) (l r : ArmSetting) (pk : PickupSetting) (sp : Option (BitVec 4)) (e : EndAction) (q : Request)
            (y : Descriptor), x.owner = .master → 1 ≤ d.length → d.length ≤ 20000 → profileIndexOf d.profile = some p →
          (s.pft.profiles.get p).valid = true → armSettingOf d.left = some l → armSettingOf d.right = some r →
          pickupSettingOf d.pickup = some pk → sprayOf d.spray = some sp → endActionOf d.endAction = some e →
          q = {
            lengthMm := d.length * 1000
            settings := {
              speedCap := d.speedCap.map fun c => max 100 (min c 4000)
              profile := p
              left := l
              leftAngle := d.leftAngle
              right := r
              rightAngle := d.rightAngle
              pickup := pk
              spray := sp
              dose := d.dose.map fun n => min n 500 }
            endAction := e
            last := d.control.getLsbD 0 } →
          y = { owner := if d.control.getLsbD 1 then .engine else .master, request := q, result := none } →
          exec (.descWrite f) s = .next (State.replied
            { s.atBlock f with sge := { s.sge with ring := s.sge.ring.set i.val y i.isLt } } f .descWrite
            (if q.settings.speedCap = d.speedCap ∧ q.settings.dose = d.dose then .ok else .clamped)))) ∧
      (s.hears .descReturn f →
        (s.sge.state ≠ .idle → exec (.descReturn f) s = .next ((s.atBlock f).replied f .descReturn .state)) ∧
        (s.sge.state = .idle → x.owner = .master →
          exec (.descReturn f) s = .next ((s.atBlock f).replied f .descReturn .ok)) ∧
        (∀ y : Descriptor, y = { x with owner := .master, result := none } → s.sge.state = .idle → x.owner = .engine →
          exec (.descReturn f) s = .next (State.replied
            { s.atBlock f with sge := { s.sge with ring := s.sge.ring.set i.val y i.isLt } } f .descReturn .ok))))

/-- PGM_START: the tests in their order; an accepted start takes every resource for the program, starts the descriptor it names
with its settings, profile and speed cap, and begins the figures anew; each arm, the pickup and the banks receive the setting
exactly where CAB does not hold them. That the water of a closing in step 4 is cleared by step 5, and that step 4 deals with
the resources in table order, is the model's reading (log entries 11 and 20). -/
def Obligations.ProgramStarts : Prop :=
  ∀ (s : State) (f : Frame), s.hears .pgmStart f →
    (32 ≤ (f.payload.getD 0 0).toNat →
      exec (.pgmStart f) s = .next ((s.atBlock f).replied f .pgmStart .range)) ∧
    (∀ (i : Fin 32) (x : Descriptor), (f.payload.getD 0 0).toNat = i.val → x = s.sge.ring.get i →
      (s.sge.state ≠ .idle ∨ s.stopin = true ∨ s.tgv.mode = .transport →
        exec (.pgmStart f) s = .next ((s.atBlock f).replied f .pgmStart .state)) ∧
      (s.sge.state = .idle → s.stopin = false → s.tgv.mode ≠ .transport → x.owner = .master →
        exec (.pgmStart f) s = .next ((s.atBlock f).replied f .pgmStart .owned)) ∧
      (s.sge.state = .idle → s.stopin = false → s.tgv.mode ≠ .transport → x.owner = .engine →
        ∃ t, exec (.pgmStart f) s = .next t ∧ (t.port f.port).response = { status := .ok, code := 0x53, payload := [] } ∧
          t.clt = s.clt.map (fun e => match e with
            | .free | .program => .program
            | .cab | .lent => .lent) ∧
          t.sge = { s.sge with
            state := .running
            cursor := i
            present := true
            startPort := startPortOf f.port
            settings := some x.request.settings
            unplanned := 0
            completed := 0
            endKind := .none
            figures := {
              distance := 0
              leadIn := 0
              water := 0
              stalls := 0
              flags := { SegFlags.clear with
                overL := (s.clt.armL.holder == .cab)
                overR := (s.clt.armR.holder == .cab)
                overPickup := (s.clt.pickup.holder == .cab)
                overSpray := (s.clt.spray.holder == .cab)
                staleSeen := (s.pba.freshness == .stale) } } } ∧
          t.pft = { s.pft with active := x.request.settings.profile } ∧
          t.tgv = { s.tgv with segCap := x.request.settings.speedCap } ∧
          (∀ k, (t.spc.banks.get k).doseShort = false) ∧ t.ctu = s.ctu ∧ t.cfs = s.cfs ∧
          (∀ side setting angle, (s.clt.get (armResource side)).holder ≠ .cab →
            (setting, angle) = (match side with
              | .left => (x.request.settings.left, x.request.settings.leftAngle)
              | .right => (x.request.settings.right, x.request.settings.rightAngle)) →
            t.arm side = (match setting with
              | .stow => (s.armStow side .command).1.arm side
              | .work => (s.armDeploy side angle).1.arm side
              | .keep => s.arm side)) ∧
          (∀ side, (s.clt.get (armResource side)).holder = .cab → t.arm side = s.arm side) ∧
          t.arc.pickup = (if s.clt.pickup.holder = .cab then s.arc.pickup else match x.request.settings.pickup with
            | .up => s.pickupUp.1.arc.pickup
            | .work => s.pickupWork.1.arc.pickup
            | .keep => s.arc.pickup) ∧
          (s.clt.spray.holder = .cab → ∀ k, (t.spc.banks.get k).enabled = (s.spc.banks.get k).enabled ∧
            (t.spc.banks.get k).dose = (s.spc.banks.get k).dose) ∧
          (s.clt.spray.holder ≠ .cab → ∀ (k : BankId) (b : Bank) (eff w : Nat), b = t.spc.banks.get k →
            eff = x.request.settings.dose.getD
              ((s.pft.profiles.get x.request.settings.profile).dose.get k) →
            w = roundDivNat (eff * s.params.sprayInterval) (s.params.nozzleFlow k) →
            b.enabled = (match x.request.settings.spray with
              | some m => m.getLsbD (match k with
                | .b0 => 0
                | .b1 => 1
                | .b2 => 2
                | .b3 => 3)
              | none => (s.spc.banks.get k).enabled) ∧
            b.dose = x.request.settings.dose ∧ b.doseInEffect = eff ∧ b.width = (if 0 < eff ∧ w = 0 then 1 else w) ∧
            b.widthClamp = (decide (0 < eff) && decide (w = 0)) ∧ b.terms = t.termsOf k ∧
            (b.valve = true → b.terms.all = true))))

/-- PGM_POLL, PGM_SUSPEND, PGM_RESUME and PGM_ABORT by the state of the engine. -/
def Obligations.ProgramControl : Prop :=
  ∀ (s : State) (f : Frame) (running : State → State),
    (∀ t, running t = State.segmentStart t) →
    (s.hears .pgmPoll f →
      (s.sge.state = .starved → s.sge.atCursor.owner = .engine →
        exec (.pgmPoll f) s = .next ((running (s.atBlock f)).replied f .pgmPoll .ok) ∧
        (running (s.atBlock f)).sge.state = .running ∧ (running (s.atBlock f)).sge.present = true ∧
        (running (s.atBlock f)).sge.figures.leadIn = s.sge.unplanned ∧ (running (s.atBlock f)).sge.unplanned = 0) ∧
      (s.sge.state ≠ .starved ∨ s.sge.atCursor.owner = .master →
        exec (.pgmPoll f) s = .next ((s.atBlock f).replied f .pgmPoll .ok))) ∧
    (s.hears .pgmSuspend f →
      (s.sge.state = .running → exec (.pgmSuspend f) s = .next ((State.post { s.atBlock f with sge := { s.sge with
        state := .suspended
        suspendCause := .command
        returnState := .running } } .pgmSuspended).replied f .pgmSuspend .ok)) ∧
      (s.sge.state = .starved → exec (.pgmSuspend f) s = .next ((State.post { s.atBlock f with sge := { s.sge with
        state := .suspended
        suspendCause := .command
        returnState := .starved } } .pgmSuspended).replied f .pgmSuspend .ok)) ∧
      (s.sge.state = .suspended → exec (.pgmSuspend f) s = .next ((s.atBlock f).replied f .pgmSuspend .ok)) ∧
      (s.sge.state = .stopping ∨ s.sge.state = .idle →
        exec (.pgmSuspend f) s = .next ((s.atBlock f).replied f .pgmSuspend .state))) ∧
    (s.hears .pgmResume f →
      (s.sge.state ≠ .suspended → exec (.pgmResume f) s = .next ((s.atBlock f).replied f .pgmResume .state)) ∧
      (∀ back, s.sge.state = .suspended → s.sge.suspendCause = .command →
        (s.sge.returnState = .running ∧ back = .running ∨ s.sge.returnState = .starved ∧ back = .starved) →
        exec (.pgmResume f) s = .next (State.replied { s.atBlock f with sge := { s.sge with
          state := back
          suspendCause := .none
          returnState := .none } } f .pgmResume .ok)) ∧
      (s.sge.state = .suspended → s.sge.suspendCause = .pauseEnd ∨ s.sge.suspendCause = .stopInput → s.stopin = true →
        exec (.pgmResume f) s = .next ((s.atBlock f).replied f .pgmResume .state)) ∧
      (s.sge.state = .suspended → s.sge.suspendCause = .pauseEnd → s.stopin = false →
        exec (.pgmResume f) s = .next (State.replied (if s.sge.atCursor.owner = .engine then
            running { s.atBlock f with sge := { s.sge with suspendCause := .none, returnState := .none } }
          else State.post { s.atBlock f with sge := { s.sge with
            state := .starved
            suspendCause := .none
            returnState := .none } } .pgmStarved) f .pgmResume .ok)) ∧
      (∀ (st : Settings) (t : State), s.sge.state = .suspended → s.sge.suspendCause = .stopInput → s.stopin = false →
        s.sge.settings = some st → s.sge.returnState = .running ∨ s.sge.returnState = .starved →
        t = (((s.atBlock f).applyHeld st .armL).applyHeld st .armR).applyHeld st .pickup →
        exec (.pgmResume f) s = .next (State.replied { t with sge := { t.sge with
          state := if s.sge.returnState = .running then .running else .starved
          suspendCause := .none
          returnState := .none } } f .pgmResume .ok))) ∧
    (s.hears .pgmAbort f →
      (s.sge.state = .idle → exec (.pgmAbort f) s = .next ((s.atBlock f).replied f .pgmAbort .state)) ∧
      (s.sge.state ≠ .idle → ∃ t, exec (.pgmAbort f) s = .next t ∧
        (t.port f.port).response = { status := .ok, code := 0x57, payload := [] } ∧
        t.sge.state = .idle ∧ t.sge.endKind = .abort ∧ t.sge.present = false ∧ t.sge.suspendCause = .none ∧
        t.sge.returnState = .none ∧ t.sge.cursor = s.sge.cursor ∧ t.sge.completed = s.sge.completed ∧
        t.sge.settings = s.sge.settings ∧ t.sge.unplanned = s.sge.unplanned ∧
        (s.sge.present = true → t.sge.ring.get s.sge.cursor = { s.sge.ring.get s.sge.cursor with
          owner := .master
          result := some { status := .aborted, figures := s.sge.figures } }) ∧
        (∀ i, i ≠ s.sge.cursor ∨ s.sge.present = false → t.sge.ring.get i = s.sge.ring.get i) ∧
        t.clt = s.clt.map Claim.onEnd ∧ t.tgv = { s.tgv with segCap := none, stopRequest := false } ∧
        (∀ p, (t.port p).hasNotice .pgmEnd = true) ∧ (s.sge.present = true → ∀ p, (t.port p).hasNotice .segDone = true) ∧
        (∀ side, t.arm side = if s.clt.get (armResource side) = .program then (s.armStow side .command).1.arm side
          else s.arm side) ∧
        t.arc.pickup = (if s.clt.pickup = .program then s.pickupUp.1.arc.pickup else s.arc.pickup) ∧
        (∀ k, (t.spc.banks.get k).enabled = (if s.clt.spray = .program then false else (s.spc.banks.get k).enabled) ∧
          (t.spc.banks.get k).dose = (s.spc.banks.get k).dose ∧
          (t.spc.banks.get k).doseInEffect = (s.spc.banks.get k).doseInEffect ∧
          (t.spc.banks.get k).width = (s.spc.banks.get k).width) ∧
        t.ctu = s.ctu ∧ t.pft = s.pft ∧ t.cfs = s.cfs))

/-- One millimetre of forward distance at the engine, and the end of a segment by its end action: written back DONE and
followed by the next descriptor, by STARVED, by a pause or by program end, or held in STOPPING until the stop completes. A stop
lifts and disables what the program holds; a successor that starts gives its settings to what the program holds, and its
figures begin anew with the OVERRIDDEN flags of the Lent entries. That the water of a closing in step 4 of the start is cleared
by step 5, and that step 4 deals with the resources in table order, is the model's reading (log entries 11 and 20). -/
def Obligations.SegmentsAdvance : Prop :=
  ∀ (s t : State) (d : Descriptor) (next : Fin 32), t = s.engineMm → d = s.sge.atCursor → next = s.sge.cursor + 1 →
    (s.sge.state = .idle ∨ s.sge.state = .suspended ∨ s.sge.state = .stopping → t = s) ∧
    (s.sge.state = .starved →
      t = { s with sge := { s.sge with unplanned := min 4294967295 (s.sge.unplanned + 1) } }) ∧
    (s.sge.state = .running → s.sge.figures.distance + 1 ≠ d.request.lengthMm →
      t = { s with sge := { s.sge with figures := { s.sge.figures with distance := s.sge.figures.distance + 1 } } }) ∧
    (s.sge.state = .running → s.sge.figures.distance + 1 = d.request.lengthMm →
      (d.request.endAction = .stop → t.sge.state = .stopping ∧ t.sge.present = s.sge.present ∧
        t.sge.figures.distance = d.request.lengthMm ∧ t.tgv = { s.tgv with stopRequest := true, stopReported := false } ∧
        t.sge.ring = s.sge.ring ∧ t.clt = s.clt ∧
        (∀ side, t.arm side = if (s.clt.get (armResource side)).holder = .program then
          (s.armStow side .command).1.arm side else s.arm side) ∧
        t.arc.pickup = (if s.clt.pickup.holder = .program then s.pickupUp.1.arc.pickup else s.arc.pickup) ∧
        ∀ k, (t.spc.banks.get k).enabled = (if s.clt.spray.holder = .program then false else (s.spc.banks.get k).enabled) ∧
          (t.spc.banks.get k).dose = (s.spc.banks.get k).dose ∧
          (t.spc.banks.get k).doseInEffect = (s.spc.banks.get k).doseInEffect ∧
          (t.spc.banks.get k).width = (s.spc.banks.get k).width) ∧
      (d.request.endAction ≠ .stop →
        t.sge.ring.get s.sge.cursor = { d with
          owner := .master
          result := some { status := .done, figures := { s.sge.figures with distance := d.request.lengthMm } } } ∧
        (∀ i, i ≠ s.sge.cursor → t.sge.ring.get i = s.sge.ring.get i) ∧
        t.sge.completed = min 65535 (s.sge.completed + 1) ∧ (∀ p, (t.port p).hasNotice .segDone = true) ∧
        (d.request.last = true → t.sge.state = .idle ∧ t.sge.endKind = .last ∧ t.sge.cursor = s.sge.cursor ∧
          t.clt = s.clt.map Claim.onEnd ∧ t.tgv.segCap = none ∧ ∀ p, (t.port p).hasNotice .pgmEnd = true) ∧
        (d.request.last = false → d.request.endAction = .pause → t.sge.state = .suspended ∧
          t.sge.suspendCause = .pauseEnd ∧ t.sge.returnState = .none ∧ t.sge.present = false ∧ t.sge.cursor = next ∧
          t.clt = s.clt ∧ t.arc = s.arc ∧ ∀ p, (t.port p).hasNotice .pgmSuspended = true) ∧
        (d.request.last = false → d.request.endAction = .cont → (s.sge.ring.get next).owner = .master →
          t.sge.state = .starved ∧ t.sge.present = false ∧ t.sge.cursor = next ∧ t.clt = s.clt ∧ t.arc = s.arc ∧
          t.tgv = s.tgv ∧ ∀ p, (t.port p).hasNotice .pgmStarved = true) ∧
        (d.request.last = false → d.request.endAction = .cont → (s.sge.ring.get next).owner = .engine →
          ∀ st : Settings, st = (s.sge.ring.get next).request.settings →
          t.sge.state = .running ∧ t.sge.present = true ∧ t.sge.cursor = next ∧ t.sge.settings = some st ∧
          t.sge.unplanned = 0 ∧
          t.sge.figures = {
            distance := 0
            leadIn := s.sge.unplanned
            water := 0
            stalls := 0
            flags := { SegFlags.clear with
              overL := s.clt.armL.lender
              overR := s.clt.armR.lender
              overPickup := s.clt.pickup.lender
              overSpray := s.clt.spray.lender
              staleSeen := (s.pba.freshness == .stale) } } ∧
          t.pft = { s.pft with active := st.profile } ∧ t.tgv = { s.tgv with segCap := st.speedCap } ∧ t.clt = s.clt ∧
          (∀ k, (t.spc.banks.get k).doseShort = false) ∧
          (∀ side setting angle, (setting, angle) = (match side with
              | .left => (st.left, st.leftAngle)
              | .right => (st.right, st.rightAngle)) →
            t.arm side = (if (s.clt.get (armResource side)).holder = .program then (match setting with
                | .stow => (s.armStow side .command).1.arm side
                | .work => (s.armDeploy side angle).1.arm side
                | .keep => s.arm side)
              else s.arm side)) ∧
          t.arc.pickup = (if s.clt.pickup.holder = .program then (match st.pickup with
              | .up => s.pickupUp.1.arc.pickup
              | .work => s.pickupWork.1.arc.pickup
              | .keep => s.arc.pickup)
            else s.arc.pickup) ∧
          (s.clt.spray.holder ≠ .program → ∀ k, (t.spc.banks.get k).enabled = (s.spc.banks.get k).enabled ∧
            (t.spc.banks.get k).dose = (s.spc.banks.get k).dose) ∧
          (s.clt.spray.holder = .program → ∀ (k : BankId) (b : Bank) (eff w : Nat), b = t.spc.banks.get k →
            eff = st.dose.getD ((s.pft.profiles.get st.profile).dose.get k) →
            w = roundDivNat (eff * s.params.sprayInterval) (s.params.nozzleFlow k) →
            b.enabled = (match st.spray with
              | some m => m.getLsbD (match k with
                | .b0 => 0
                | .b1 => 1
                | .b2 => 2
                | .b3 => 3)
              | none => (s.spc.banks.get k).enabled) ∧
            b.dose = st.dose ∧ b.doseInEffect = eff ∧ b.width = (if 0 < eff ∧ w = 0 then 1 else w) ∧
            b.widthClamp = (decide (0 < eff) && decide (w = 0)) ∧ b.terms = t.termsOf k ∧
            (b.valve = true → b.terms.all = true)))))

/-! ## Stop input, port reset, silence -/

/-- An assertion of STOPIN closes every valve, lifts the arms and the pickup that are out, keeps a homing arm from deploying,
suspends the program and posts STOP_INPUT; a bank that had its permissive latches T7 or T4, or T2 where the closings of banks
on other equipment can take the estimate to the reserve first; which one the manual leaves open (log entry 10: a free value).
Its release re-arms the drive and posts STOP_INPUT, and moves no equipment. A level that is there already changes nothing. What
a part in reset does with STOPIN is the model's reading (log entries 4 and 7). -/
def Obligations.StopInputActs : Prop :=
  ∀ s : State,
    (s.stopin = true → exec .stopinAsserted s = .next s) ∧ (s.stopin = false → exec .stopinReleased s = .next s) ∧
    (s.stopin = false → s.rstnHeld = false → ∃ t, exec .stopinAsserted s = .next t ∧ t.stopin = true ∧
      (∀ i, (t.spc.banks.get i).valve = false ∧ (t.spc.banks.get i).terms.t7 = false ∧
        (t.spc.banks.get i).enabled = (s.spc.banks.get i).enabled ∧
        ((s.spc.banks.get i).terms.all = true → s.termsOf i = (s.spc.banks.get i).terms →
          (t.spc.banks.get i).firstFailing = some .t7 ∨ (t.spc.banks.get i).firstFailing = some .t4 ∨
          (t.spc.banks.get i).firstFailing = some .t2 ∧ s.params.reserve < s.spc.estimate ∧
            ∀ ml : BankId → Nat, (∀ j, ml j = if (s.spc.banks.get j).valve then
                ((s.spc.banks.get j).remainder + s.params.nozzleFlow j * (s.spc.banks.get j).openTime) / 1000 else 0) →
              s.spc.estimate ≤ s.params.reserve + (match i with
                | .b0 => ml .b1 + ml .b2 + ml .b3
                | .b1 => ml .b0 + ml .b2 + ml .b3
                | .b2 | .b3 => ml .b0 + ml .b1))) ∧
      (∀ side, (s.arm side).state = .deploying ∨ (s.arm side).state = .working →
        t.arm side = (s.arm side).lifted .stop s.params.moveTimeout) ∧
      (∀ side, (s.arm side).state = .homing → t.arm side = { s.arm side with deployPending := false }) ∧
      (∀ side, (s.arm side).state = .stowed ∨ (s.arm side).state = .lifting ∨ (s.arm side).state = .fault →
        t.arm side = s.arm side) ∧
      (s.arc.pickup.state = .lowering ∨ s.arc.pickup.state = .working →
        t.arc.pickup = s.arc.pickup.raised .stop s.params.moveTimeout) ∧
      (s.arc.pickup.state = .up ∨ s.arc.pickup.state = .raising ∨ s.arc.pickup.state = .fault →
        t.arc.pickup = s.arc.pickup) ∧
      (s.sge.state = .running ∨ s.sge.state = .starved → t.sge.state = .suspended ∧ t.sge.suspendCause = .stopInput ∧
        t.sge.returnState = (if s.sge.state = .running then .running else .starved) ∧
        ∀ p, (t.port p).hasNotice .pgmSuspended = true) ∧
      (s.sge.state = .suspended → t.sge.state = .suspended ∧ t.sge.returnState = s.sge.returnState ∧
        t.sge.suspendCause = (if s.sge.suspendCause = .command then .stopInput else s.sge.suspendCause)) ∧
      (s.sge.state = .stopping ∨ s.sge.state = .idle → t.sge.state = s.sge.state) ∧
      (s.sge.present = true → s.sge.state = .running ∨ s.sge.state = .stopping ∨
          s.sge.state = .suspended ∧ s.sge.suspendCause = .command →
        t.sge.figures.flags.stoppedByInput = true) ∧
      t.sge.ring = s.sge.ring ∧ t.sge.cursor = s.sge.cursor ∧ (∀ p, (t.port p).hasNotice .stopInput = true) ∧
      t.tgv = s.tgv ∧ t.ctu = s.ctu ∧ t.clt = s.clt ∧ t.pft = s.pft ∧ t.cfs = s.cfs) ∧
    (s.stopin = true → s.rstnHeld = false → ∃ t, exec .stopinReleased s = .next t ∧ t.stopin = false ∧
      t.tgv = { s.tgv with reqSpeed := 0, awaitingZero := true } ∧ t.arc = s.arc ∧ t.sge.state = s.sge.state ∧
      (∀ i, (t.spc.banks.get i).terms.t7 = true) ∧ (∀ p, (t.port p).hasNotice .stopInput = true) ∧
      t.ctu = s.ctu ∧ t.clt = s.clt ∧ t.pft = s.pft ∧ t.cfs = s.cfs) ∧
    (s.rstnHeld = true →
      (s.stopin = false → ∃ t, exec .stopinAsserted s = .next t ∧ t = { s with stopin := true, spc := t.spc } ∧
        ∀ i, t.spc.banks.get i = { s.spc.banks.get i with
          terms := { (s.spc.banks.get i).terms with t7 := false } }) ∧
      (s.stopin = true → ∃ t, exec .stopinReleased s = .next t ∧ t = { s with stopin := false, spc := t.spc } ∧
        ∀ i, t.spc.banks.get i = { s.spc.banks.get i with
          terms := { (s.spc.banks.get i).terms with t7 := true } }))

/-- A port reset puts its port and its snapshot buffer at their reset values and, on the cab port, withdraws the cab's claims
and re-arms the drive, as the cab port's silence does. Its release starts the silence timer. A silence expiry makes its port
SILENT and stops the timer. That a level already there changes nothing, that an expiry acts only once its timer has run out (so
that none happens after a frame that restarted the timer, R168) and on a SILENT port just stops it, that a part held by RSTN
only records PRSTN, and that the record of the data-out line is emptied are the model's reading (log entries 3, 4, 7, 26 and
37). -/
def Obligations.PortResetAndSilence : Prop :=
  ∀ (s : State) (p : PortId) (x : Port) (b : SnapBuffer) (lost : State → State), x = s.ports.get p →
    b = { s.ctu.snaps.get p with empty := true, seq := 0, nextSeq := 0 } →
    (∀ t, lost t = { t.withdrawCab with tgv := { t.withdrawCab.tgv with reqSpeed := 0, awaitingZero := true } }) →
    (∀ t : State, t = { s with
        ports := s.ports.set p { x with
          response := { status := .empty, code := 0, payload := [] }
          held := none
          notices := 0
          mask := BitVec.allOnes 17
          link := .active
          inReset := true
          silenceTimer := none
          shifted := [] }
        ctu := { s.ctu with snaps := s.ctu.snaps.set p b } } →
      (x.inReset = true → exec (.prstnAsserted p) s = .next s) ∧
      (x.inReset = false → s.rstnHeld = false →
        exec (.prstnAsserted p) s = .next (if p = .cab then lost t else t)) ∧
      (x.inReset = false → s.rstnHeld = true → exec (.prstnAsserted p) s = .next
        { s with ports := s.ports.set p { x with inReset := true, silenceTimer := none, shifted := [] } })) ∧
    (x.inReset = false → exec (.prstnReleased p) s = .next s) ∧
    (x.inReset = true → exec (.prstnReleased p) s = .next { s with ports := s.ports.set p { x with
      inReset := false
      silenceTimer := if s.rstnHeld then none else some (s.params.silenceLimit p) } }) ∧
    (∀ t : State, t = { s with ports := s.ports.set p { x with link := .silent, silenceTimer := none } } →
      (x.silenceTimer ≠ some 0 → exec (.silenceTimerExpiry p) s = .next s) ∧
      (x.silenceTimer = some 0 → x.link = .active →
        exec (.silenceTimerExpiry p) s = .next (if p = .cab then lost t else t)) ∧
      (x.silenceTimer = some 0 → x.link = .silent → exec (.silenceTimerExpiry p) s = .next t))

/-- The withdrawal of the cab's claims: Cab entries become Free and their equipment is stowed with cause CLAIM_LOSS, the banks
disabled; Lent entries go back to PROGRAM; the cab port alone is told CLAIM_LOST, where an entry changed. -/
def Obligations.CabClaimsWithdrawn : Prop :=
  ∀ (s t : State), t = s.withdrawCab →
    (∀ r, t.clt.get r = (match s.clt.get r with
      | .cab => .free
      | .lent => .program
      | .free => .free
      | .program => .program)) ∧
    (∀ side, s.clt.get (armResource side) = .cab →
      t.arm side = (if (s.arm side).state = .homing ∨ (s.arm side).state = .deploying ∨ (s.arm side).state = .working
        then (s.arm side).lifted .claimLoss s.params.moveTimeout else s.arm side)) ∧
    (∀ side, s.clt.get (armResource side) = .free ∨ s.clt.get (armResource side) = .program →
      t.arm side = s.arm side) ∧
    (s.clt.pickup = .cab → t.arc.pickup =
      (if s.arc.pickup.state = .lowering ∨ s.arc.pickup.state = .working then
        s.arc.pickup.raised .claimLoss s.params.moveTimeout else s.arc.pickup)) ∧
    (s.clt.spray = .cab → ∀ i, (t.spc.banks.get i).enabled = false) ∧
    (s.clt.pickup = .free ∨ s.clt.pickup = .program → t.arc.pickup = s.arc.pickup) ∧
    (s.clt.spray = .free ∨ s.clt.spray = .program → ∀ i, (t.spc.banks.get i).enabled = (s.spc.banks.get i).enabled) ∧
    (s.clt.spray ≠ .lent → ∀ i, (t.spc.banks.get i).dose = (s.spc.banks.get i).dose ∧
      (t.spc.banks.get i).doseInEffect = (s.spc.banks.get i).doseInEffect ∧
      (t.spc.banks.get i).width = (s.spc.banks.get i).width) ∧
    (∀ (r : Resource) (back : State → State), s.clt.get r = .lent →
      ((∃ st, s.sge.settings = some st ∧ (s.sge.state = .running ∨ s.sge.state = .starved ∨ s.sge.state = .suspended) ∧
          ∀ u, back u = u.applySetting r st) ∨
        (s.sge.state = .stopping ∧ ∀ u, back u = u.stopResource r) ∨ (s.sge.state = .idle ∧ ∀ u, back u = u)) →
      (∀ side, r = armResource side → t.arm side = (back s).arm side) ∧
      (r = .pickup → t.arc.pickup = (back s).arc.pickup) ∧
      (r = .spray → ∀ i, (t.spc.banks.get i).enabled = ((back s).spc.banks.get i).enabled ∧
        (t.spc.banks.get i).dose = ((back s).spc.banks.get i).dose ∧
        (t.spc.banks.get i).doseInEffect = ((back s).spc.banks.get i).doseInEffect ∧
        (t.spc.banks.get i).width = ((back s).spc.banks.get i).width) ∧
      ((∀ x, x ≠ r → s.clt.get x = .free ∨ s.clt.get x = .program) →
        t = back { s.setClaim r .program with ports := { s.ports with cab := s.ports.cab.postIf .claimLost true } })) ∧
    (∀ p, (t.port p).hasNotice .claimLost = ((s.port p).hasNotice .claimLost ||
      (p == .cab && (s.clt.armL.holder == .cab || s.clt.armR.holder == .cab || s.clt.pickup.holder == .cab ||
        s.clt.spray.holder == .cab)))) ∧
    t.tgv = s.tgv ∧ t.ctu = s.ctu ∧ t.pft = s.pft ∧ t.cfs = s.cfs ∧ t.sge.state = s.sge.state ∧ t.sge.ring = s.sge.ring

/-! ## Configuration Store -/

/-- CFG_WRITE: taken from the chassis port in both device states and refused with DENIED from another; an id above 63 or a
value outside the range of its id is refused with RANGE and leaves the pending set; an accepted write replaces the pending
value of its id and nothing else, and is answered OK. -/
def Obligations.CfgWriteReplacesPending : Prop :=
  ∀ (s : State) (f : Frame), s.rstnHeld = false → (s.ports.get f.port).inReset = false → f.payload.length = 5 →
    (∀ st, ((s.atBlock f).replied f .cfgWrite st).cfs = s.cfs) ∧
    (f.port ≠ .chassis → exec (.cfgWrite f) s = .next ((s.atBlock f).replied f .cfgWrite .denied)) ∧
    (f.port = .chassis →
      (64 ≤ (f.payload.getD 0 0).toNat → exec (.cfgWrite f) s = .next ((s.atBlock f).replied f .cfgWrite .range)) ∧
      (∀ (i : Fin 64) (v : Int), (f.payload.getD 0 0).toNat = i.val →
        v = s32 (f.payload.getD 1 0) (f.payload.getD 2 0) (f.payload.getD 3 0) (f.payload.getD 4 0) →
        (v < (paramTable.get i).lo ∨ (paramTable.get i).hi < v →
          exec (.cfgWrite f) s = .next ((s.atBlock f).replied f .cfgWrite .range)) ∧
        ((paramTable.get i).lo ≤ v → v ≤ (paramTable.get i).hi →
          exec (.cfgWrite f) s = .next (State.replied { s.atBlock f with cfs := { s.cfs with pendingSet :=
            { vals := s.cfs.pendingSet.vals.set i.val v i.isLt } } } f .cfgWrite .ok))))

/-- CFG_COMMIT: the rest test, the four cross-checks in their order, and what a successful commit leaves in every block: of the
Spray Controller the widths computed from the new set, with WIDTH_CLAMP where one is raised, and the rest of each bank as it
was; the engine's record as it was. In a state in which a valve is open or a permissive true, which no run reaches at a commit,
the closings account their water and latch as ever. That what no rule names stays as it is, the brush cap last read and stop
complete reported among it, and that a commit sets WIDTH_CLAMP, is the model's reading (log entries 18, 21 and 32). -/
def Obligations.CfgCommitActs : Prop :=
  ∀ (s : State) (f : Frame) (p : Params) (rest : Prop) (check : CommitResult) (width : BankId → Nat) (raised : BankId → Bool),
    s.hears .cfgCommit f → p = s.cfs.pendingSet →
    (∀ i, width i = roundDivNat ((s.spc.banks.get i).doseInEffect * p.sprayInterval) (p.nozzleFlow i)) →
    (∀ i, raised i = (decide (0 < (s.spc.banks.get i).doseInEffect) && decide (width i = 0))) →
    (rest ↔ s.tgv.mode = .parked ∧ s.sge.state = .idle ∧ s.arc.left.state = .stowed ∧ s.arc.right.state = .stowed ∧
      s.arc.pickup.state = .up) →
    check = (if p.slewMax ≤ p.slewMin then .slewLimits
      else if p.transportMax < 4000 then .transportMax
      else if 2500 < p.tractionFloor then .tractionFloor
      else if 2500 < p.fallback then .fallback
      else .none) →
    (s.cfs.ready = true → ¬rest → exec (.cfgCommit f) s = .next ((s.atBlock f).replied f .cfgCommit .state)) ∧
    (s.cfs.ready = false ∨ rest → check ≠ .none → exec (.cfgCommit f) s =
      .next (State.replied { s.atBlock f with cfs := { s.cfs with commitResult := check } } f .cfgCommit .range)) ∧
    (s.cfs.ready = false ∨ rest → check = .none → ∃ t, exec (.cfgCommit f) s = .next t ∧
      (t.port f.port).response = { status := .ok, code := 0x3D, payload := [] } ∧
      t.cfs = { ready := true, pendingSet := p, activeSet := some p, commitResult := .none } ∧ t.params = p ∧
      (∀ c, t.chan c =
        { s.chan c with enabled := true, gateRef := (s.chan c).count, gateTimer := some (p.gate c) }) ∧
      t.ctu = { s.ctu with chans := t.ctu.chans, markProgress := 0, persistence := 0 } ∧
      t.pba = { s.pba with
        pressTraction := 0
        pressImplement := 0
        pressFan := 0
        ambient := none
        freshness := .stale
        freshTimer := none
        slack := 0
        allocTimer := some 20
        lanes := .ofFn fun l => { s.pba.lane l with req := LaneReq.inactive, out := LaneOut.idle } } ∧
      t.tgv = { s.tgv with
        mode := .parked
        reqSpeed := 0
        demandSpeed := 0
        targetSpeed := 0
        commandedSpeed := 0
        tractionCap := none
        segCap := none
        stopRequest := false
        pumpFwd := 0
        pumpRev := 0
        motor := 0
        updateTimer := some 10 } ∧
      t.arc = { s.arc with cap := none, updateTimer := some 10 } ∧ t.pft = s.pft ∧ t.clt = s.clt ∧
      t.sge.ring = s.sge.ring ∧ t.sge.state = s.sge.state ∧
      (∀ i, (t.spc.banks.get i).terms = t.termsOf i ∧ (t.spc.banks.get i).valve =
        ((s.spc.banks.get i).valve && (t.spc.banks.get i).terms.all)) ∧ t.spc.pumpLevel = 0 ∧
      (∀ (i : BankId) (b c : Bank), b = s.spc.banks.get i → c = t.spc.banks.get i →
        c.width = (if raised i then 1 else width i) ∧ c.widthClamp = (b.widthClamp || raised i) ∧ c.enabled = b.enabled ∧
        c.dose = b.dose ∧ c.doseInEffect = b.doseInEffect ∧ c.doseShort = b.doseShort ∧
        (b.valve = false → c.remainder = b.remainder ∧ c.openTime = b.openTime ∧ c.pulseTimer = b.pulseTimer) ∧
        (b.terms.all = false → c.firstFailing = b.firstFailing)) ∧
      t.sge = { s.sge with figures := { s.sge.figures with water := t.sge.figures.water } } ∧
      ((∀ i, (s.spc.banks.get i).valve = false ∧ (s.spc.banks.get i).terms.all = false) →
        t.sge = s.sge ∧ t.spc.estimate = s.spc.estimate ∧
        ∀ (q : PortId) (k : Notice), (t.port q).hasNotice k = ((s.port q).hasNotice k || k == .cfgDone ||
          k == .clamp && [BankId.b0, .b1, .b2, .b3].any fun i => raised i && !(s.spc.banks.get i).widthClamp)) ∧
      (∀ q, (t.port q).hasNotice .cfgDone = true ∧
        (t.port q).silenceTimer = (if (s.port q).inReset then (s.port q).silenceTimer else some (p.silenceLimit q))))

/-! ## What every step keeps -/

/-- The reset state meets every invariant below. -/
def Obligations.ResetMeetsInvariants : Prop :=
  State.reset.paramsRule ∧ State.reset.quietRule ∧ State.reset.stopRule ∧ State.reset.valveRule ∧ State.reset.engineRule ∧
    State.reset.planRule ∧ State.reset.outputRule ∧ State.reset.figureRule

/-- Every step keeps the parameter sets in their ranges, the active set past the cross-checks and valid exactly in READY. -/
def Obligations.ParametersStayInRange : Prop :=
  ∀ s t : State, s.paramsRule → step s = .next t → t.paramsRule

/-- Every step keeps UNCONFIGURED quiet: nothing enabled, no timer of a block running (gates, freshness, allocation, updates,
moves, pulses), no output on. -/
def Obligations.UnconfiguredStaysQuiet : Prop :=
  ∀ s t : State, s.quietRule → step s = .next t → t.quietRule

/-- While STOPIN is asserted, no step brings an arm to DEPLOYING or WORKING or the pickup to LOWERING or WORKING. -/
def Obligations.StopInputKeepsEquipmentUp : Prop :=
  ∀ s t : State, s.quietRule → s.stopRule → step s = .next t → t.stopRule

/-- Every step leaves the stored terms true to their inputs, every open valve with its permissive, and a pulse timer running
exactly where a valve is open. -/
def Obligations.ValvesOpenOnlyOnPermissive : Prop :=
  ∀ s t : State, s.quietRule → s.valveRule → step s = .next t → t.valveRule

/-- Every step keeps the engine record consistent, the claims with the program, and every descriptor that the engine owns on a
valid profile with a length of 1 to 20000 m. -/
def Obligations.ProgramStaysConsistent : Prop :=
  ∀ s t : State, s.engineRule → s.planRule → step s = .next t → t.engineRule ∧ t.planRule

/-- Every step keeps the outputs legal: levels in 0..4095, one pump coil and one slew direction at a time, brushes, broom, fan
and valves only where the state drives them; and the measured figures in the ranges of their fields. -/
def Obligations.OutputsStayLegal : Prop :=
  ∀ s t : State, s.paramsRule → s.outputRule → s.figureRule → step s = .next t → t.outputRule ∧ t.figureRule
end

