-- ==== Sys2Proof/Laws/State.lean ====
section
/-! SUPPORT. The fields of State under each plain record update: what an update leaves as it was, true by unfolding and
given to simp, so that no proof need unfold an update to read a field. -/

namespace Sys2Proof.Machine


/-! ## Ports -/

@[simp] theorem State.setPort_rstnHeld (s : State) (p : PortId) (x : Port) : (s.setPort p x).rstnHeld = s.rstnHeld := rfl
@[simp] theorem State.setPort_stopin (s : State) (p : PortId) (x : Port) : (s.setPort p x).stopin = s.stopin := rfl
@[simp] theorem State.setPort_ctu (s : State) (p : PortId) (x : Port) : (s.setPort p x).ctu = s.ctu := rfl
@[simp] theorem State.setPort_pba (s : State) (p : PortId) (x : Port) : (s.setPort p x).pba = s.pba := rfl
@[simp] theorem State.setPort_pft (s : State) (p : PortId) (x : Port) : (s.setPort p x).pft = s.pft := rfl
@[simp] theorem State.setPort_tgv (s : State) (p : PortId) (x : Port) : (s.setPort p x).tgv = s.tgv := rfl
@[simp] theorem State.setPort_arc (s : State) (p : PortId) (x : Port) : (s.setPort p x).arc = s.arc := rfl
@[simp] theorem State.setPort_clt (s : State) (p : PortId) (x : Port) : (s.setPort p x).clt = s.clt := rfl
@[simp] theorem State.setPort_spc (s : State) (p : PortId) (x : Port) : (s.setPort p x).spc = s.spc := rfl
@[simp] theorem State.setPort_sge (s : State) (p : PortId) (x : Port) : (s.setPort p x).sge = s.sge := rfl
@[simp] theorem State.setPort_cfs (s : State) (p : PortId) (x : Port) : (s.setPort p x).cfs = s.cfs := rfl
@[simp] theorem State.setPort_raceCount (s : State) (p : PortId) (x : Port) : (s.setPort p x).raceCount = s.raceCount := rfl
@[simp] theorem State.setPort_pending (s : State) (p : PortId) (x : Port) : (s.setPort p x).pending = s.pending := rfl
@[simp] theorem State.setPort_params (s : State) (p : PortId) (x : Port) : (s.setPort p x).params = s.params := rfl
@[simp] theorem State.setPort_profile (s : State) (p : PortId) (x : Port) : (s.setPort p x).profile = s.profile := rfl
@[simp] theorem State.setPort_measured (s : State) (p : PortId) (x : Port) : (s.setPort p x).measured = s.measured := rfl
@[simp] theorem State.setPort_chan (s : State) (p : PortId) (x : Port) (ch : ChanId) : (s.setPort p x).chan ch = s.chan ch := rfl
@[simp] theorem State.setPort_position (s : State) (p : PortId) (x : Port) (sd : Side) : (s.setPort p x).position sd = s.position sd := rfl
@[simp] theorem State.setPort_armHomed (s : State) (p : PortId) (x : Port) (sd : Side) : (s.setPort p x).armHomed sd = s.armHomed sd := rfl
@[simp] theorem State.setPort_arm (s : State) (p : PortId) (x : Port) (sd : Side) : (s.setPort p x).arm sd = s.arm sd := rfl
@[simp] theorem State.respond_rstnHeld (s : State) (p : PortId) (r : Response) : (s.respond p r).rstnHeld = s.rstnHeld := rfl
@[simp] theorem State.respond_stopin (s : State) (p : PortId) (r : Response) : (s.respond p r).stopin = s.stopin := rfl
@[simp] theorem State.respond_ctu (s : State) (p : PortId) (r : Response) : (s.respond p r).ctu = s.ctu := rfl
@[simp] theorem State.respond_pba (s : State) (p : PortId) (r : Response) : (s.respond p r).pba = s.pba := rfl
@[simp] theorem State.respond_pft (s : State) (p : PortId) (r : Response) : (s.respond p r).pft = s.pft := rfl
@[simp] theorem State.respond_tgv (s : State) (p : PortId) (r : Response) : (s.respond p r).tgv = s.tgv := rfl
@[simp] theorem State.respond_arc (s : State) (p : PortId) (r : Response) : (s.respond p r).arc = s.arc := rfl
@[simp] theorem State.respond_clt (s : State) (p : PortId) (r : Response) : (s.respond p r).clt = s.clt := rfl
@[simp] theorem State.respond_spc (s : State) (p : PortId) (r : Response) : (s.respond p r).spc = s.spc := rfl
@[simp] theorem State.respond_sge (s : State) (p : PortId) (r : Response) : (s.respond p r).sge = s.sge := rfl
@[simp] theorem State.respond_cfs (s : State) (p : PortId) (r : Response) : (s.respond p r).cfs = s.cfs := rfl
@[simp] theorem State.respond_raceCount (s : State) (p : PortId) (r : Response) : (s.respond p r).raceCount = s.raceCount := rfl
@[simp] theorem State.respond_pending (s : State) (p : PortId) (r : Response) : (s.respond p r).pending = s.pending := rfl
@[simp] theorem State.respond_params (s : State) (p : PortId) (r : Response) : (s.respond p r).params = s.params := rfl
@[simp] theorem State.respond_profile (s : State) (p : PortId) (r : Response) : (s.respond p r).profile = s.profile := rfl
@[simp] theorem State.respond_measured (s : State) (p : PortId) (r : Response) : (s.respond p r).measured = s.measured := rfl
@[simp] theorem State.respond_chan (s : State) (p : PortId) (r : Response) (ch : ChanId) : (s.respond p r).chan ch = s.chan ch := rfl
@[simp] theorem State.respond_position (s : State) (p : PortId) (r : Response) (sd : Side) : (s.respond p r).position sd = s.position sd := rfl
@[simp] theorem State.respond_armHomed (s : State) (p : PortId) (r : Response) (sd : Side) : (s.respond p r).armHomed sd = s.armHomed sd := rfl
@[simp] theorem State.respond_arm (s : State) (p : PortId) (r : Response) (sd : Side) : (s.respond p r).arm sd = s.arm sd := rfl
@[simp] theorem State.dropHeld_rstnHeld (s : State) (p : PortId) : (s.dropHeld p).rstnHeld = s.rstnHeld := rfl
@[simp] theorem State.dropHeld_stopin (s : State) (p : PortId) : (s.dropHeld p).stopin = s.stopin := rfl
@[simp] theorem State.dropHeld_ctu (s : State) (p : PortId) : (s.dropHeld p).ctu = s.ctu := rfl
@[simp] theorem State.dropHeld_pba (s : State) (p : PortId) : (s.dropHeld p).pba = s.pba := rfl
@[simp] theorem State.dropHeld_pft (s : State) (p : PortId) : (s.dropHeld p).pft = s.pft := rfl
@[simp] theorem State.dropHeld_tgv (s : State) (p : PortId) : (s.dropHeld p).tgv = s.tgv := rfl
@[simp] theorem State.dropHeld_arc (s : State) (p : PortId) : (s.dropHeld p).arc = s.arc := rfl
@[simp] theorem State.dropHeld_clt (s : State) (p : PortId) : (s.dropHeld p).clt = s.clt := rfl
@[simp] theorem State.dropHeld_spc (s : State) (p : PortId) : (s.dropHeld p).spc = s.spc := rfl
@[simp] theorem State.dropHeld_sge (s : State) (p : PortId) : (s.dropHeld p).sge = s.sge := rfl
@[simp] theorem State.dropHeld_cfs (s : State) (p : PortId) : (s.dropHeld p).cfs = s.cfs := rfl
@[simp] theorem State.dropHeld_raceCount (s : State) (p : PortId) : (s.dropHeld p).raceCount = s.raceCount := rfl
@[simp] theorem State.dropHeld_pending (s : State) (p : PortId) : (s.dropHeld p).pending = s.pending := rfl
@[simp] theorem State.dropHeld_params (s : State) (p : PortId) : (s.dropHeld p).params = s.params := rfl
@[simp] theorem State.dropHeld_profile (s : State) (p : PortId) : (s.dropHeld p).profile = s.profile := rfl
@[simp] theorem State.dropHeld_measured (s : State) (p : PortId) : (s.dropHeld p).measured = s.measured := rfl
@[simp] theorem State.dropHeld_chan (s : State) (p : PortId) (ch : ChanId) : (s.dropHeld p).chan ch = s.chan ch := rfl
@[simp] theorem State.dropHeld_position (s : State) (p : PortId) (sd : Side) : (s.dropHeld p).position sd = s.position sd := rfl
@[simp] theorem State.dropHeld_armHomed (s : State) (p : PortId) (sd : Side) : (s.dropHeld p).armHomed sd = s.armHomed sd := rfl
@[simp] theorem State.dropHeld_arm (s : State) (p : PortId) (sd : Side) : (s.dropHeld p).arm sd = s.arm sd := rfl
@[simp] theorem State.heard_rstnHeld (s : State) (f : Frame) : (s.heard f).rstnHeld = s.rstnHeld := rfl
@[simp] theorem State.heard_stopin (s : State) (f : Frame) : (s.heard f).stopin = s.stopin := rfl
@[simp] theorem State.heard_ctu (s : State) (f : Frame) : (s.heard f).ctu = s.ctu := rfl
@[simp] theorem State.heard_pba (s : State) (f : Frame) : (s.heard f).pba = s.pba := rfl
@[simp] theorem State.heard_pft (s : State) (f : Frame) : (s.heard f).pft = s.pft := rfl
@[simp] theorem State.heard_tgv (s : State) (f : Frame) : (s.heard f).tgv = s.tgv := rfl
@[simp] theorem State.heard_arc (s : State) (f : Frame) : (s.heard f).arc = s.arc := rfl
@[simp] theorem State.heard_clt (s : State) (f : Frame) : (s.heard f).clt = s.clt := rfl
@[simp] theorem State.heard_spc (s : State) (f : Frame) : (s.heard f).spc = s.spc := rfl
@[simp] theorem State.heard_sge (s : State) (f : Frame) : (s.heard f).sge = s.sge := rfl
@[simp] theorem State.heard_cfs (s : State) (f : Frame) : (s.heard f).cfs = s.cfs := rfl
@[simp] theorem State.heard_raceCount (s : State) (f : Frame) : (s.heard f).raceCount = s.raceCount := rfl
@[simp] theorem State.heard_pending (s : State) (f : Frame) : (s.heard f).pending = s.pending := rfl
@[simp] theorem State.heard_params (s : State) (f : Frame) : (s.heard f).params = s.params := rfl
@[simp] theorem State.heard_profile (s : State) (f : Frame) : (s.heard f).profile = s.profile := rfl
@[simp] theorem State.heard_measured (s : State) (f : Frame) : (s.heard f).measured = s.measured := rfl
@[simp] theorem State.heard_chan (s : State) (f : Frame) (ch : ChanId) : (s.heard f).chan ch = s.chan ch := rfl
@[simp] theorem State.heard_position (s : State) (f : Frame) (sd : Side) : (s.heard f).position sd = s.position sd := rfl
@[simp] theorem State.heard_armHomed (s : State) (f : Frame) (sd : Side) : (s.heard f).armHomed sd = s.armHomed sd := rfl
@[simp] theorem State.heard_arm (s : State) (f : Frame) (sd : Side) : (s.heard f).arm sd = s.arm sd := rfl
@[simp] theorem State.atBlock_rstnHeld (s : State) (f : Frame) : (s.atBlock f).rstnHeld = s.rstnHeld := rfl
@[simp] theorem State.atBlock_stopin (s : State) (f : Frame) : (s.atBlock f).stopin = s.stopin := rfl
@[simp] theorem State.atBlock_ctu (s : State) (f : Frame) : (s.atBlock f).ctu = s.ctu := rfl
@[simp] theorem State.atBlock_pba (s : State) (f : Frame) : (s.atBlock f).pba = s.pba := rfl
@[simp] theorem State.atBlock_pft (s : State) (f : Frame) : (s.atBlock f).pft = s.pft := rfl
@[simp] theorem State.atBlock_tgv (s : State) (f : Frame) : (s.atBlock f).tgv = s.tgv := rfl
@[simp] theorem State.atBlock_arc (s : State) (f : Frame) : (s.atBlock f).arc = s.arc := rfl
@[simp] theorem State.atBlock_clt (s : State) (f : Frame) : (s.atBlock f).clt = s.clt := rfl
@[simp] theorem State.atBlock_spc (s : State) (f : Frame) : (s.atBlock f).spc = s.spc := rfl
@[simp] theorem State.atBlock_sge (s : State) (f : Frame) : (s.atBlock f).sge = s.sge := rfl
@[simp] theorem State.atBlock_cfs (s : State) (f : Frame) : (s.atBlock f).cfs = s.cfs := rfl
@[simp] theorem State.atBlock_raceCount (s : State) (f : Frame) : (s.atBlock f).raceCount = s.raceCount := rfl
@[simp] theorem State.atBlock_pending (s : State) (f : Frame) : (s.atBlock f).pending = s.pending := rfl
@[simp] theorem State.atBlock_params (s : State) (f : Frame) : (s.atBlock f).params = s.params := rfl
@[simp] theorem State.atBlock_profile (s : State) (f : Frame) : (s.atBlock f).profile = s.profile := rfl
@[simp] theorem State.atBlock_measured (s : State) (f : Frame) : (s.atBlock f).measured = s.measured := rfl
@[simp] theorem State.atBlock_chan (s : State) (f : Frame) (ch : ChanId) : (s.atBlock f).chan ch = s.chan ch := rfl
@[simp] theorem State.atBlock_position (s : State) (f : Frame) (sd : Side) : (s.atBlock f).position sd = s.position sd := rfl
@[simp] theorem State.atBlock_armHomed (s : State) (f : Frame) (sd : Side) : (s.atBlock f).armHomed sd = s.armHomed sd := rfl
@[simp] theorem State.atBlock_arm (s : State) (f : Frame) (sd : Side) : (s.atBlock f).arm sd = s.arm sd := rfl
@[simp] theorem State.replied_rstnHeld (s : State) (f : Frame) (c : Cmd) (st : Status) : (s.replied f c st).rstnHeld = s.rstnHeld := rfl
@[simp] theorem State.replied_stopin (s : State) (f : Frame) (c : Cmd) (st : Status) : (s.replied f c st).stopin = s.stopin := rfl
@[simp] theorem State.replied_ctu (s : State) (f : Frame) (c : Cmd) (st : Status) : (s.replied f c st).ctu = s.ctu := rfl
@[simp] theorem State.replied_pba (s : State) (f : Frame) (c : Cmd) (st : Status) : (s.replied f c st).pba = s.pba := rfl
@[simp] theorem State.replied_pft (s : State) (f : Frame) (c : Cmd) (st : Status) : (s.replied f c st).pft = s.pft := rfl
@[simp] theorem State.replied_tgv (s : State) (f : Frame) (c : Cmd) (st : Status) : (s.replied f c st).tgv = s.tgv := rfl
@[simp] theorem State.replied_arc (s : State) (f : Frame) (c : Cmd) (st : Status) : (s.replied f c st).arc = s.arc := rfl
@[simp] theorem State.replied_clt (s : State) (f : Frame) (c : Cmd) (st : Status) : (s.replied f c st).clt = s.clt := rfl
@[simp] theorem State.replied_spc (s : State) (f : Frame) (c : Cmd) (st : Status) : (s.replied f c st).spc = s.spc := rfl
@[simp] theorem State.replied_sge (s : State) (f : Frame) (c : Cmd) (st : Status) : (s.replied f c st).sge = s.sge := rfl
@[simp] theorem State.replied_cfs (s : State) (f : Frame) (c : Cmd) (st : Status) : (s.replied f c st).cfs = s.cfs := rfl
@[simp] theorem State.replied_raceCount (s : State) (f : Frame) (c : Cmd) (st : Status) : (s.replied f c st).raceCount = s.raceCount := rfl
@[simp] theorem State.replied_pending (s : State) (f : Frame) (c : Cmd) (st : Status) : (s.replied f c st).pending = s.pending := rfl
@[simp] theorem State.replied_params (s : State) (f : Frame) (c : Cmd) (st : Status) : (s.replied f c st).params = s.params := rfl
@[simp] theorem State.replied_profile (s : State) (f : Frame) (c : Cmd) (st : Status) : (s.replied f c st).profile = s.profile := rfl
@[simp] theorem State.replied_measured (s : State) (f : Frame) (c : Cmd) (st : Status) : (s.replied f c st).measured = s.measured := rfl
@[simp] theorem State.replied_chan (s : State) (f : Frame) (c : Cmd) (st : Status) (ch : ChanId) : (s.replied f c st).chan ch = s.chan ch := rfl
@[simp] theorem State.replied_position (s : State) (f : Frame) (c : Cmd) (st : Status) (sd : Side) : (s.replied f c st).position sd = s.position sd := rfl
@[simp] theorem State.replied_armHomed (s : State) (f : Frame) (c : Cmd) (st : Status) (sd : Side) : (s.replied f c st).armHomed sd = s.armHomed sd := rfl
@[simp] theorem State.replied_arm (s : State) (f : Frame) (c : Cmd) (st : Status) (sd : Side) : (s.replied f c st).arm sd = s.arm sd := rfl
@[simp] theorem State.postIf_rstnHeld (s : State) (k : Notice) (on : Bool) : (s.postIf k on).rstnHeld = s.rstnHeld := rfl
@[simp] theorem State.postIf_stopin (s : State) (k : Notice) (on : Bool) : (s.postIf k on).stopin = s.stopin := rfl
@[simp] theorem State.postIf_ctu (s : State) (k : Notice) (on : Bool) : (s.postIf k on).ctu = s.ctu := rfl
@[simp] theorem State.postIf_pba (s : State) (k : Notice) (on : Bool) : (s.postIf k on).pba = s.pba := rfl
@[simp] theorem State.postIf_pft (s : State) (k : Notice) (on : Bool) : (s.postIf k on).pft = s.pft := rfl
@[simp] theorem State.postIf_tgv (s : State) (k : Notice) (on : Bool) : (s.postIf k on).tgv = s.tgv := rfl
@[simp] theorem State.postIf_arc (s : State) (k : Notice) (on : Bool) : (s.postIf k on).arc = s.arc := rfl
@[simp] theorem State.postIf_clt (s : State) (k : Notice) (on : Bool) : (s.postIf k on).clt = s.clt := rfl
@[simp] theorem State.postIf_spc (s : State) (k : Notice) (on : Bool) : (s.postIf k on).spc = s.spc := rfl
@[simp] theorem State.postIf_sge (s : State) (k : Notice) (on : Bool) : (s.postIf k on).sge = s.sge := rfl
@[simp] theorem State.postIf_cfs (s : State) (k : Notice) (on : Bool) : (s.postIf k on).cfs = s.cfs := rfl
@[simp] theorem State.postIf_raceCount (s : State) (k : Notice) (on : Bool) : (s.postIf k on).raceCount = s.raceCount := rfl
@[simp] theorem State.postIf_pending (s : State) (k : Notice) (on : Bool) : (s.postIf k on).pending = s.pending := rfl
@[simp] theorem State.postIf_params (s : State) (k : Notice) (on : Bool) : (s.postIf k on).params = s.params := rfl
@[simp] theorem State.postIf_profile (s : State) (k : Notice) (on : Bool) : (s.postIf k on).profile = s.profile := rfl
@[simp] theorem State.postIf_measured (s : State) (k : Notice) (on : Bool) : (s.postIf k on).measured = s.measured := rfl
@[simp] theorem State.postIf_chan (s : State) (k : Notice) (on : Bool) (ch : ChanId) : (s.postIf k on).chan ch = s.chan ch := rfl
@[simp] theorem State.postIf_position (s : State) (k : Notice) (on : Bool) (sd : Side) : (s.postIf k on).position sd = s.position sd := rfl
@[simp] theorem State.postIf_armHomed (s : State) (k : Notice) (on : Bool) (sd : Side) : (s.postIf k on).armHomed sd = s.armHomed sd := rfl
@[simp] theorem State.postIf_arm (s : State) (k : Notice) (on : Bool) (sd : Side) : (s.postIf k on).arm sd = s.arm sd := rfl
@[simp] theorem State.post_rstnHeld (s : State) (k : Notice) : (s.post k).rstnHeld = s.rstnHeld := rfl
@[simp] theorem State.post_stopin (s : State) (k : Notice) : (s.post k).stopin = s.stopin := rfl
@[simp] theorem State.post_ctu (s : State) (k : Notice) : (s.post k).ctu = s.ctu := rfl
@[simp] theorem State.post_pba (s : State) (k : Notice) : (s.post k).pba = s.pba := rfl
@[simp] theorem State.post_pft (s : State) (k : Notice) : (s.post k).pft = s.pft := rfl
@[simp] theorem State.post_tgv (s : State) (k : Notice) : (s.post k).tgv = s.tgv := rfl
@[simp] theorem State.post_arc (s : State) (k : Notice) : (s.post k).arc = s.arc := rfl
@[simp] theorem State.post_clt (s : State) (k : Notice) : (s.post k).clt = s.clt := rfl
@[simp] theorem State.post_spc (s : State) (k : Notice) : (s.post k).spc = s.spc := rfl
@[simp] theorem State.post_sge (s : State) (k : Notice) : (s.post k).sge = s.sge := rfl
@[simp] theorem State.post_cfs (s : State) (k : Notice) : (s.post k).cfs = s.cfs := rfl
@[simp] theorem State.post_raceCount (s : State) (k : Notice) : (s.post k).raceCount = s.raceCount := rfl
@[simp] theorem State.post_pending (s : State) (k : Notice) : (s.post k).pending = s.pending := rfl
@[simp] theorem State.post_params (s : State) (k : Notice) : (s.post k).params = s.params := rfl
@[simp] theorem State.post_profile (s : State) (k : Notice) : (s.post k).profile = s.profile := rfl
@[simp] theorem State.post_measured (s : State) (k : Notice) : (s.post k).measured = s.measured := rfl
@[simp] theorem State.post_chan (s : State) (k : Notice) (ch : ChanId) : (s.post k).chan ch = s.chan ch := rfl
@[simp] theorem State.post_position (s : State) (k : Notice) (sd : Side) : (s.post k).position sd = s.position sd := rfl
@[simp] theorem State.post_armHomed (s : State) (k : Notice) (sd : Side) : (s.post k).armHomed sd = s.armHomed sd := rfl
@[simp] theorem State.post_arm (s : State) (k : Notice) (sd : Side) : (s.post k).arm sd = s.arm sd := rfl

/-! ## One channel, one arm, one claim, one lane -/

@[simp] theorem State.setChan_rstnHeld (s : State) (i : ChanId) (x : Channel) : (s.setChan i x).rstnHeld = s.rstnHeld := rfl
@[simp] theorem State.setChan_stopin (s : State) (i : ChanId) (x : Channel) : (s.setChan i x).stopin = s.stopin := rfl
@[simp] theorem State.setChan_pba (s : State) (i : ChanId) (x : Channel) : (s.setChan i x).pba = s.pba := rfl
@[simp] theorem State.setChan_pft (s : State) (i : ChanId) (x : Channel) : (s.setChan i x).pft = s.pft := rfl
@[simp] theorem State.setChan_tgv (s : State) (i : ChanId) (x : Channel) : (s.setChan i x).tgv = s.tgv := rfl
@[simp] theorem State.setChan_arc (s : State) (i : ChanId) (x : Channel) : (s.setChan i x).arc = s.arc := rfl
@[simp] theorem State.setChan_clt (s : State) (i : ChanId) (x : Channel) : (s.setChan i x).clt = s.clt := rfl
@[simp] theorem State.setChan_spc (s : State) (i : ChanId) (x : Channel) : (s.setChan i x).spc = s.spc := rfl
@[simp] theorem State.setChan_sge (s : State) (i : ChanId) (x : Channel) : (s.setChan i x).sge = s.sge := rfl
@[simp] theorem State.setChan_ports (s : State) (i : ChanId) (x : Channel) : (s.setChan i x).ports = s.ports := rfl
@[simp] theorem State.setChan_cfs (s : State) (i : ChanId) (x : Channel) : (s.setChan i x).cfs = s.cfs := rfl
@[simp] theorem State.setChan_raceCount (s : State) (i : ChanId) (x : Channel) : (s.setChan i x).raceCount = s.raceCount := rfl
@[simp] theorem State.setChan_pending (s : State) (i : ChanId) (x : Channel) : (s.setChan i x).pending = s.pending := rfl
@[simp] theorem State.setChan_params (s : State) (i : ChanId) (x : Channel) : (s.setChan i x).params = s.params := rfl
@[simp] theorem State.setChan_profile (s : State) (i : ChanId) (x : Channel) : (s.setChan i x).profile = s.profile := rfl
@[simp] theorem State.setChan_arm (s : State) (i : ChanId) (x : Channel) (sd : Side) : (s.setChan i x).arm sd = s.arm sd := rfl
@[simp] theorem State.setChan_port (s : State) (i : ChanId) (x : Channel) (q : PortId) : (s.setChan i x).port q = s.port q := rfl
@[simp] theorem State.setArm_rstnHeld (s : State) (side : Side) (x : Arm) : (s.setArm side x).rstnHeld = s.rstnHeld := rfl
@[simp] theorem State.setArm_stopin (s : State) (side : Side) (x : Arm) : (s.setArm side x).stopin = s.stopin := rfl
@[simp] theorem State.setArm_ctu (s : State) (side : Side) (x : Arm) : (s.setArm side x).ctu = s.ctu := rfl
@[simp] theorem State.setArm_pba (s : State) (side : Side) (x : Arm) : (s.setArm side x).pba = s.pba := rfl
@[simp] theorem State.setArm_pft (s : State) (side : Side) (x : Arm) : (s.setArm side x).pft = s.pft := rfl
@[simp] theorem State.setArm_tgv (s : State) (side : Side) (x : Arm) : (s.setArm side x).tgv = s.tgv := rfl
@[simp] theorem State.setArm_clt (s : State) (side : Side) (x : Arm) : (s.setArm side x).clt = s.clt := rfl
@[simp] theorem State.setArm_spc (s : State) (side : Side) (x : Arm) : (s.setArm side x).spc = s.spc := rfl
@[simp] theorem State.setArm_sge (s : State) (side : Side) (x : Arm) : (s.setArm side x).sge = s.sge := rfl
@[simp] theorem State.setArm_ports (s : State) (side : Side) (x : Arm) : (s.setArm side x).ports = s.ports := rfl
@[simp] theorem State.setArm_cfs (s : State) (side : Side) (x : Arm) : (s.setArm side x).cfs = s.cfs := rfl
@[simp] theorem State.setArm_raceCount (s : State) (side : Side) (x : Arm) : (s.setArm side x).raceCount = s.raceCount := rfl
@[simp] theorem State.setArm_pending (s : State) (side : Side) (x : Arm) : (s.setArm side x).pending = s.pending := rfl
@[simp] theorem State.setArm_params (s : State) (side : Side) (x : Arm) : (s.setArm side x).params = s.params := rfl
@[simp] theorem State.setArm_profile (s : State) (side : Side) (x : Arm) : (s.setArm side x).profile = s.profile := rfl
@[simp] theorem State.setArm_measured (s : State) (side : Side) (x : Arm) : (s.setArm side x).measured = s.measured := rfl
@[simp] theorem State.setArm_chan (s : State) (side : Side) (x : Arm) (ch : ChanId) : (s.setArm side x).chan ch = s.chan ch := rfl
@[simp] theorem State.setArm_position (s : State) (side : Side) (x : Arm) (sd : Side) : (s.setArm side x).position sd = s.position sd := rfl
@[simp] theorem State.setArm_armHomed (s : State) (side : Side) (x : Arm) (sd : Side) : (s.setArm side x).armHomed sd = s.armHomed sd := rfl
@[simp] theorem State.setArm_port (s : State) (side : Side) (x : Arm) (q : PortId) : (s.setArm side x).port q = s.port q := rfl
@[simp] theorem State.setClaim_rstnHeld (s : State) (r : Resource) (e : Claim) : (s.setClaim r e).rstnHeld = s.rstnHeld := rfl
@[simp] theorem State.setClaim_stopin (s : State) (r : Resource) (e : Claim) : (s.setClaim r e).stopin = s.stopin := rfl
@[simp] theorem State.setClaim_ctu (s : State) (r : Resource) (e : Claim) : (s.setClaim r e).ctu = s.ctu := rfl
@[simp] theorem State.setClaim_pba (s : State) (r : Resource) (e : Claim) : (s.setClaim r e).pba = s.pba := rfl
@[simp] theorem State.setClaim_pft (s : State) (r : Resource) (e : Claim) : (s.setClaim r e).pft = s.pft := rfl
@[simp] theorem State.setClaim_tgv (s : State) (r : Resource) (e : Claim) : (s.setClaim r e).tgv = s.tgv := rfl
@[simp] theorem State.setClaim_arc (s : State) (r : Resource) (e : Claim) : (s.setClaim r e).arc = s.arc := rfl
@[simp] theorem State.setClaim_spc (s : State) (r : Resource) (e : Claim) : (s.setClaim r e).spc = s.spc := rfl
@[simp] theorem State.setClaim_sge (s : State) (r : Resource) (e : Claim) : (s.setClaim r e).sge = s.sge := rfl
@[simp] theorem State.setClaim_ports (s : State) (r : Resource) (e : Claim) : (s.setClaim r e).ports = s.ports := rfl
@[simp] theorem State.setClaim_cfs (s : State) (r : Resource) (e : Claim) : (s.setClaim r e).cfs = s.cfs := rfl
@[simp] theorem State.setClaim_raceCount (s : State) (r : Resource) (e : Claim) : (s.setClaim r e).raceCount = s.raceCount := rfl
@[simp] theorem State.setClaim_pending (s : State) (r : Resource) (e : Claim) : (s.setClaim r e).pending = s.pending := rfl
@[simp] theorem State.setClaim_params (s : State) (r : Resource) (e : Claim) : (s.setClaim r e).params = s.params := rfl
@[simp] theorem State.setClaim_profile (s : State) (r : Resource) (e : Claim) : (s.setClaim r e).profile = s.profile := rfl
@[simp] theorem State.setClaim_measured (s : State) (r : Resource) (e : Claim) : (s.setClaim r e).measured = s.measured := rfl
@[simp] theorem State.setClaim_chan (s : State) (r : Resource) (e : Claim) (ch : ChanId) : (s.setClaim r e).chan ch = s.chan ch := rfl
@[simp] theorem State.setClaim_position (s : State) (r : Resource) (e : Claim) (sd : Side) : (s.setClaim r e).position sd = s.position sd := rfl
@[simp] theorem State.setClaim_armHomed (s : State) (r : Resource) (e : Claim) (sd : Side) : (s.setClaim r e).armHomed sd = s.armHomed sd := rfl
@[simp] theorem State.setClaim_arm (s : State) (r : Resource) (e : Claim) (sd : Side) : (s.setClaim r e).arm sd = s.arm sd := rfl
@[simp] theorem State.setClaim_port (s : State) (r : Resource) (e : Claim) (q : PortId) : (s.setClaim r e).port q = s.port q := rfl
@[simp] theorem State.publishLane_rstnHeld (s : State) (l : LaneId) (r : LaneReq) : (s.publishLane l r).rstnHeld = s.rstnHeld := rfl
@[simp] theorem State.publishLane_stopin (s : State) (l : LaneId) (r : LaneReq) : (s.publishLane l r).stopin = s.stopin := rfl
@[simp] theorem State.publishLane_ctu (s : State) (l : LaneId) (r : LaneReq) : (s.publishLane l r).ctu = s.ctu := rfl
@[simp] theorem State.publishLane_pft (s : State) (l : LaneId) (r : LaneReq) : (s.publishLane l r).pft = s.pft := rfl
@[simp] theorem State.publishLane_tgv (s : State) (l : LaneId) (r : LaneReq) : (s.publishLane l r).tgv = s.tgv := rfl
@[simp] theorem State.publishLane_arc (s : State) (l : LaneId) (r : LaneReq) : (s.publishLane l r).arc = s.arc := rfl
@[simp] theorem State.publishLane_clt (s : State) (l : LaneId) (r : LaneReq) : (s.publishLane l r).clt = s.clt := rfl
@[simp] theorem State.publishLane_spc (s : State) (l : LaneId) (r : LaneReq) : (s.publishLane l r).spc = s.spc := rfl
@[simp] theorem State.publishLane_sge (s : State) (l : LaneId) (r : LaneReq) : (s.publishLane l r).sge = s.sge := rfl
@[simp] theorem State.publishLane_cfs (s : State) (l : LaneId) (r : LaneReq) : (s.publishLane l r).cfs = s.cfs := rfl
@[simp] theorem State.publishLane_raceCount (s : State) (l : LaneId) (r : LaneReq) : (s.publishLane l r).raceCount = s.raceCount := rfl
@[simp] theorem State.publishLane_pending (s : State) (l : LaneId) (r : LaneReq) : (s.publishLane l r).pending = s.pending := rfl
@[simp] theorem State.publishLane_params (s : State) (l : LaneId) (r : LaneReq) : (s.publishLane l r).params = s.params := rfl
@[simp] theorem State.publishLane_profile (s : State) (l : LaneId) (r : LaneReq) : (s.publishLane l r).profile = s.profile := rfl
@[simp] theorem State.publishLane_measured (s : State) (l : LaneId) (r : LaneReq) : (s.publishLane l r).measured = s.measured := rfl
@[simp] theorem State.publishLane_chan (s : State) (l : LaneId) (r : LaneReq) (ch : ChanId) : (s.publishLane l r).chan ch = s.chan ch := rfl
@[simp] theorem State.publishLane_position (s : State) (l : LaneId) (r : LaneReq) (sd : Side) : (s.publishLane l r).position sd = s.position sd := rfl
@[simp] theorem State.publishLane_armHomed (s : State) (l : LaneId) (r : LaneReq) (sd : Side) : (s.publishLane l r).armHomed sd = s.armHomed sd := rfl
@[simp] theorem State.publishLane_arm (s : State) (l : LaneId) (r : LaneReq) (sd : Side) : (s.publishLane l r).arm sd = s.arm sd := rfl
@[simp] theorem State.raiseClamp_rstnHeld (s : State) (l : LaneId) (k : ClampKind) (sat : Bool) : (s.raiseClamp l k sat).rstnHeld = s.rstnHeld := rfl
@[simp] theorem State.raiseClamp_stopin (s : State) (l : LaneId) (k : ClampKind) (sat : Bool) : (s.raiseClamp l k sat).stopin = s.stopin := rfl
@[simp] theorem State.raiseClamp_ctu (s : State) (l : LaneId) (k : ClampKind) (sat : Bool) : (s.raiseClamp l k sat).ctu = s.ctu := rfl
@[simp] theorem State.raiseClamp_pft (s : State) (l : LaneId) (k : ClampKind) (sat : Bool) : (s.raiseClamp l k sat).pft = s.pft := rfl
@[simp] theorem State.raiseClamp_tgv (s : State) (l : LaneId) (k : ClampKind) (sat : Bool) : (s.raiseClamp l k sat).tgv = s.tgv := rfl
@[simp] theorem State.raiseClamp_arc (s : State) (l : LaneId) (k : ClampKind) (sat : Bool) : (s.raiseClamp l k sat).arc = s.arc := rfl
@[simp] theorem State.raiseClamp_clt (s : State) (l : LaneId) (k : ClampKind) (sat : Bool) : (s.raiseClamp l k sat).clt = s.clt := rfl
@[simp] theorem State.raiseClamp_spc (s : State) (l : LaneId) (k : ClampKind) (sat : Bool) : (s.raiseClamp l k sat).spc = s.spc := rfl
@[simp] theorem State.raiseClamp_sge (s : State) (l : LaneId) (k : ClampKind) (sat : Bool) : (s.raiseClamp l k sat).sge = s.sge := rfl
@[simp] theorem State.raiseClamp_cfs (s : State) (l : LaneId) (k : ClampKind) (sat : Bool) : (s.raiseClamp l k sat).cfs = s.cfs := rfl
@[simp] theorem State.raiseClamp_raceCount (s : State) (l : LaneId) (k : ClampKind) (sat : Bool) : (s.raiseClamp l k sat).raceCount = s.raceCount := rfl
@[simp] theorem State.raiseClamp_pending (s : State) (l : LaneId) (k : ClampKind) (sat : Bool) : (s.raiseClamp l k sat).pending = s.pending := rfl
@[simp] theorem State.raiseClamp_params (s : State) (l : LaneId) (k : ClampKind) (sat : Bool) : (s.raiseClamp l k sat).params = s.params := rfl
@[simp] theorem State.raiseClamp_profile (s : State) (l : LaneId) (k : ClampKind) (sat : Bool) : (s.raiseClamp l k sat).profile = s.profile := rfl
@[simp] theorem State.raiseClamp_measured (s : State) (l : LaneId) (k : ClampKind) (sat : Bool) : (s.raiseClamp l k sat).measured = s.measured := rfl
@[simp] theorem State.raiseClamp_chan (s : State) (l : LaneId) (k : ClampKind) (sat : Bool) (ch : ChanId) : (s.raiseClamp l k sat).chan ch = s.chan ch := rfl
@[simp] theorem State.raiseClamp_position (s : State) (l : LaneId) (k : ClampKind) (sat : Bool) (sd : Side) : (s.raiseClamp l k sat).position sd = s.position sd := rfl
@[simp] theorem State.raiseClamp_armHomed (s : State) (l : LaneId) (k : ClampKind) (sat : Bool) (sd : Side) : (s.raiseClamp l k sat).armHomed sd = s.armHomed sd := rfl
@[simp] theorem State.raiseClamp_arm (s : State) (l : LaneId) (k : ClampKind) (sat : Bool) (sd : Side) : (s.raiseClamp l k sat).arm sd = s.arm sd := rfl
@[simp] theorem State.pickupLanesOff_rstnHeld (s : State) : (s.pickupLanesOff).rstnHeld = s.rstnHeld := by simp [State.pickupLanesOff]
@[simp] theorem State.pickupLanesOff_stopin (s : State) : (s.pickupLanesOff).stopin = s.stopin := by simp [State.pickupLanesOff]
@[simp] theorem State.pickupLanesOff_ctu (s : State) : (s.pickupLanesOff).ctu = s.ctu := by simp [State.pickupLanesOff]
@[simp] theorem State.pickupLanesOff_pft (s : State) : (s.pickupLanesOff).pft = s.pft := by simp [State.pickupLanesOff]
@[simp] theorem State.pickupLanesOff_tgv (s : State) : (s.pickupLanesOff).tgv = s.tgv := by simp [State.pickupLanesOff]
@[simp] theorem State.pickupLanesOff_arc (s : State) : (s.pickupLanesOff).arc = s.arc := by simp [State.pickupLanesOff]
@[simp] theorem State.pickupLanesOff_clt (s : State) : (s.pickupLanesOff).clt = s.clt := by simp [State.pickupLanesOff]
@[simp] theorem State.pickupLanesOff_spc (s : State) : (s.pickupLanesOff).spc = s.spc := by simp [State.pickupLanesOff]
@[simp] theorem State.pickupLanesOff_sge (s : State) : (s.pickupLanesOff).sge = s.sge := by simp [State.pickupLanesOff]
@[simp] theorem State.pickupLanesOff_cfs (s : State) : (s.pickupLanesOff).cfs = s.cfs := by simp [State.pickupLanesOff]
@[simp] theorem State.pickupLanesOff_raceCount (s : State) : (s.pickupLanesOff).raceCount = s.raceCount := by simp [State.pickupLanesOff]
@[simp] theorem State.pickupLanesOff_pending (s : State) : (s.pickupLanesOff).pending = s.pending := by simp [State.pickupLanesOff]
@[simp] theorem State.pickupLanesOff_params (s : State) : (s.pickupLanesOff).params = s.params := by simp [State.pickupLanesOff, State.params]
@[simp] theorem State.pickupLanesOff_profile (s : State) : (s.pickupLanesOff).profile = s.profile := by simp [State.pickupLanesOff, State.profile]
@[simp] theorem State.pickupLanesOff_measured (s : State) : (s.pickupLanesOff).measured = s.measured := by simp [State.pickupLanesOff, State.measured]
@[simp] theorem State.pickupLanesOff_chan (s : State) (ch : ChanId) : (s.pickupLanesOff).chan ch = s.chan ch := by simp [State.pickupLanesOff, State.chan]
@[simp] theorem State.pickupLanesOff_position (s : State) (sd : Side) : (s.pickupLanesOff).position sd = s.position sd := by simp [State.pickupLanesOff, State.position, State.chan]
@[simp] theorem State.pickupLanesOff_armHomed (s : State) (sd : Side) : (s.pickupLanesOff).armHomed sd = s.armHomed sd := by simp [State.pickupLanesOff, State.armHomed, State.chan]
@[simp] theorem State.pickupLanesOff_arm (s : State) (sd : Side) : (s.pickupLanesOff).arm sd = s.arm sd := by simp [State.pickupLanesOff, State.arm]
@[simp] theorem State.rearm_rstnHeld (s : State) : (s.rearm).rstnHeld = s.rstnHeld := rfl
@[simp] theorem State.rearm_stopin (s : State) : (s.rearm).stopin = s.stopin := rfl
@[simp] theorem State.rearm_ctu (s : State) : (s.rearm).ctu = s.ctu := rfl
@[simp] theorem State.rearm_pba (s : State) : (s.rearm).pba = s.pba := rfl
@[simp] theorem State.rearm_pft (s : State) : (s.rearm).pft = s.pft := rfl
@[simp] theorem State.rearm_arc (s : State) : (s.rearm).arc = s.arc := rfl
@[simp] theorem State.rearm_clt (s : State) : (s.rearm).clt = s.clt := rfl
@[simp] theorem State.rearm_spc (s : State) : (s.rearm).spc = s.spc := rfl
@[simp] theorem State.rearm_sge (s : State) : (s.rearm).sge = s.sge := rfl
@[simp] theorem State.rearm_ports (s : State) : (s.rearm).ports = s.ports := rfl
@[simp] theorem State.rearm_cfs (s : State) : (s.rearm).cfs = s.cfs := rfl
@[simp] theorem State.rearm_raceCount (s : State) : (s.rearm).raceCount = s.raceCount := rfl
@[simp] theorem State.rearm_pending (s : State) : (s.rearm).pending = s.pending := rfl
@[simp] theorem State.rearm_params (s : State) : (s.rearm).params = s.params := rfl
@[simp] theorem State.rearm_profile (s : State) : (s.rearm).profile = s.profile := rfl
@[simp] theorem State.rearm_measured (s : State) : (s.rearm).measured = s.measured := rfl
@[simp] theorem State.rearm_chan (s : State) (ch : ChanId) : (s.rearm).chan ch = s.chan ch := rfl
@[simp] theorem State.rearm_position (s : State) (sd : Side) : (s.rearm).position sd = s.position sd := rfl
@[simp] theorem State.rearm_armHomed (s : State) (sd : Side) : (s.rearm).armHomed sd = s.armHomed sd := rfl
@[simp] theorem State.rearm_arm (s : State) (sd : Side) : (s.rearm).arm sd = s.arm sd := rfl
@[simp] theorem State.rearm_port (s : State) (q : PortId) : (s.rearm).port q = s.port q := rfl

/-! ## The Spray Controller's updates -/

@[simp] theorem State.evalTerms_rstnHeld (s : State) : (s.evalTerms).rstnHeld = s.rstnHeld := rfl
@[simp] theorem State.evalTerms_stopin (s : State) : (s.evalTerms).stopin = s.stopin := rfl
@[simp] theorem State.evalTerms_ctu (s : State) : (s.evalTerms).ctu = s.ctu := rfl
@[simp] theorem State.evalTerms_pba (s : State) : (s.evalTerms).pba = s.pba := rfl
@[simp] theorem State.evalTerms_pft (s : State) : (s.evalTerms).pft = s.pft := rfl
@[simp] theorem State.evalTerms_tgv (s : State) : (s.evalTerms).tgv = s.tgv := rfl
@[simp] theorem State.evalTerms_arc (s : State) : (s.evalTerms).arc = s.arc := rfl
@[simp] theorem State.evalTerms_clt (s : State) : (s.evalTerms).clt = s.clt := rfl
@[simp] theorem State.evalTerms_sge (s : State) : (s.evalTerms).sge = s.sge := rfl
@[simp] theorem State.evalTerms_cfs (s : State) : (s.evalTerms).cfs = s.cfs := rfl
@[simp] theorem State.evalTerms_raceCount (s : State) : (s.evalTerms).raceCount = s.raceCount := rfl
@[simp] theorem State.evalTerms_pending (s : State) : (s.evalTerms).pending = s.pending := rfl
@[simp] theorem State.evalTerms_params (s : State) : (s.evalTerms).params = s.params := rfl
@[simp] theorem State.evalTerms_profile (s : State) : (s.evalTerms).profile = s.profile := rfl
@[simp] theorem State.evalTerms_measured (s : State) : (s.evalTerms).measured = s.measured := rfl
@[simp] theorem State.evalTerms_chan (s : State) (ch : ChanId) : (s.evalTerms).chan ch = s.chan ch := rfl
@[simp] theorem State.evalTerms_position (s : State) (sd : Side) : (s.evalTerms).position sd = s.position sd := rfl
@[simp] theorem State.evalTerms_armHomed (s : State) (sd : Side) : (s.evalTerms).armHomed sd = s.armHomed sd := rfl
@[simp] theorem State.evalTerms_arm (s : State) (sd : Side) : (s.evalTerms).arm sd = s.arm sd := rfl
@[simp] theorem State.closeWhere_rstnHeld (s : State) (p : BankId → Bank → Bool) : (s.closeWhere p).rstnHeld = s.rstnHeld := rfl
@[simp] theorem State.closeWhere_stopin (s : State) (p : BankId → Bank → Bool) : (s.closeWhere p).stopin = s.stopin := rfl
@[simp] theorem State.closeWhere_ctu (s : State) (p : BankId → Bank → Bool) : (s.closeWhere p).ctu = s.ctu := rfl
@[simp] theorem State.closeWhere_pba (s : State) (p : BankId → Bank → Bool) : (s.closeWhere p).pba = s.pba := rfl
@[simp] theorem State.closeWhere_pft (s : State) (p : BankId → Bank → Bool) : (s.closeWhere p).pft = s.pft := rfl
@[simp] theorem State.closeWhere_tgv (s : State) (p : BankId → Bank → Bool) : (s.closeWhere p).tgv = s.tgv := rfl
@[simp] theorem State.closeWhere_arc (s : State) (p : BankId → Bank → Bool) : (s.closeWhere p).arc = s.arc := rfl
@[simp] theorem State.closeWhere_clt (s : State) (p : BankId → Bank → Bool) : (s.closeWhere p).clt = s.clt := rfl
@[simp] theorem State.closeWhere_cfs (s : State) (p : BankId → Bank → Bool) : (s.closeWhere p).cfs = s.cfs := rfl
@[simp] theorem State.closeWhere_raceCount (s : State) (p : BankId → Bank → Bool) : (s.closeWhere p).raceCount = s.raceCount := rfl
@[simp] theorem State.closeWhere_pending (s : State) (p : BankId → Bank → Bool) : (s.closeWhere p).pending = s.pending := rfl
@[simp] theorem State.closeWhere_params (s : State) (p : BankId → Bank → Bool) : (s.closeWhere p).params = s.params := rfl
@[simp] theorem State.closeWhere_profile (s : State) (p : BankId → Bank → Bool) : (s.closeWhere p).profile = s.profile := rfl
@[simp] theorem State.closeWhere_measured (s : State) (p : BankId → Bank → Bool) : (s.closeWhere p).measured = s.measured := rfl
@[simp] theorem State.closeWhere_chan (s : State) (p : BankId → Bank → Bool) (ch : ChanId) : (s.closeWhere p).chan ch = s.chan ch := rfl
@[simp] theorem State.closeWhere_position (s : State) (p : BankId → Bank → Bool) (sd : Side) : (s.closeWhere p).position sd = s.position sd := rfl
@[simp] theorem State.closeWhere_armHomed (s : State) (p : BankId → Bank → Bool) (sd : Side) : (s.closeWhere p).armHomed sd = s.armHomed sd := rfl
@[simp] theorem State.closeWhere_arm (s : State) (p : BankId → Bank → Bool) (sd : Side) : (s.closeWhere p).arm sd = s.arm sd := rfl
@[simp] theorem State.settleBanks_rstnHeld (s : State) : (s.settleBanks).rstnHeld = s.rstnHeld := by simp [State.settleBanks]
@[simp] theorem State.settleBanks_stopin (s : State) : (s.settleBanks).stopin = s.stopin := by simp [State.settleBanks]
@[simp] theorem State.settleBanks_ctu (s : State) : (s.settleBanks).ctu = s.ctu := by simp [State.settleBanks]
@[simp] theorem State.settleBanks_pba (s : State) : (s.settleBanks).pba = s.pba := by simp [State.settleBanks]
@[simp] theorem State.settleBanks_pft (s : State) : (s.settleBanks).pft = s.pft := by simp [State.settleBanks]
@[simp] theorem State.settleBanks_tgv (s : State) : (s.settleBanks).tgv = s.tgv := by simp [State.settleBanks]
@[simp] theorem State.settleBanks_arc (s : State) : (s.settleBanks).arc = s.arc := by simp [State.settleBanks]
@[simp] theorem State.settleBanks_clt (s : State) : (s.settleBanks).clt = s.clt := by simp [State.settleBanks]
@[simp] theorem State.settleBanks_cfs (s : State) : (s.settleBanks).cfs = s.cfs := by simp [State.settleBanks]
@[simp] theorem State.settleBanks_raceCount (s : State) : (s.settleBanks).raceCount = s.raceCount := by simp [State.settleBanks]
@[simp] theorem State.settleBanks_pending (s : State) : (s.settleBanks).pending = s.pending := by simp [State.settleBanks]
@[simp] theorem State.settleBanks_params (s : State) : (s.settleBanks).params = s.params := by simp [State.settleBanks, State.params]
@[simp] theorem State.settleBanks_profile (s : State) : (s.settleBanks).profile = s.profile := by simp [State.settleBanks, State.profile]
@[simp] theorem State.settleBanks_measured (s : State) : (s.settleBanks).measured = s.measured := by simp [State.settleBanks, State.measured]
@[simp] theorem State.settleBanks_chan (s : State) (ch : ChanId) : (s.settleBanks).chan ch = s.chan ch := by simp [State.settleBanks, State.chan]
@[simp] theorem State.settleBanks_position (s : State) (sd : Side) : (s.settleBanks).position sd = s.position sd := by simp [State.settleBanks, State.position, State.chan]
@[simp] theorem State.settleBanks_armHomed (s : State) (sd : Side) : (s.settleBanks).armHomed sd = s.armHomed sd := by simp [State.settleBanks, State.armHomed, State.chan]
@[simp] theorem State.settleBanks_arm (s : State) (sd : Side) : (s.settleBanks).arm sd = s.arm sd := by simp [State.settleBanks, State.arm]
@[simp] theorem State.setPump_rstnHeld (s : State) : (s.setPump).rstnHeld = s.rstnHeld := rfl
@[simp] theorem State.setPump_stopin (s : State) : (s.setPump).stopin = s.stopin := rfl
@[simp] theorem State.setPump_ctu (s : State) : (s.setPump).ctu = s.ctu := rfl
@[simp] theorem State.setPump_pft (s : State) : (s.setPump).pft = s.pft := rfl
@[simp] theorem State.setPump_tgv (s : State) : (s.setPump).tgv = s.tgv := rfl
@[simp] theorem State.setPump_arc (s : State) : (s.setPump).arc = s.arc := rfl
@[simp] theorem State.setPump_clt (s : State) : (s.setPump).clt = s.clt := rfl
@[simp] theorem State.setPump_sge (s : State) : (s.setPump).sge = s.sge := rfl
@[simp] theorem State.setPump_cfs (s : State) : (s.setPump).cfs = s.cfs := rfl
@[simp] theorem State.setPump_raceCount (s : State) : (s.setPump).raceCount = s.raceCount := rfl
@[simp] theorem State.setPump_pending (s : State) : (s.setPump).pending = s.pending := rfl
@[simp] theorem State.setPump_params (s : State) : (s.setPump).params = s.params := rfl
@[simp] theorem State.setPump_profile (s : State) : (s.setPump).profile = s.profile := rfl
@[simp] theorem State.setPump_measured (s : State) : (s.setPump).measured = s.measured := rfl
@[simp] theorem State.setPump_chan (s : State) (ch : ChanId) : (s.setPump).chan ch = s.chan ch := rfl
@[simp] theorem State.setPump_position (s : State) (sd : Side) : (s.setPump).position sd = s.position sd := rfl
@[simp] theorem State.setPump_armHomed (s : State) (sd : Side) : (s.setPump).armHomed sd = s.armHomed sd := rfl
@[simp] theorem State.setPump_arm (s : State) (sd : Side) : (s.setPump).arm sd = s.arm sd := rfl
@[simp] theorem State.profilePublished_rstnHeld (s : State) : (s.profilePublished).rstnHeld = s.rstnHeld := rfl
@[simp] theorem State.profilePublished_stopin (s : State) : (s.profilePublished).stopin = s.stopin := rfl
@[simp] theorem State.profilePublished_ctu (s : State) : (s.profilePublished).ctu = s.ctu := rfl
@[simp] theorem State.profilePublished_pba (s : State) : (s.profilePublished).pba = s.pba := rfl
@[simp] theorem State.profilePublished_pft (s : State) : (s.profilePublished).pft = s.pft := rfl
@[simp] theorem State.profilePublished_tgv (s : State) : (s.profilePublished).tgv = s.tgv := rfl
@[simp] theorem State.profilePublished_arc (s : State) : (s.profilePublished).arc = s.arc := rfl
@[simp] theorem State.profilePublished_clt (s : State) : (s.profilePublished).clt = s.clt := rfl
@[simp] theorem State.profilePublished_sge (s : State) : (s.profilePublished).sge = s.sge := rfl
@[simp] theorem State.profilePublished_cfs (s : State) : (s.profilePublished).cfs = s.cfs := rfl
@[simp] theorem State.profilePublished_raceCount (s : State) : (s.profilePublished).raceCount = s.raceCount := rfl
@[simp] theorem State.profilePublished_pending (s : State) : (s.profilePublished).pending = s.pending := rfl
@[simp] theorem State.profilePublished_params (s : State) : (s.profilePublished).params = s.params := rfl
@[simp] theorem State.profilePublished_profile (s : State) : (s.profilePublished).profile = s.profile := rfl
@[simp] theorem State.profilePublished_measured (s : State) : (s.profilePublished).measured = s.measured := rfl
@[simp] theorem State.profilePublished_chan (s : State) (ch : ChanId) : (s.profilePublished).chan ch = s.chan ch := rfl
@[simp] theorem State.profilePublished_position (s : State) (sd : Side) : (s.profilePublished).position sd = s.position sd := rfl
@[simp] theorem State.profilePublished_armHomed (s : State) (sd : Side) : (s.profilePublished).armHomed sd = s.armHomed sd := rfl
@[simp] theorem State.profilePublished_arm (s : State) (sd : Side) : (s.profilePublished).arm sd = s.arm sd := rfl
@[simp] theorem State.distanceMark_rstnHeld (s : State) : (s.distanceMark).rstnHeld = s.rstnHeld := rfl
@[simp] theorem State.distanceMark_stopin (s : State) : (s.distanceMark).stopin = s.stopin := rfl
@[simp] theorem State.distanceMark_ctu (s : State) : (s.distanceMark).ctu = s.ctu := rfl
@[simp] theorem State.distanceMark_pba (s : State) : (s.distanceMark).pba = s.pba := rfl
@[simp] theorem State.distanceMark_pft (s : State) : (s.distanceMark).pft = s.pft := rfl
@[simp] theorem State.distanceMark_tgv (s : State) : (s.distanceMark).tgv = s.tgv := rfl
@[simp] theorem State.distanceMark_arc (s : State) : (s.distanceMark).arc = s.arc := rfl
@[simp] theorem State.distanceMark_clt (s : State) : (s.distanceMark).clt = s.clt := rfl
@[simp] theorem State.distanceMark_cfs (s : State) : (s.distanceMark).cfs = s.cfs := rfl
@[simp] theorem State.distanceMark_raceCount (s : State) : (s.distanceMark).raceCount = s.raceCount := rfl
@[simp] theorem State.distanceMark_pending (s : State) : (s.distanceMark).pending = s.pending := rfl
@[simp] theorem State.distanceMark_params (s : State) : (s.distanceMark).params = s.params := rfl
@[simp] theorem State.distanceMark_profile (s : State) : (s.distanceMark).profile = s.profile := rfl
@[simp] theorem State.distanceMark_measured (s : State) : (s.distanceMark).measured = s.measured := rfl
@[simp] theorem State.distanceMark_chan (s : State) (ch : ChanId) : (s.distanceMark).chan ch = s.chan ch := rfl
@[simp] theorem State.distanceMark_position (s : State) (sd : Side) : (s.distanceMark).position sd = s.position sd := rfl
@[simp] theorem State.distanceMark_armHomed (s : State) (sd : Side) : (s.distanceMark).armHomed sd = s.armHomed sd := rfl
@[simp] theorem State.distanceMark_arm (s : State) (sd : Side) : (s.distanceMark).arm sd = s.arm sd := rfl
@[simp] theorem State.spraySegmentStart_rstnHeld (s : State) : (s.spraySegmentStart).rstnHeld = s.rstnHeld := rfl
@[simp] theorem State.spraySegmentStart_stopin (s : State) : (s.spraySegmentStart).stopin = s.stopin := rfl
@[simp] theorem State.spraySegmentStart_ctu (s : State) : (s.spraySegmentStart).ctu = s.ctu := rfl
@[simp] theorem State.spraySegmentStart_pba (s : State) : (s.spraySegmentStart).pba = s.pba := rfl
@[simp] theorem State.spraySegmentStart_pft (s : State) : (s.spraySegmentStart).pft = s.pft := rfl
@[simp] theorem State.spraySegmentStart_tgv (s : State) : (s.spraySegmentStart).tgv = s.tgv := rfl
@[simp] theorem State.spraySegmentStart_arc (s : State) : (s.spraySegmentStart).arc = s.arc := rfl
@[simp] theorem State.spraySegmentStart_clt (s : State) : (s.spraySegmentStart).clt = s.clt := rfl
@[simp] theorem State.spraySegmentStart_sge (s : State) : (s.spraySegmentStart).sge = s.sge := rfl
@[simp] theorem State.spraySegmentStart_ports (s : State) : (s.spraySegmentStart).ports = s.ports := rfl
@[simp] theorem State.spraySegmentStart_cfs (s : State) : (s.spraySegmentStart).cfs = s.cfs := rfl
@[simp] theorem State.spraySegmentStart_raceCount (s : State) : (s.spraySegmentStart).raceCount = s.raceCount := rfl
@[simp] theorem State.spraySegmentStart_pending (s : State) : (s.spraySegmentStart).pending = s.pending := rfl
@[simp] theorem State.spraySegmentStart_params (s : State) : (s.spraySegmentStart).params = s.params := rfl
@[simp] theorem State.spraySegmentStart_profile (s : State) : (s.spraySegmentStart).profile = s.profile := rfl
@[simp] theorem State.spraySegmentStart_measured (s : State) : (s.spraySegmentStart).measured = s.measured := rfl
@[simp] theorem State.spraySegmentStart_chan (s : State) (ch : ChanId) : (s.spraySegmentStart).chan ch = s.chan ch := rfl
@[simp] theorem State.spraySegmentStart_position (s : State) (sd : Side) : (s.spraySegmentStart).position sd = s.position sd := rfl
@[simp] theorem State.spraySegmentStart_armHomed (s : State) (sd : Side) : (s.spraySegmentStart).armHomed sd = s.armHomed sd := rfl
@[simp] theorem State.spraySegmentStart_arm (s : State) (sd : Side) : (s.spraySegmentStart).arm sd = s.arm sd := rfl
@[simp] theorem State.spraySegmentStart_port (s : State) (q : PortId) : (s.spraySegmentStart).port q = s.port q := rfl

/-! ## The allocator's and the arm update's stages -/

@[simp] theorem State.publishGrants_rstnHeld (s : State) : (s.publishGrants).rstnHeld = s.rstnHeld := rfl
@[simp] theorem State.publishGrants_stopin (s : State) : (s.publishGrants).stopin = s.stopin := rfl
@[simp] theorem State.publishGrants_ctu (s : State) : (s.publishGrants).ctu = s.ctu := rfl
@[simp] theorem State.publishGrants_pft (s : State) : (s.publishGrants).pft = s.pft := rfl
@[simp] theorem State.publishGrants_tgv (s : State) : (s.publishGrants).tgv = s.tgv := rfl
@[simp] theorem State.publishGrants_arc (s : State) : (s.publishGrants).arc = s.arc := rfl
@[simp] theorem State.publishGrants_clt (s : State) : (s.publishGrants).clt = s.clt := rfl
@[simp] theorem State.publishGrants_spc (s : State) : (s.publishGrants).spc = s.spc := rfl
@[simp] theorem State.publishGrants_cfs (s : State) : (s.publishGrants).cfs = s.cfs := rfl
@[simp] theorem State.publishGrants_raceCount (s : State) : (s.publishGrants).raceCount = s.raceCount := rfl
@[simp] theorem State.publishGrants_pending (s : State) : (s.publishGrants).pending = s.pending := rfl
@[simp] theorem State.publishGrants_params (s : State) : (s.publishGrants).params = s.params := rfl
@[simp] theorem State.publishGrants_profile (s : State) : (s.publishGrants).profile = s.profile := rfl
@[simp] theorem State.publishGrants_measured (s : State) : (s.publishGrants).measured = s.measured := rfl
@[simp] theorem State.publishGrants_chan (s : State) (ch : ChanId) : (s.publishGrants).chan ch = s.chan ch := rfl
@[simp] theorem State.publishGrants_position (s : State) (sd : Side) : (s.publishGrants).position sd = s.position sd := rfl
@[simp] theorem State.publishGrants_armHomed (s : State) (sd : Side) : (s.publishGrants).armHomed sd = s.armHomed sd := rfl
@[simp] theorem State.publishGrants_arm (s : State) (sd : Side) : (s.publishGrants).arm sd = s.arm sd := rfl
@[simp] theorem State.arcOnGrants_rstnHeld (s : State) : (s.arcOnGrants).rstnHeld = s.rstnHeld := rfl
@[simp] theorem State.arcOnGrants_stopin (s : State) : (s.arcOnGrants).stopin = s.stopin := rfl
@[simp] theorem State.arcOnGrants_ctu (s : State) : (s.arcOnGrants).ctu = s.ctu := rfl
@[simp] theorem State.arcOnGrants_pba (s : State) : (s.arcOnGrants).pba = s.pba := rfl
@[simp] theorem State.arcOnGrants_pft (s : State) : (s.arcOnGrants).pft = s.pft := rfl
@[simp] theorem State.arcOnGrants_tgv (s : State) : (s.arcOnGrants).tgv = s.tgv := rfl
@[simp] theorem State.arcOnGrants_clt (s : State) : (s.arcOnGrants).clt = s.clt := rfl
@[simp] theorem State.arcOnGrants_spc (s : State) : (s.arcOnGrants).spc = s.spc := rfl
@[simp] theorem State.arcOnGrants_sge (s : State) : (s.arcOnGrants).sge = s.sge := rfl
@[simp] theorem State.arcOnGrants_ports (s : State) : (s.arcOnGrants).ports = s.ports := rfl
@[simp] theorem State.arcOnGrants_cfs (s : State) : (s.arcOnGrants).cfs = s.cfs := rfl
@[simp] theorem State.arcOnGrants_raceCount (s : State) : (s.arcOnGrants).raceCount = s.raceCount := rfl
@[simp] theorem State.arcOnGrants_pending (s : State) : (s.arcOnGrants).pending = s.pending := rfl
@[simp] theorem State.arcOnGrants_params (s : State) : (s.arcOnGrants).params = s.params := rfl
@[simp] theorem State.arcOnGrants_profile (s : State) : (s.arcOnGrants).profile = s.profile := rfl
@[simp] theorem State.arcOnGrants_measured (s : State) : (s.arcOnGrants).measured = s.measured := rfl
@[simp] theorem State.arcOnGrants_chan (s : State) (ch : ChanId) : (s.arcOnGrants).chan ch = s.chan ch := rfl
@[simp] theorem State.arcOnGrants_position (s : State) (sd : Side) : (s.arcOnGrants).position sd = s.position sd := rfl
@[simp] theorem State.arcOnGrants_armHomed (s : State) (sd : Side) : (s.arcOnGrants).armHomed sd = s.armHomed sd := rfl
@[simp] theorem State.arcOnGrants_port (s : State) (q : PortId) : (s.arcOnGrants).port q = s.port q := rfl
@[simp] theorem State.slewArm_rstnHeld (s : State) (side : Side) : (s.slewArm side).rstnHeld = s.rstnHeld := rfl
@[simp] theorem State.slewArm_stopin (s : State) (side : Side) : (s.slewArm side).stopin = s.stopin := rfl
@[simp] theorem State.slewArm_ctu (s : State) (side : Side) : (s.slewArm side).ctu = s.ctu := rfl
@[simp] theorem State.slewArm_pba (s : State) (side : Side) : (s.slewArm side).pba = s.pba := rfl
@[simp] theorem State.slewArm_pft (s : State) (side : Side) : (s.slewArm side).pft = s.pft := rfl
@[simp] theorem State.slewArm_tgv (s : State) (side : Side) : (s.slewArm side).tgv = s.tgv := rfl
@[simp] theorem State.slewArm_clt (s : State) (side : Side) : (s.slewArm side).clt = s.clt := rfl
@[simp] theorem State.slewArm_spc (s : State) (side : Side) : (s.slewArm side).spc = s.spc := rfl
@[simp] theorem State.slewArm_sge (s : State) (side : Side) : (s.slewArm side).sge = s.sge := rfl
@[simp] theorem State.slewArm_ports (s : State) (side : Side) : (s.slewArm side).ports = s.ports := rfl
@[simp] theorem State.slewArm_cfs (s : State) (side : Side) : (s.slewArm side).cfs = s.cfs := rfl
@[simp] theorem State.slewArm_raceCount (s : State) (side : Side) : (s.slewArm side).raceCount = s.raceCount := rfl
@[simp] theorem State.slewArm_pending (s : State) (side : Side) : (s.slewArm side).pending = s.pending := rfl
@[simp] theorem State.slewArm_params (s : State) (side : Side) : (s.slewArm side).params = s.params := rfl
@[simp] theorem State.slewArm_profile (s : State) (side : Side) : (s.slewArm side).profile = s.profile := rfl
@[simp] theorem State.slewArm_measured (s : State) (side : Side) : (s.slewArm side).measured = s.measured := rfl
@[simp] theorem State.slewArm_chan (s : State) (side : Side) (ch : ChanId) : (s.slewArm side).chan ch = s.chan ch := rfl
@[simp] theorem State.slewArm_position (s : State) (side : Side) (sd : Side) : (s.slewArm side).position sd = s.position sd := rfl
@[simp] theorem State.slewArm_armHomed (s : State) (side : Side) (sd : Side) : (s.slewArm side).armHomed sd = s.armHomed sd := rfl
@[simp] theorem State.slewArm_port (s : State) (side : Side) (q : PortId) : (s.slewArm side).port q = s.port q := rfl
@[simp] theorem State.brushArm_rstnHeld (s : State) (side : Side) : (s.brushArm side).rstnHeld = s.rstnHeld := rfl
@[simp] theorem State.brushArm_stopin (s : State) (side : Side) : (s.brushArm side).stopin = s.stopin := rfl
@[simp] theorem State.brushArm_ctu (s : State) (side : Side) : (s.brushArm side).ctu = s.ctu := rfl
@[simp] theorem State.brushArm_pft (s : State) (side : Side) : (s.brushArm side).pft = s.pft := rfl
@[simp] theorem State.brushArm_tgv (s : State) (side : Side) : (s.brushArm side).tgv = s.tgv := rfl
@[simp] theorem State.brushArm_clt (s : State) (side : Side) : (s.brushArm side).clt = s.clt := rfl
@[simp] theorem State.brushArm_spc (s : State) (side : Side) : (s.brushArm side).spc = s.spc := rfl
@[simp] theorem State.brushArm_sge (s : State) (side : Side) : (s.brushArm side).sge = s.sge := rfl
@[simp] theorem State.brushArm_cfs (s : State) (side : Side) : (s.brushArm side).cfs = s.cfs := rfl
@[simp] theorem State.brushArm_raceCount (s : State) (side : Side) : (s.brushArm side).raceCount = s.raceCount := rfl
@[simp] theorem State.brushArm_pending (s : State) (side : Side) : (s.brushArm side).pending = s.pending := rfl
@[simp] theorem State.brushArm_params (s : State) (side : Side) : (s.brushArm side).params = s.params := rfl
@[simp] theorem State.brushArm_profile (s : State) (side : Side) : (s.brushArm side).profile = s.profile := rfl
@[simp] theorem State.brushArm_measured (s : State) (side : Side) : (s.brushArm side).measured = s.measured := rfl
@[simp] theorem State.brushArm_chan (s : State) (side : Side) (ch : ChanId) : (s.brushArm side).chan ch = s.chan ch := rfl
@[simp] theorem State.brushArm_position (s : State) (side : Side) (sd : Side) : (s.brushArm side).position sd = s.position sd := rfl
@[simp] theorem State.brushArm_armHomed (s : State) (side : Side) (sd : Side) : (s.brushArm side).armHomed sd = s.armHomed sd := rfl
@[simp] theorem State.brushMain_rstnHeld (s : State) : (s.brushMain).rstnHeld = s.rstnHeld := rfl
@[simp] theorem State.brushMain_stopin (s : State) : (s.brushMain).stopin = s.stopin := rfl
@[simp] theorem State.brushMain_ctu (s : State) : (s.brushMain).ctu = s.ctu := rfl
@[simp] theorem State.brushMain_pft (s : State) : (s.brushMain).pft = s.pft := rfl
@[simp] theorem State.brushMain_tgv (s : State) : (s.brushMain).tgv = s.tgv := rfl
@[simp] theorem State.brushMain_clt (s : State) : (s.brushMain).clt = s.clt := rfl
@[simp] theorem State.brushMain_spc (s : State) : (s.brushMain).spc = s.spc := rfl
@[simp] theorem State.brushMain_sge (s : State) : (s.brushMain).sge = s.sge := rfl
@[simp] theorem State.brushMain_cfs (s : State) : (s.brushMain).cfs = s.cfs := rfl
@[simp] theorem State.brushMain_raceCount (s : State) : (s.brushMain).raceCount = s.raceCount := rfl
@[simp] theorem State.brushMain_pending (s : State) : (s.brushMain).pending = s.pending := rfl
@[simp] theorem State.brushMain_params (s : State) : (s.brushMain).params = s.params := rfl
@[simp] theorem State.brushMain_profile (s : State) : (s.brushMain).profile = s.profile := rfl
@[simp] theorem State.brushMain_measured (s : State) : (s.brushMain).measured = s.measured := rfl
@[simp] theorem State.brushMain_chan (s : State) (ch : ChanId) : (s.brushMain).chan ch = s.chan ch := rfl
@[simp] theorem State.brushMain_position (s : State) (sd : Side) : (s.brushMain).position sd = s.position sd := rfl
@[simp] theorem State.brushMain_armHomed (s : State) (sd : Side) : (s.brushMain).armHomed sd = s.armHomed sd := rfl
@[simp] theorem State.brushFan_rstnHeld (s : State) : (s.brushFan).rstnHeld = s.rstnHeld := rfl
@[simp] theorem State.brushFan_stopin (s : State) : (s.brushFan).stopin = s.stopin := rfl
@[simp] theorem State.brushFan_ctu (s : State) : (s.brushFan).ctu = s.ctu := rfl
@[simp] theorem State.brushFan_pft (s : State) : (s.brushFan).pft = s.pft := rfl
@[simp] theorem State.brushFan_tgv (s : State) : (s.brushFan).tgv = s.tgv := rfl
@[simp] theorem State.brushFan_clt (s : State) : (s.brushFan).clt = s.clt := rfl
@[simp] theorem State.brushFan_spc (s : State) : (s.brushFan).spc = s.spc := rfl
@[simp] theorem State.brushFan_sge (s : State) : (s.brushFan).sge = s.sge := rfl
@[simp] theorem State.brushFan_cfs (s : State) : (s.brushFan).cfs = s.cfs := rfl
@[simp] theorem State.brushFan_raceCount (s : State) : (s.brushFan).raceCount = s.raceCount := rfl
@[simp] theorem State.brushFan_pending (s : State) : (s.brushFan).pending = s.pending := rfl
@[simp] theorem State.brushFan_params (s : State) : (s.brushFan).params = s.params := rfl
@[simp] theorem State.brushFan_profile (s : State) : (s.brushFan).profile = s.profile := rfl
@[simp] theorem State.brushFan_measured (s : State) : (s.brushFan).measured = s.measured := rfl
@[simp] theorem State.brushFan_chan (s : State) (ch : ChanId) : (s.brushFan).chan ch = s.chan ch := rfl
@[simp] theorem State.brushFan_position (s : State) (sd : Side) : (s.brushFan).position sd = s.position sd := rfl
@[simp] theorem State.brushFan_armHomed (s : State) (sd : Side) : (s.brushFan).armHomed sd = s.armHomed sd := rfl
@[simp] theorem State.stallEvent_rstnHeld (s : State) : (s.stallEvent).rstnHeld = s.rstnHeld := rfl
@[simp] theorem State.stallEvent_stopin (s : State) : (s.stallEvent).stopin = s.stopin := rfl
@[simp] theorem State.stallEvent_ctu (s : State) : (s.stallEvent).ctu = s.ctu := rfl
@[simp] theorem State.stallEvent_pba (s : State) : (s.stallEvent).pba = s.pba := rfl
@[simp] theorem State.stallEvent_pft (s : State) : (s.stallEvent).pft = s.pft := rfl
@[simp] theorem State.stallEvent_tgv (s : State) : (s.stallEvent).tgv = s.tgv := rfl
@[simp] theorem State.stallEvent_arc (s : State) : (s.stallEvent).arc = s.arc := rfl
@[simp] theorem State.stallEvent_clt (s : State) : (s.stallEvent).clt = s.clt := rfl
@[simp] theorem State.stallEvent_spc (s : State) : (s.stallEvent).spc = s.spc := rfl
@[simp] theorem State.stallEvent_cfs (s : State) : (s.stallEvent).cfs = s.cfs := rfl
@[simp] theorem State.stallEvent_raceCount (s : State) : (s.stallEvent).raceCount = s.raceCount := rfl
@[simp] theorem State.stallEvent_pending (s : State) : (s.stallEvent).pending = s.pending := rfl
@[simp] theorem State.stallEvent_params (s : State) : (s.stallEvent).params = s.params := rfl
@[simp] theorem State.stallEvent_profile (s : State) : (s.stallEvent).profile = s.profile := rfl
@[simp] theorem State.stallEvent_measured (s : State) : (s.stallEvent).measured = s.measured := rfl
@[simp] theorem State.stallEvent_chan (s : State) (ch : ChanId) : (s.stallEvent).chan ch = s.chan ch := rfl
@[simp] theorem State.stallEvent_position (s : State) (sd : Side) : (s.stallEvent).position sd = s.position sd := rfl
@[simp] theorem State.stallEvent_armHomed (s : State) (sd : Side) : (s.stallEvent).armHomed sd = s.armHomed sd := rfl
@[simp] theorem State.stallEvent_arm (s : State) (sd : Side) : (s.stallEvent).arm sd = s.arm sd := rfl
@[simp] theorem State.armDrives_rstnHeld (s : State) : (s.armDrives).rstnHeld = s.rstnHeld := by simp [State.armDrives]
@[simp] theorem State.armDrives_stopin (s : State) : (s.armDrives).stopin = s.stopin := by simp [State.armDrives]
@[simp] theorem State.armDrives_ctu (s : State) : (s.armDrives).ctu = s.ctu := by simp [State.armDrives]
@[simp] theorem State.armDrives_pft (s : State) : (s.armDrives).pft = s.pft := by simp [State.armDrives]
@[simp] theorem State.armDrives_tgv (s : State) : (s.armDrives).tgv = s.tgv := by simp [State.armDrives]
@[simp] theorem State.armDrives_clt (s : State) : (s.armDrives).clt = s.clt := by simp [State.armDrives]
@[simp] theorem State.armDrives_spc (s : State) : (s.armDrives).spc = s.spc := by simp [State.armDrives]
@[simp] theorem State.armDrives_sge (s : State) : (s.armDrives).sge = s.sge := by simp [State.armDrives]
@[simp] theorem State.armDrives_cfs (s : State) : (s.armDrives).cfs = s.cfs := by simp [State.armDrives]
@[simp] theorem State.armDrives_raceCount (s : State) : (s.armDrives).raceCount = s.raceCount := by simp [State.armDrives]
@[simp] theorem State.armDrives_pending (s : State) : (s.armDrives).pending = s.pending := by simp [State.armDrives]
@[simp] theorem State.armDrives_params (s : State) : (s.armDrives).params = s.params := by simp [State.armDrives, State.params]
@[simp] theorem State.armDrives_profile (s : State) : (s.armDrives).profile = s.profile := by simp [State.armDrives, State.profile]
@[simp] theorem State.armDrives_measured (s : State) : (s.armDrives).measured = s.measured := by simp [State.armDrives, State.measured]
@[simp] theorem State.armDrives_chan (s : State) (ch : ChanId) : (s.armDrives).chan ch = s.chan ch := by simp [State.armDrives, State.chan]
@[simp] theorem State.armDrives_position (s : State) (sd : Side) : (s.armDrives).position sd = s.position sd := by simp [State.armDrives, State.position, State.chan]
@[simp] theorem State.armDrives_armHomed (s : State) (sd : Side) : (s.armDrives).armHomed sd = s.armHomed sd := by simp [State.armDrives, State.armHomed, State.chan]
@[simp] theorem State.armPublish_rstnHeld (s : State) : (s.armPublish).rstnHeld = s.rstnHeld := by simp [State.armPublish]
@[simp] theorem State.armPublish_stopin (s : State) : (s.armPublish).stopin = s.stopin := by simp [State.armPublish]
@[simp] theorem State.armPublish_ctu (s : State) : (s.armPublish).ctu = s.ctu := by simp [State.armPublish]
@[simp] theorem State.armPublish_pft (s : State) : (s.armPublish).pft = s.pft := by simp [State.armPublish]
@[simp] theorem State.armPublish_tgv (s : State) : (s.armPublish).tgv = s.tgv := by simp [State.armPublish]
@[simp] theorem State.armPublish_clt (s : State) : (s.armPublish).clt = s.clt := by simp [State.armPublish]
@[simp] theorem State.armPublish_spc (s : State) : (s.armPublish).spc = s.spc := by simp [State.armPublish]
@[simp] theorem State.armPublish_sge (s : State) : (s.armPublish).sge = s.sge := by simp [State.armPublish]
@[simp] theorem State.armPublish_cfs (s : State) : (s.armPublish).cfs = s.cfs := by simp [State.armPublish]
@[simp] theorem State.armPublish_raceCount (s : State) : (s.armPublish).raceCount = s.raceCount := by simp [State.armPublish]
@[simp] theorem State.armPublish_pending (s : State) : (s.armPublish).pending = s.pending := by simp [State.armPublish]
@[simp] theorem State.armPublish_params (s : State) : (s.armPublish).params = s.params := by simp [State.armPublish, State.params]
@[simp] theorem State.armPublish_profile (s : State) : (s.armPublish).profile = s.profile := by simp [State.armPublish, State.profile]
@[simp] theorem State.armPublish_measured (s : State) : (s.armPublish).measured = s.measured := by simp [State.armPublish, State.measured]
@[simp] theorem State.armPublish_chan (s : State) (ch : ChanId) : (s.armPublish).chan ch = s.chan ch := by simp [State.armPublish, State.chan]
@[simp] theorem State.armPublish_position (s : State) (sd : Side) : (s.armPublish).position sd = s.position sd := by simp [State.armPublish, State.position, State.chan]
@[simp] theorem State.armPublish_armHomed (s : State) (sd : Side) : (s.armPublish).armHomed sd = s.armHomed sd := by simp [State.armPublish, State.armHomed, State.chan]

/-! ## The engine's updates -/

@[simp] theorem State.startFigures_rstnHeld (s : State) : (s.startFigures).rstnHeld = s.rstnHeld := rfl
@[simp] theorem State.startFigures_stopin (s : State) : (s.startFigures).stopin = s.stopin := rfl
@[simp] theorem State.startFigures_ctu (s : State) : (s.startFigures).ctu = s.ctu := rfl
@[simp] theorem State.startFigures_pba (s : State) : (s.startFigures).pba = s.pba := rfl
@[simp] theorem State.startFigures_pft (s : State) : (s.startFigures).pft = s.pft := rfl
@[simp] theorem State.startFigures_tgv (s : State) : (s.startFigures).tgv = s.tgv := rfl
@[simp] theorem State.startFigures_arc (s : State) : (s.startFigures).arc = s.arc := rfl
@[simp] theorem State.startFigures_clt (s : State) : (s.startFigures).clt = s.clt := rfl
@[simp] theorem State.startFigures_spc (s : State) : (s.startFigures).spc = s.spc := rfl
@[simp] theorem State.startFigures_ports (s : State) : (s.startFigures).ports = s.ports := rfl
@[simp] theorem State.startFigures_cfs (s : State) : (s.startFigures).cfs = s.cfs := rfl
@[simp] theorem State.startFigures_raceCount (s : State) : (s.startFigures).raceCount = s.raceCount := rfl
@[simp] theorem State.startFigures_pending (s : State) : (s.startFigures).pending = s.pending := rfl
@[simp] theorem State.startFigures_params (s : State) : (s.startFigures).params = s.params := rfl
@[simp] theorem State.startFigures_profile (s : State) : (s.startFigures).profile = s.profile := rfl
@[simp] theorem State.startFigures_measured (s : State) : (s.startFigures).measured = s.measured := rfl
@[simp] theorem State.startFigures_chan (s : State) (ch : ChanId) : (s.startFigures).chan ch = s.chan ch := rfl
@[simp] theorem State.startFigures_position (s : State) (sd : Side) : (s.startFigures).position sd = s.position sd := rfl
@[simp] theorem State.startFigures_armHomed (s : State) (sd : Side) : (s.startFigures).armHomed sd = s.armHomed sd := rfl
@[simp] theorem State.startFigures_arm (s : State) (sd : Side) : (s.startFigures).arm sd = s.arm sd := rfl
@[simp] theorem State.startFigures_port (s : State) (q : PortId) : (s.startFigures).port q = s.port q := rfl
@[simp] theorem State.adoptSettings_rstnHeld (s : State) (st : Settings) : (s.adoptSettings st).rstnHeld = s.rstnHeld := rfl
@[simp] theorem State.adoptSettings_stopin (s : State) (st : Settings) : (s.adoptSettings st).stopin = s.stopin := rfl
@[simp] theorem State.adoptSettings_ctu (s : State) (st : Settings) : (s.adoptSettings st).ctu = s.ctu := rfl
@[simp] theorem State.adoptSettings_pba (s : State) (st : Settings) : (s.adoptSettings st).pba = s.pba := rfl
@[simp] theorem State.adoptSettings_pft (s : State) (st : Settings) : (s.adoptSettings st).pft = s.pft := rfl
@[simp] theorem State.adoptSettings_arc (s : State) (st : Settings) : (s.adoptSettings st).arc = s.arc := rfl
@[simp] theorem State.adoptSettings_clt (s : State) (st : Settings) : (s.adoptSettings st).clt = s.clt := rfl
@[simp] theorem State.adoptSettings_spc (s : State) (st : Settings) : (s.adoptSettings st).spc = s.spc := rfl
@[simp] theorem State.adoptSettings_ports (s : State) (st : Settings) : (s.adoptSettings st).ports = s.ports := rfl
@[simp] theorem State.adoptSettings_cfs (s : State) (st : Settings) : (s.adoptSettings st).cfs = s.cfs := rfl
@[simp] theorem State.adoptSettings_raceCount (s : State) (st : Settings) : (s.adoptSettings st).raceCount = s.raceCount := rfl
@[simp] theorem State.adoptSettings_pending (s : State) (st : Settings) : (s.adoptSettings st).pending = s.pending := rfl
@[simp] theorem State.adoptSettings_params (s : State) (st : Settings) : (s.adoptSettings st).params = s.params := rfl
@[simp] theorem State.adoptSettings_profile (s : State) (st : Settings) : (s.adoptSettings st).profile = s.profile := rfl
@[simp] theorem State.adoptSettings_measured (s : State) (st : Settings) : (s.adoptSettings st).measured = s.measured := rfl
@[simp] theorem State.adoptSettings_chan (s : State) (st : Settings) (ch : ChanId) : (s.adoptSettings st).chan ch = s.chan ch := rfl
@[simp] theorem State.adoptSettings_position (s : State) (st : Settings) (sd : Side) : (s.adoptSettings st).position sd = s.position sd := rfl
@[simp] theorem State.adoptSettings_armHomed (s : State) (st : Settings) (sd : Side) : (s.adoptSettings st).armHomed sd = s.armHomed sd := rfl
@[simp] theorem State.adoptSettings_arm (s : State) (st : Settings) (sd : Side) : (s.adoptSettings st).arm sd = s.arm sd := rfl
@[simp] theorem State.adoptSettings_port (s : State) (st : Settings) (q : PortId) : (s.adoptSettings st).port q = s.port q := rfl
@[simp] theorem State.writeback_rstnHeld (s : State) (st : SegStatus) : (s.writeback st).rstnHeld = s.rstnHeld := rfl
@[simp] theorem State.writeback_stopin (s : State) (st : SegStatus) : (s.writeback st).stopin = s.stopin := rfl
@[simp] theorem State.writeback_ctu (s : State) (st : SegStatus) : (s.writeback st).ctu = s.ctu := rfl
@[simp] theorem State.writeback_pba (s : State) (st : SegStatus) : (s.writeback st).pba = s.pba := rfl
@[simp] theorem State.writeback_pft (s : State) (st : SegStatus) : (s.writeback st).pft = s.pft := rfl
@[simp] theorem State.writeback_tgv (s : State) (st : SegStatus) : (s.writeback st).tgv = s.tgv := rfl
@[simp] theorem State.writeback_arc (s : State) (st : SegStatus) : (s.writeback st).arc = s.arc := rfl
@[simp] theorem State.writeback_clt (s : State) (st : SegStatus) : (s.writeback st).clt = s.clt := rfl
@[simp] theorem State.writeback_spc (s : State) (st : SegStatus) : (s.writeback st).spc = s.spc := rfl
@[simp] theorem State.writeback_cfs (s : State) (st : SegStatus) : (s.writeback st).cfs = s.cfs := rfl
@[simp] theorem State.writeback_raceCount (s : State) (st : SegStatus) : (s.writeback st).raceCount = s.raceCount := rfl
@[simp] theorem State.writeback_pending (s : State) (st : SegStatus) : (s.writeback st).pending = s.pending := rfl
@[simp] theorem State.writeback_params (s : State) (st : SegStatus) : (s.writeback st).params = s.params := rfl
@[simp] theorem State.writeback_profile (s : State) (st : SegStatus) : (s.writeback st).profile = s.profile := rfl
@[simp] theorem State.writeback_measured (s : State) (st : SegStatus) : (s.writeback st).measured = s.measured := rfl
@[simp] theorem State.writeback_chan (s : State) (st : SegStatus) (ch : ChanId) : (s.writeback st).chan ch = s.chan ch := rfl
@[simp] theorem State.writeback_position (s : State) (st : SegStatus) (sd : Side) : (s.writeback st).position sd = s.position sd := rfl
@[simp] theorem State.writeback_armHomed (s : State) (st : SegStatus) (sd : Side) : (s.writeback st).armHomed sd = s.armHomed sd := rfl
@[simp] theorem State.writeback_arm (s : State) (st : SegStatus) (sd : Side) : (s.writeback st).arm sd = s.arm sd := rfl
@[simp] theorem State.programEnd_rstnHeld (s : State) (k : EndKind) : (s.programEnd k).rstnHeld = s.rstnHeld := rfl
@[simp] theorem State.programEnd_stopin (s : State) (k : EndKind) : (s.programEnd k).stopin = s.stopin := rfl
@[simp] theorem State.programEnd_ctu (s : State) (k : EndKind) : (s.programEnd k).ctu = s.ctu := rfl
@[simp] theorem State.programEnd_pba (s : State) (k : EndKind) : (s.programEnd k).pba = s.pba := rfl
@[simp] theorem State.programEnd_pft (s : State) (k : EndKind) : (s.programEnd k).pft = s.pft := rfl
@[simp] theorem State.programEnd_arc (s : State) (k : EndKind) : (s.programEnd k).arc = s.arc := rfl
@[simp] theorem State.programEnd_spc (s : State) (k : EndKind) : (s.programEnd k).spc = s.spc := rfl
@[simp] theorem State.programEnd_cfs (s : State) (k : EndKind) : (s.programEnd k).cfs = s.cfs := rfl
@[simp] theorem State.programEnd_raceCount (s : State) (k : EndKind) : (s.programEnd k).raceCount = s.raceCount := rfl
@[simp] theorem State.programEnd_pending (s : State) (k : EndKind) : (s.programEnd k).pending = s.pending := rfl
@[simp] theorem State.programEnd_params (s : State) (k : EndKind) : (s.programEnd k).params = s.params := rfl
@[simp] theorem State.programEnd_profile (s : State) (k : EndKind) : (s.programEnd k).profile = s.profile := rfl
@[simp] theorem State.programEnd_measured (s : State) (k : EndKind) : (s.programEnd k).measured = s.measured := rfl
@[simp] theorem State.programEnd_chan (s : State) (k : EndKind) (ch : ChanId) : (s.programEnd k).chan ch = s.chan ch := rfl
@[simp] theorem State.programEnd_position (s : State) (k : EndKind) (sd : Side) : (s.programEnd k).position sd = s.position sd := rfl
@[simp] theorem State.programEnd_armHomed (s : State) (k : EndKind) (sd : Side) : (s.programEnd k).armHomed sd = s.armHomed sd := rfl
@[simp] theorem State.programEnd_arm (s : State) (k : EndKind) (sd : Side) : (s.programEnd k).arm sd = s.arm sd := rfl
@[simp] theorem State.advanceCursor_rstnHeld (s : State) : (s.advanceCursor).rstnHeld = s.rstnHeld := rfl
@[simp] theorem State.advanceCursor_stopin (s : State) : (s.advanceCursor).stopin = s.stopin := rfl
@[simp] theorem State.advanceCursor_ctu (s : State) : (s.advanceCursor).ctu = s.ctu := rfl
@[simp] theorem State.advanceCursor_pba (s : State) : (s.advanceCursor).pba = s.pba := rfl
@[simp] theorem State.advanceCursor_pft (s : State) : (s.advanceCursor).pft = s.pft := rfl
@[simp] theorem State.advanceCursor_tgv (s : State) : (s.advanceCursor).tgv = s.tgv := rfl
@[simp] theorem State.advanceCursor_arc (s : State) : (s.advanceCursor).arc = s.arc := rfl
@[simp] theorem State.advanceCursor_clt (s : State) : (s.advanceCursor).clt = s.clt := rfl
@[simp] theorem State.advanceCursor_spc (s : State) : (s.advanceCursor).spc = s.spc := rfl
@[simp] theorem State.advanceCursor_ports (s : State) : (s.advanceCursor).ports = s.ports := rfl
@[simp] theorem State.advanceCursor_cfs (s : State) : (s.advanceCursor).cfs = s.cfs := rfl
@[simp] theorem State.advanceCursor_raceCount (s : State) : (s.advanceCursor).raceCount = s.raceCount := rfl
@[simp] theorem State.advanceCursor_pending (s : State) : (s.advanceCursor).pending = s.pending := rfl
@[simp] theorem State.advanceCursor_params (s : State) : (s.advanceCursor).params = s.params := rfl
@[simp] theorem State.advanceCursor_profile (s : State) : (s.advanceCursor).profile = s.profile := rfl
@[simp] theorem State.advanceCursor_measured (s : State) : (s.advanceCursor).measured = s.measured := rfl
@[simp] theorem State.advanceCursor_chan (s : State) (ch : ChanId) : (s.advanceCursor).chan ch = s.chan ch := rfl
@[simp] theorem State.advanceCursor_position (s : State) (sd : Side) : (s.advanceCursor).position sd = s.position sd := rfl
@[simp] theorem State.advanceCursor_armHomed (s : State) (sd : Side) : (s.advanceCursor).armHomed sd = s.armHomed sd := rfl
@[simp] theorem State.advanceCursor_arm (s : State) (sd : Side) : (s.advanceCursor).arm sd = s.arm sd := rfl
@[simp] theorem State.advanceCursor_port (s : State) (q : PortId) : (s.advanceCursor).port q = s.port q := rfl
@[simp] theorem State.suspend_rstnHeld (s : State) (c : SuspendCause) (r : ReturnState) : (s.suspend c r).rstnHeld = s.rstnHeld := rfl
@[simp] theorem State.suspend_stopin (s : State) (c : SuspendCause) (r : ReturnState) : (s.suspend c r).stopin = s.stopin := rfl
@[simp] theorem State.suspend_ctu (s : State) (c : SuspendCause) (r : ReturnState) : (s.suspend c r).ctu = s.ctu := rfl
@[simp] theorem State.suspend_pba (s : State) (c : SuspendCause) (r : ReturnState) : (s.suspend c r).pba = s.pba := rfl
@[simp] theorem State.suspend_pft (s : State) (c : SuspendCause) (r : ReturnState) : (s.suspend c r).pft = s.pft := rfl
@[simp] theorem State.suspend_tgv (s : State) (c : SuspendCause) (r : ReturnState) : (s.suspend c r).tgv = s.tgv := rfl
@[simp] theorem State.suspend_arc (s : State) (c : SuspendCause) (r : ReturnState) : (s.suspend c r).arc = s.arc := rfl
@[simp] theorem State.suspend_clt (s : State) (c : SuspendCause) (r : ReturnState) : (s.suspend c r).clt = s.clt := rfl
@[simp] theorem State.suspend_spc (s : State) (c : SuspendCause) (r : ReturnState) : (s.suspend c r).spc = s.spc := rfl
@[simp] theorem State.suspend_cfs (s : State) (c : SuspendCause) (r : ReturnState) : (s.suspend c r).cfs = s.cfs := rfl
@[simp] theorem State.suspend_raceCount (s : State) (c : SuspendCause) (r : ReturnState) : (s.suspend c r).raceCount = s.raceCount := rfl
@[simp] theorem State.suspend_pending (s : State) (c : SuspendCause) (r : ReturnState) : (s.suspend c r).pending = s.pending := rfl
@[simp] theorem State.suspend_params (s : State) (c : SuspendCause) (r : ReturnState) : (s.suspend c r).params = s.params := rfl
@[simp] theorem State.suspend_profile (s : State) (c : SuspendCause) (r : ReturnState) : (s.suspend c r).profile = s.profile := rfl
@[simp] theorem State.suspend_measured (s : State) (c : SuspendCause) (r : ReturnState) : (s.suspend c r).measured = s.measured := rfl
@[simp] theorem State.suspend_chan (s : State) (c : SuspendCause) (r : ReturnState) (ch : ChanId) : (s.suspend c r).chan ch = s.chan ch := rfl
@[simp] theorem State.suspend_position (s : State) (c : SuspendCause) (r : ReturnState) (sd : Side) : (s.suspend c r).position sd = s.position sd := rfl
@[simp] theorem State.suspend_armHomed (s : State) (c : SuspendCause) (r : ReturnState) (sd : Side) : (s.suspend c r).armHomed sd = s.armHomed sd := rfl
@[simp] theorem State.suspend_arm (s : State) (c : SuspendCause) (r : ReturnState) (sd : Side) : (s.suspend c r).arm sd = s.arm sd := rfl
@[simp] theorem State.travelStages_rstnHeld (s : State) : (s.travelStages).rstnHeld = s.rstnHeld := by simp [State.travelStages]
@[simp] theorem State.travelStages_stopin (s : State) : (s.travelStages).stopin = s.stopin := by simp [State.travelStages]
@[simp] theorem State.travelStages_ctu (s : State) : (s.travelStages).ctu = s.ctu := by simp [State.travelStages]
@[simp] theorem State.travelStages_pft (s : State) : (s.travelStages).pft = s.pft := by simp [State.travelStages]
@[simp] theorem State.travelStages_arc (s : State) : (s.travelStages).arc = s.arc := by simp [State.travelStages]
@[simp] theorem State.travelStages_clt (s : State) : (s.travelStages).clt = s.clt := by simp [State.travelStages]
@[simp] theorem State.travelStages_spc (s : State) : (s.travelStages).spc = s.spc := by simp [State.travelStages]
@[simp] theorem State.travelStages_sge (s : State) : (s.travelStages).sge = s.sge := by simp [State.travelStages]
@[simp] theorem State.travelStages_cfs (s : State) : (s.travelStages).cfs = s.cfs := by simp [State.travelStages]
@[simp] theorem State.travelStages_raceCount (s : State) : (s.travelStages).raceCount = s.raceCount := by simp [State.travelStages]
@[simp] theorem State.travelStages_pending (s : State) : (s.travelStages).pending = s.pending := by simp [State.travelStages]
@[simp] theorem State.travelStages_params (s : State) : (s.travelStages).params = s.params := by simp [State.travelStages, State.params]
@[simp] theorem State.travelStages_profile (s : State) : (s.travelStages).profile = s.profile := by simp [State.travelStages, State.profile]
@[simp] theorem State.travelStages_measured (s : State) : (s.travelStages).measured = s.measured := by simp [State.travelStages, State.measured]
@[simp] theorem State.travelStages_chan (s : State) (ch : ChanId) : (s.travelStages).chan ch = s.chan ch := by simp [State.travelStages, State.chan]
@[simp] theorem State.travelStages_position (s : State) (sd : Side) : (s.travelStages).position sd = s.position sd := by simp [State.travelStages, State.position, State.chan]
@[simp] theorem State.travelStages_armHomed (s : State) (sd : Side) : (s.travelStages).armHomed sd = s.armHomed sd := by simp [State.travelStages, State.armHomed, State.chan]
@[simp] theorem State.travelStages_arm (s : State) (sd : Side) : (s.travelStages).arm sd = s.arm sd := by simp [State.travelStages, State.arm]

/-! ## Reading back what was written -/

theorem PerPort.get_set {α : Type} (v : PerPort α) (i j : PortId) (x : α) :
    (v.set i x).get j = if j = i then x else v.get j := by cases i <;> cases j <;> rfl

@[simp] theorem PerPort.get_set_same {α : Type} (v : PerPort α) (i : PortId) (x : α) : (v.set i x).get i = x := by
  cases i <;> rfl

@[simp] theorem PerPort.set_set {α : Type} (v : PerPort α) (i : PortId) (x y : α) : (v.set i x).set i y = v.set i y := by
  cases i <;> rfl

@[simp] theorem PerPort.set_get {α : Type} (v : PerPort α) (i : PortId) : v.set i (v.get i) = v := by cases i <;> rfl

@[simp] theorem PerPort.get_ofFn {α : Type} (g : PortId → α) (i : PortId) : (PerPort.ofFn g).get i = g i := by
  cases i <;> rfl

theorem PerChan.get_set {α : Type} (v : PerChan α) (i j : ChanId) (x : α) :
    (v.set i x).get j = if j = i then x else v.get j := by cases i <;> cases j <;> rfl

@[simp] theorem PerChan.get_set_same {α : Type} (v : PerChan α) (i : ChanId) (x : α) : (v.set i x).get i = x := by
  cases i <;> rfl

@[simp] theorem PerChan.set_set {α : Type} (v : PerChan α) (i : ChanId) (x y : α) : (v.set i x).set i y = v.set i y := by
  cases i <;> rfl

@[simp] theorem PerChan.set_get {α : Type} (v : PerChan α) (i : ChanId) : v.set i (v.get i) = v := by cases i <;> rfl

@[simp] theorem PerChan.get_ofFn {α : Type} (g : ChanId → α) (i : ChanId) : (PerChan.ofFn g).get i = g i := by
  cases i <;> rfl

theorem PerLane.get_set {α : Type} (v : PerLane α) (i j : LaneId) (x : α) :
    (v.set i x).get j = if j = i then x else v.get j := by cases i <;> cases j <;> rfl

@[simp] theorem PerLane.get_set_same {α : Type} (v : PerLane α) (i : LaneId) (x : α) : (v.set i x).get i = x := by
  cases i <;> rfl

@[simp] theorem PerLane.set_set {α : Type} (v : PerLane α) (i : LaneId) (x y : α) : (v.set i x).set i y = v.set i y := by
  cases i <;> rfl

@[simp] theorem PerLane.set_get {α : Type} (v : PerLane α) (i : LaneId) : v.set i (v.get i) = v := by cases i <;> rfl

@[simp] theorem PerLane.get_ofFn {α : Type} (g : LaneId → α) (i : LaneId) : (PerLane.ofFn g).get i = g i := by
  cases i <;> rfl

@[simp] theorem PerBank.get_ofFn {α : Type} (g : BankId → α) (i : BankId) : (PerBank.ofFn g).get i = g i := by
  cases i <;> rfl

@[simp] theorem PerBank.get_map {α β : Type} (v : PerBank α) (g : BankId → α → β) (i : BankId) :
    (v.map g).get i = g i (v.get i) := by cases i <;> rfl

theorem PerResource.get_set {α : Type} (v : PerResource α) (i j : Resource) (x : α) :
    (v.set i x).get j = if j = i then x else v.get j := by cases i <;> cases j <;> rfl

@[simp] theorem PerResource.set_get {α : Type} (v : PerResource α) (i : Resource) : v.set i (v.get i) = v := by
  cases i <;> rfl

@[simp] theorem PerResource.get_map {α β : Type} (v : PerResource α) (g : α → β) (i : Resource) :
    (v.map g).get i = g (v.get i) := by cases i <;> rfl

theorem State.port_setPort (s : State) (p q : PortId) (x : Port) :
    (s.setPort p x).port q = if q = p then x else s.port q := PerPort.get_set s.ports p q x

@[simp] theorem State.port_setPort_same (s : State) (p : PortId) (x : Port) : (s.setPort p x).port p = x :=
  PerPort.get_set_same s.ports p x

theorem State.chan_setChan (s : State) (i j : ChanId) (x : Channel) :
    (s.setChan i x).chan j = if j = i then x else s.chan j := PerChan.get_set s.ctu.chans i j x

@[simp] theorem State.chan_setChan_same (s : State) (i : ChanId) (x : Channel) : (s.setChan i x).chan i = x :=
  PerChan.get_set_same s.ctu.chans i x

theorem State.arm_setArm (s : State) (i j : Side) (x : Arm) : (s.setArm i x).arm j = if j = i then x else s.arm j := by
  cases i <;> cases j <;> rfl

@[simp] theorem State.arm_setArm_same (s : State) (i : Side) (x : Arm) : (s.setArm i x).arm i = x := by cases i <;> rfl

@[simp] theorem State.setArm_setArm (s : State) (i : Side) (x y : Arm) : (s.setArm i x).setArm i y = s.setArm i y := by
  cases i <;> rfl

@[simp] theorem State.setArm_arm (s : State) (i : Side) : s.setArm i (s.arm i) = s := by cases i <;> rfl

@[simp] theorem State.setArm_pickup (s : State) (i : Side) (x : Arm) : (s.setArm i x).arc.pickup = s.arc.pickup := by
  cases i <;> rfl

theorem Pba.lane_setLane (b : Pba) (i j : LaneId) (x : Lane) :
    (b.setLane i x).lane j = if j = i then x else b.lane j := PerLane.get_set b.lanes i j x

@[simp] theorem Pba.lane_setLane_same (b : Pba) (i : LaneId) (x : Lane) : (b.setLane i x).lane i = x :=
  PerLane.get_set_same b.lanes i x

@[simp] theorem Pba.setLane_lane (b : Pba) (i : LaneId) : b.setLane i (b.lane i) = b := by cases i <;> rfl

end Sys2Proof.Machine
end

