-- ==== Sys2Proof/Laws/Frames.lean ====
section
/-! SUPPORT. The fields of State under each operation that decides something: what it leaves as it was on every path. -/

namespace Sys2Proof.Machine


/-! ## Spray Controller -/

@[simp] theorem State.publishSpry_rstnHeld (s : State) : (s.publishSpry).rstnHeld = s.rstnHeld := by
  simp only [State.publishSpry]; (repeat' split) <;> simp
@[simp] theorem State.publishSpry_stopin (s : State) : (s.publishSpry).stopin = s.stopin := by
  simp only [State.publishSpry]; (repeat' split) <;> simp
@[simp] theorem State.publishSpry_ctu (s : State) : (s.publishSpry).ctu = s.ctu := by
  simp only [State.publishSpry]; (repeat' split) <;> simp
@[simp] theorem State.publishSpry_pft (s : State) : (s.publishSpry).pft = s.pft := by
  simp only [State.publishSpry]; (repeat' split) <;> simp
@[simp] theorem State.publishSpry_tgv (s : State) : (s.publishSpry).tgv = s.tgv := by
  simp only [State.publishSpry]; (repeat' split) <;> simp
@[simp] theorem State.publishSpry_arc (s : State) : (s.publishSpry).arc = s.arc := by
  simp only [State.publishSpry]; (repeat' split) <;> simp
@[simp] theorem State.publishSpry_clt (s : State) : (s.publishSpry).clt = s.clt := by
  simp only [State.publishSpry]; (repeat' split) <;> simp
@[simp] theorem State.publishSpry_sge (s : State) : (s.publishSpry).sge = s.sge := by
  simp only [State.publishSpry]; (repeat' split) <;> simp
@[simp] theorem State.publishSpry_cfs (s : State) : (s.publishSpry).cfs = s.cfs := by
  simp only [State.publishSpry]; (repeat' split) <;> simp
@[simp] theorem State.publishSpry_raceCount (s : State) : (s.publishSpry).raceCount = s.raceCount := by
  simp only [State.publishSpry]; (repeat' split) <;> simp
@[simp] theorem State.publishSpry_pending (s : State) : (s.publishSpry).pending = s.pending := by
  simp only [State.publishSpry]; (repeat' split) <;> simp
@[simp] theorem State.publishSpry_params (s : State) : (s.publishSpry).params = s.params := by
  simp only [State.publishSpry]; (repeat' split) <;> simp [State.params]
@[simp] theorem State.publishSpry_profile (s : State) : (s.publishSpry).profile = s.profile := by
  simp only [State.publishSpry]; (repeat' split) <;> simp [State.profile]
@[simp] theorem State.publishSpry_measured (s : State) : (s.publishSpry).measured = s.measured := by
  simp only [State.publishSpry]; (repeat' split) <;> simp [State.measured]
@[simp] theorem State.publishSpry_chan (s : State) (ch : ChanId) : (s.publishSpry).chan ch = s.chan ch := by
  simp only [State.publishSpry]; (repeat' split) <;> simp [State.chan]
@[simp] theorem State.publishSpry_position (s : State) (sd : Side) : (s.publishSpry).position sd = s.position sd := by
  simp only [State.publishSpry]; (repeat' split) <;> simp [State.position, State.chan]
@[simp] theorem State.publishSpry_armHomed (s : State) (sd : Side) : (s.publishSpry).armHomed sd = s.armHomed sd := by
  simp only [State.publishSpry]; (repeat' split) <;> simp [State.armHomed, State.chan]
@[simp] theorem State.publishSpry_arm (s : State) (sd : Side) : (s.publishSpry).arm sd = s.arm sd := by
  simp only [State.publishSpry]; (repeat' split) <;> simp [State.arm]
@[simp] theorem State.sprayRefresh_rstnHeld (s : State) : (s.sprayRefresh).rstnHeld = s.rstnHeld := by
  simp [State.sprayRefresh]
@[simp] theorem State.sprayRefresh_stopin (s : State) : (s.sprayRefresh).stopin = s.stopin := by
  simp [State.sprayRefresh]
@[simp] theorem State.sprayRefresh_ctu (s : State) : (s.sprayRefresh).ctu = s.ctu := by
  simp [State.sprayRefresh]
@[simp] theorem State.sprayRefresh_pft (s : State) : (s.sprayRefresh).pft = s.pft := by
  simp [State.sprayRefresh]
@[simp] theorem State.sprayRefresh_tgv (s : State) : (s.sprayRefresh).tgv = s.tgv := by
  simp [State.sprayRefresh]
@[simp] theorem State.sprayRefresh_arc (s : State) : (s.sprayRefresh).arc = s.arc := by
  simp [State.sprayRefresh]
@[simp] theorem State.sprayRefresh_clt (s : State) : (s.sprayRefresh).clt = s.clt := by
  simp [State.sprayRefresh]
@[simp] theorem State.sprayRefresh_cfs (s : State) : (s.sprayRefresh).cfs = s.cfs := by
  simp [State.sprayRefresh]
@[simp] theorem State.sprayRefresh_raceCount (s : State) : (s.sprayRefresh).raceCount = s.raceCount := by
  simp [State.sprayRefresh]
@[simp] theorem State.sprayRefresh_pending (s : State) : (s.sprayRefresh).pending = s.pending := by
  simp [State.sprayRefresh]
@[simp] theorem State.sprayRefresh_params (s : State) : (s.sprayRefresh).params = s.params := by
  simp [State.sprayRefresh, State.params]
@[simp] theorem State.sprayRefresh_profile (s : State) : (s.sprayRefresh).profile = s.profile := by
  simp [State.sprayRefresh, State.profile]
@[simp] theorem State.sprayRefresh_measured (s : State) : (s.sprayRefresh).measured = s.measured := by
  simp [State.sprayRefresh, State.measured]
@[simp] theorem State.sprayRefresh_chan (s : State) (ch : ChanId) : (s.sprayRefresh).chan ch = s.chan ch := by
  simp [State.sprayRefresh, State.chan]
@[simp] theorem State.sprayRefresh_position (s : State) (sd : Side) : (s.sprayRefresh).position sd = s.position sd := by
  simp [State.sprayRefresh, State.position, State.chan]
@[simp] theorem State.sprayRefresh_armHomed (s : State) (sd : Side) : (s.sprayRefresh).armHomed sd = s.armHomed sd := by
  simp [State.sprayRefresh, State.armHomed, State.chan]
@[simp] theorem State.sprayRefresh_arm (s : State) (sd : Side) : (s.sprayRefresh).arm sd = s.arm sd := by
  simp [State.sprayRefresh, State.arm]
@[simp] theorem State.refreshIf_rstnHeld (s : State) (b : Bool) : (s.refreshIf b).rstnHeld = s.rstnHeld := by
  simp only [State.refreshIf]; (repeat' split) <;> simp
@[simp] theorem State.refreshIf_stopin (s : State) (b : Bool) : (s.refreshIf b).stopin = s.stopin := by
  simp only [State.refreshIf]; (repeat' split) <;> simp
@[simp] theorem State.refreshIf_ctu (s : State) (b : Bool) : (s.refreshIf b).ctu = s.ctu := by
  simp only [State.refreshIf]; (repeat' split) <;> simp
@[simp] theorem State.refreshIf_pft (s : State) (b : Bool) : (s.refreshIf b).pft = s.pft := by
  simp only [State.refreshIf]; (repeat' split) <;> simp
@[simp] theorem State.refreshIf_tgv (s : State) (b : Bool) : (s.refreshIf b).tgv = s.tgv := by
  simp only [State.refreshIf]; (repeat' split) <;> simp
@[simp] theorem State.refreshIf_arc (s : State) (b : Bool) : (s.refreshIf b).arc = s.arc := by
  simp only [State.refreshIf]; (repeat' split) <;> simp
@[simp] theorem State.refreshIf_clt (s : State) (b : Bool) : (s.refreshIf b).clt = s.clt := by
  simp only [State.refreshIf]; (repeat' split) <;> simp
@[simp] theorem State.refreshIf_cfs (s : State) (b : Bool) : (s.refreshIf b).cfs = s.cfs := by
  simp only [State.refreshIf]; (repeat' split) <;> simp
@[simp] theorem State.refreshIf_raceCount (s : State) (b : Bool) : (s.refreshIf b).raceCount = s.raceCount := by
  simp only [State.refreshIf]; (repeat' split) <;> simp
@[simp] theorem State.refreshIf_pending (s : State) (b : Bool) : (s.refreshIf b).pending = s.pending := by
  simp only [State.refreshIf]; (repeat' split) <;> simp
@[simp] theorem State.refreshIf_params (s : State) (b : Bool) : (s.refreshIf b).params = s.params := by
  simp only [State.refreshIf]; (repeat' split) <;> simp [State.params]
@[simp] theorem State.refreshIf_profile (s : State) (b : Bool) : (s.refreshIf b).profile = s.profile := by
  simp only [State.refreshIf]; (repeat' split) <;> simp [State.profile]
@[simp] theorem State.refreshIf_measured (s : State) (b : Bool) : (s.refreshIf b).measured = s.measured := by
  simp only [State.refreshIf]; (repeat' split) <;> simp [State.measured]
@[simp] theorem State.refreshIf_chan (s : State) (b : Bool) (ch : ChanId) : (s.refreshIf b).chan ch = s.chan ch := by
  simp only [State.refreshIf]; (repeat' split) <;> simp [State.chan]
@[simp] theorem State.refreshIf_position (s : State) (b : Bool) (sd : Side) : (s.refreshIf b).position sd = s.position sd := by
  simp only [State.refreshIf]; (repeat' split) <;> simp [State.position, State.chan]
@[simp] theorem State.refreshIf_armHomed (s : State) (b : Bool) (sd : Side) : (s.refreshIf b).armHomed sd = s.armHomed sd := by
  simp only [State.refreshIf]; (repeat' split) <;> simp [State.armHomed, State.chan]
@[simp] theorem State.refreshIf_arm (s : State) (b : Bool) (sd : Side) : (s.refreshIf b).arm sd = s.arm sd := by
  simp only [State.refreshIf]; (repeat' split) <;> simp [State.arm]
@[simp] theorem State.spraySetting_rstnHeld (s : State) (m : Option (BitVec 4)) (d : Option Nat) : (s.spraySetting m d).rstnHeld = s.rstnHeld := by
  simp [State.spraySetting]
@[simp] theorem State.spraySetting_stopin (s : State) (m : Option (BitVec 4)) (d : Option Nat) : (s.spraySetting m d).stopin = s.stopin := by
  simp [State.spraySetting]
@[simp] theorem State.spraySetting_ctu (s : State) (m : Option (BitVec 4)) (d : Option Nat) : (s.spraySetting m d).ctu = s.ctu := by
  simp [State.spraySetting]
@[simp] theorem State.spraySetting_pft (s : State) (m : Option (BitVec 4)) (d : Option Nat) : (s.spraySetting m d).pft = s.pft := by
  simp [State.spraySetting]
@[simp] theorem State.spraySetting_tgv (s : State) (m : Option (BitVec 4)) (d : Option Nat) : (s.spraySetting m d).tgv = s.tgv := by
  simp [State.spraySetting]
@[simp] theorem State.spraySetting_arc (s : State) (m : Option (BitVec 4)) (d : Option Nat) : (s.spraySetting m d).arc = s.arc := by
  simp [State.spraySetting]
@[simp] theorem State.spraySetting_clt (s : State) (m : Option (BitVec 4)) (d : Option Nat) : (s.spraySetting m d).clt = s.clt := by
  simp [State.spraySetting]
@[simp] theorem State.spraySetting_cfs (s : State) (m : Option (BitVec 4)) (d : Option Nat) : (s.spraySetting m d).cfs = s.cfs := by
  simp [State.spraySetting]
@[simp] theorem State.spraySetting_raceCount (s : State) (m : Option (BitVec 4)) (d : Option Nat) : (s.spraySetting m d).raceCount = s.raceCount := by
  simp [State.spraySetting]
@[simp] theorem State.spraySetting_pending (s : State) (m : Option (BitVec 4)) (d : Option Nat) : (s.spraySetting m d).pending = s.pending := by
  simp [State.spraySetting]
@[simp] theorem State.spraySetting_params (s : State) (m : Option (BitVec 4)) (d : Option Nat) : (s.spraySetting m d).params = s.params := by
  simp [State.spraySetting, State.params]
@[simp] theorem State.spraySetting_profile (s : State) (m : Option (BitVec 4)) (d : Option Nat) : (s.spraySetting m d).profile = s.profile := by
  simp [State.spraySetting, State.profile]
@[simp] theorem State.spraySetting_measured (s : State) (m : Option (BitVec 4)) (d : Option Nat) : (s.spraySetting m d).measured = s.measured := by
  simp [State.spraySetting, State.measured]
@[simp] theorem State.spraySetting_chan (s : State) (m : Option (BitVec 4)) (d : Option Nat) (ch : ChanId) : (s.spraySetting m d).chan ch = s.chan ch := by
  simp [State.spraySetting, State.chan]
@[simp] theorem State.spraySetting_position (s : State) (m : Option (BitVec 4)) (d : Option Nat) (sd : Side) : (s.spraySetting m d).position sd = s.position sd := by
  simp [State.spraySetting, State.position, State.chan]
@[simp] theorem State.spraySetting_armHomed (s : State) (m : Option (BitVec 4)) (d : Option Nat) (sd : Side) : (s.spraySetting m d).armHomed sd = s.armHomed sd := by
  simp [State.spraySetting, State.armHomed, State.chan]
@[simp] theorem State.spraySetting_arm (s : State) (m : Option (BitVec 4)) (d : Option Nat) (sd : Side) : (s.spraySetting m d).arm sd = s.arm sd := by
  simp [State.spraySetting, State.arm]
@[simp] theorem State.disableBanks_rstnHeld (s : State) : (s.disableBanks).rstnHeld = s.rstnHeld := by
  simp only [State.disableBanks]; (repeat' split) <;> simp
@[simp] theorem State.disableBanks_stopin (s : State) : (s.disableBanks).stopin = s.stopin := by
  simp only [State.disableBanks]; (repeat' split) <;> simp
@[simp] theorem State.disableBanks_ctu (s : State) : (s.disableBanks).ctu = s.ctu := by
  simp only [State.disableBanks]; (repeat' split) <;> simp
@[simp] theorem State.disableBanks_pft (s : State) : (s.disableBanks).pft = s.pft := by
  simp only [State.disableBanks]; (repeat' split) <;> simp
@[simp] theorem State.disableBanks_tgv (s : State) : (s.disableBanks).tgv = s.tgv := by
  simp only [State.disableBanks]; (repeat' split) <;> simp
@[simp] theorem State.disableBanks_arc (s : State) : (s.disableBanks).arc = s.arc := by
  simp only [State.disableBanks]; (repeat' split) <;> simp
@[simp] theorem State.disableBanks_clt (s : State) : (s.disableBanks).clt = s.clt := by
  simp only [State.disableBanks]; (repeat' split) <;> simp
@[simp] theorem State.disableBanks_cfs (s : State) : (s.disableBanks).cfs = s.cfs := by
  simp only [State.disableBanks]; (repeat' split) <;> simp
@[simp] theorem State.disableBanks_raceCount (s : State) : (s.disableBanks).raceCount = s.raceCount := by
  simp only [State.disableBanks]; (repeat' split) <;> simp
@[simp] theorem State.disableBanks_pending (s : State) : (s.disableBanks).pending = s.pending := by
  simp only [State.disableBanks]; (repeat' split) <;> simp
@[simp] theorem State.disableBanks_params (s : State) : (s.disableBanks).params = s.params := by
  simp only [State.disableBanks]; (repeat' split) <;> simp [State.params]
@[simp] theorem State.disableBanks_profile (s : State) : (s.disableBanks).profile = s.profile := by
  simp only [State.disableBanks]; (repeat' split) <;> simp [State.profile]
@[simp] theorem State.disableBanks_measured (s : State) : (s.disableBanks).measured = s.measured := by
  simp only [State.disableBanks]; (repeat' split) <;> simp [State.measured]
@[simp] theorem State.disableBanks_chan (s : State) (ch : ChanId) : (s.disableBanks).chan ch = s.chan ch := by
  simp only [State.disableBanks]; (repeat' split) <;> simp [State.chan]
@[simp] theorem State.disableBanks_position (s : State) (sd : Side) : (s.disableBanks).position sd = s.position sd := by
  simp only [State.disableBanks]; (repeat' split) <;> simp [State.position, State.chan]
@[simp] theorem State.disableBanks_armHomed (s : State) (sd : Side) : (s.disableBanks).armHomed sd = s.armHomed sd := by
  simp only [State.disableBanks]; (repeat' split) <;> simp [State.armHomed, State.chan]
@[simp] theorem State.disableBanks_arm (s : State) (sd : Side) : (s.disableBanks).arm sd = s.arm sd := by
  simp only [State.disableBanks]; (repeat' split) <;> simp [State.arm]
@[simp] theorem State.setEstimate_rstnHeld (s : State) (n : Nat) : (s.setEstimate n).rstnHeld = s.rstnHeld := by
  simp [State.setEstimate]
@[simp] theorem State.setEstimate_stopin (s : State) (n : Nat) : (s.setEstimate n).stopin = s.stopin := by
  simp [State.setEstimate]
@[simp] theorem State.setEstimate_ctu (s : State) (n : Nat) : (s.setEstimate n).ctu = s.ctu := by
  simp [State.setEstimate]
@[simp] theorem State.setEstimate_pft (s : State) (n : Nat) : (s.setEstimate n).pft = s.pft := by
  simp [State.setEstimate]
@[simp] theorem State.setEstimate_tgv (s : State) (n : Nat) : (s.setEstimate n).tgv = s.tgv := by
  simp [State.setEstimate]
@[simp] theorem State.setEstimate_arc (s : State) (n : Nat) : (s.setEstimate n).arc = s.arc := by
  simp [State.setEstimate]
@[simp] theorem State.setEstimate_clt (s : State) (n : Nat) : (s.setEstimate n).clt = s.clt := by
  simp [State.setEstimate]
@[simp] theorem State.setEstimate_cfs (s : State) (n : Nat) : (s.setEstimate n).cfs = s.cfs := by
  simp [State.setEstimate]
@[simp] theorem State.setEstimate_raceCount (s : State) (n : Nat) : (s.setEstimate n).raceCount = s.raceCount := by
  simp [State.setEstimate]
@[simp] theorem State.setEstimate_pending (s : State) (n : Nat) : (s.setEstimate n).pending = s.pending := by
  simp [State.setEstimate]
@[simp] theorem State.setEstimate_params (s : State) (n : Nat) : (s.setEstimate n).params = s.params := by
  simp [State.setEstimate, State.params]
@[simp] theorem State.setEstimate_profile (s : State) (n : Nat) : (s.setEstimate n).profile = s.profile := by
  simp [State.setEstimate, State.profile]
@[simp] theorem State.setEstimate_measured (s : State) (n : Nat) : (s.setEstimate n).measured = s.measured := by
  simp [State.setEstimate, State.measured]
@[simp] theorem State.setEstimate_chan (s : State) (n : Nat) (ch : ChanId) : (s.setEstimate n).chan ch = s.chan ch := by
  simp [State.setEstimate, State.chan]
@[simp] theorem State.setEstimate_position (s : State) (n : Nat) (sd : Side) : (s.setEstimate n).position sd = s.position sd := by
  simp [State.setEstimate, State.position, State.chan]
@[simp] theorem State.setEstimate_armHomed (s : State) (n : Nat) (sd : Side) : (s.setEstimate n).armHomed sd = s.armHomed sd := by
  simp [State.setEstimate, State.armHomed, State.chan]
@[simp] theorem State.setEstimate_arm (s : State) (n : Nat) (sd : Side) : (s.setEstimate n).arm sd = s.arm sd := by
  simp [State.setEstimate, State.arm]
@[simp] theorem State.pulseExpired_rstnHeld (s : State) (i : BankId) : (s.pulseExpired i).rstnHeld = s.rstnHeld := by
  simp [State.pulseExpired]
@[simp] theorem State.pulseExpired_stopin (s : State) (i : BankId) : (s.pulseExpired i).stopin = s.stopin := by
  simp [State.pulseExpired]
@[simp] theorem State.pulseExpired_ctu (s : State) (i : BankId) : (s.pulseExpired i).ctu = s.ctu := by
  simp [State.pulseExpired]
@[simp] theorem State.pulseExpired_pft (s : State) (i : BankId) : (s.pulseExpired i).pft = s.pft := by
  simp [State.pulseExpired]
@[simp] theorem State.pulseExpired_tgv (s : State) (i : BankId) : (s.pulseExpired i).tgv = s.tgv := by
  simp [State.pulseExpired]
@[simp] theorem State.pulseExpired_arc (s : State) (i : BankId) : (s.pulseExpired i).arc = s.arc := by
  simp [State.pulseExpired]
@[simp] theorem State.pulseExpired_clt (s : State) (i : BankId) : (s.pulseExpired i).clt = s.clt := by
  simp [State.pulseExpired]
@[simp] theorem State.pulseExpired_cfs (s : State) (i : BankId) : (s.pulseExpired i).cfs = s.cfs := by
  simp [State.pulseExpired]
@[simp] theorem State.pulseExpired_raceCount (s : State) (i : BankId) : (s.pulseExpired i).raceCount = s.raceCount := by
  simp [State.pulseExpired]
@[simp] theorem State.pulseExpired_pending (s : State) (i : BankId) : (s.pulseExpired i).pending = s.pending := by
  simp [State.pulseExpired]
@[simp] theorem State.pulseExpired_params (s : State) (i : BankId) : (s.pulseExpired i).params = s.params := by
  simp [State.pulseExpired, State.params]
@[simp] theorem State.pulseExpired_profile (s : State) (i : BankId) : (s.pulseExpired i).profile = s.profile := by
  simp [State.pulseExpired, State.profile]
@[simp] theorem State.pulseExpired_measured (s : State) (i : BankId) : (s.pulseExpired i).measured = s.measured := by
  simp [State.pulseExpired, State.measured]
@[simp] theorem State.pulseExpired_chan (s : State) (i : BankId) (ch : ChanId) : (s.pulseExpired i).chan ch = s.chan ch := by
  simp [State.pulseExpired, State.chan]
@[simp] theorem State.pulseExpired_position (s : State) (i : BankId) (sd : Side) : (s.pulseExpired i).position sd = s.position sd := by
  simp [State.pulseExpired, State.position, State.chan]
@[simp] theorem State.pulseExpired_armHomed (s : State) (i : BankId) (sd : Side) : (s.pulseExpired i).armHomed sd = s.armHomed sd := by
  simp [State.pulseExpired, State.armHomed, State.chan]
@[simp] theorem State.pulseExpired_arm (s : State) (i : BankId) (sd : Side) : (s.pulseExpired i).arm sd = s.arm sd := by
  simp [State.pulseExpired, State.arm]

/-! ## Arm Controller: entries, requests, events -/

@[simp] theorem State.putArm_rstnHeld (s : State) (side : Side) (x : Arm) : (s.putArm side x).rstnHeld = s.rstnHeld := by
  simp [State.putArm]
@[simp] theorem State.putArm_stopin (s : State) (side : Side) (x : Arm) : (s.putArm side x).stopin = s.stopin := by
  simp [State.putArm]
@[simp] theorem State.putArm_ctu (s : State) (side : Side) (x : Arm) : (s.putArm side x).ctu = s.ctu := by
  simp [State.putArm]
@[simp] theorem State.putArm_pft (s : State) (side : Side) (x : Arm) : (s.putArm side x).pft = s.pft := by
  simp [State.putArm]
@[simp] theorem State.putArm_tgv (s : State) (side : Side) (x : Arm) : (s.putArm side x).tgv = s.tgv := by
  simp [State.putArm]
@[simp] theorem State.putArm_clt (s : State) (side : Side) (x : Arm) : (s.putArm side x).clt = s.clt := by
  simp [State.putArm]
@[simp] theorem State.putArm_cfs (s : State) (side : Side) (x : Arm) : (s.putArm side x).cfs = s.cfs := by
  simp [State.putArm]
@[simp] theorem State.putArm_raceCount (s : State) (side : Side) (x : Arm) : (s.putArm side x).raceCount = s.raceCount := by
  simp [State.putArm]
@[simp] theorem State.putArm_pending (s : State) (side : Side) (x : Arm) : (s.putArm side x).pending = s.pending := by
  simp [State.putArm]
@[simp] theorem State.putArm_params (s : State) (side : Side) (x : Arm) : (s.putArm side x).params = s.params := by
  simp [State.putArm, State.params]
@[simp] theorem State.putArm_profile (s : State) (side : Side) (x : Arm) : (s.putArm side x).profile = s.profile := by
  simp [State.putArm, State.profile]
@[simp] theorem State.putArm_measured (s : State) (side : Side) (x : Arm) : (s.putArm side x).measured = s.measured := by
  simp [State.putArm, State.measured]
@[simp] theorem State.putArm_chan (s : State) (side : Side) (x : Arm) (ch : ChanId) : (s.putArm side x).chan ch = s.chan ch := by
  simp [State.putArm, State.chan]
@[simp] theorem State.putArm_position (s : State) (side : Side) (x : Arm) (sd : Side) : (s.putArm side x).position sd = s.position sd := by
  simp [State.putArm, State.position, State.chan]
@[simp] theorem State.putArm_armHomed (s : State) (side : Side) (x : Arm) (sd : Side) : (s.putArm side x).armHomed sd = s.armHomed sd := by
  simp [State.putArm, State.armHomed, State.chan]
@[simp] theorem State.putPickup_rstnHeld (s : State) (x : Pickup) : (s.putPickup x).rstnHeld = s.rstnHeld := by
  simp [State.putPickup]
@[simp] theorem State.putPickup_stopin (s : State) (x : Pickup) : (s.putPickup x).stopin = s.stopin := by
  simp [State.putPickup]
@[simp] theorem State.putPickup_ctu (s : State) (x : Pickup) : (s.putPickup x).ctu = s.ctu := by
  simp [State.putPickup]
@[simp] theorem State.putPickup_pft (s : State) (x : Pickup) : (s.putPickup x).pft = s.pft := by
  simp [State.putPickup]
@[simp] theorem State.putPickup_tgv (s : State) (x : Pickup) : (s.putPickup x).tgv = s.tgv := by
  simp [State.putPickup]
@[simp] theorem State.putPickup_clt (s : State) (x : Pickup) : (s.putPickup x).clt = s.clt := by
  simp [State.putPickup]
@[simp] theorem State.putPickup_cfs (s : State) (x : Pickup) : (s.putPickup x).cfs = s.cfs := by
  simp [State.putPickup]
@[simp] theorem State.putPickup_raceCount (s : State) (x : Pickup) : (s.putPickup x).raceCount = s.raceCount := by
  simp [State.putPickup]
@[simp] theorem State.putPickup_pending (s : State) (x : Pickup) : (s.putPickup x).pending = s.pending := by
  simp [State.putPickup]
@[simp] theorem State.putPickup_params (s : State) (x : Pickup) : (s.putPickup x).params = s.params := by
  simp [State.putPickup, State.params]
@[simp] theorem State.putPickup_profile (s : State) (x : Pickup) : (s.putPickup x).profile = s.profile := by
  simp [State.putPickup, State.profile]
@[simp] theorem State.putPickup_measured (s : State) (x : Pickup) : (s.putPickup x).measured = s.measured := by
  simp [State.putPickup, State.measured]
@[simp] theorem State.putPickup_chan (s : State) (x : Pickup) (ch : ChanId) : (s.putPickup x).chan ch = s.chan ch := by
  simp [State.putPickup, State.chan]
@[simp] theorem State.putPickup_position (s : State) (x : Pickup) (sd : Side) : (s.putPickup x).position sd = s.position sd := by
  simp [State.putPickup, State.position, State.chan]
@[simp] theorem State.putPickup_armHomed (s : State) (x : Pickup) (sd : Side) : (s.putPickup x).armHomed sd = s.armHomed sd := by
  simp [State.putPickup, State.armHomed, State.chan]
@[simp] theorem State.liftArm_rstnHeld (s : State) (side : Side) (c : Cause) : (s.liftArm side c).rstnHeld = s.rstnHeld := by
  simp [State.liftArm]
@[simp] theorem State.liftArm_stopin (s : State) (side : Side) (c : Cause) : (s.liftArm side c).stopin = s.stopin := by
  simp [State.liftArm]
@[simp] theorem State.liftArm_ctu (s : State) (side : Side) (c : Cause) : (s.liftArm side c).ctu = s.ctu := by
  simp [State.liftArm]
@[simp] theorem State.liftArm_pft (s : State) (side : Side) (c : Cause) : (s.liftArm side c).pft = s.pft := by
  simp [State.liftArm]
@[simp] theorem State.liftArm_tgv (s : State) (side : Side) (c : Cause) : (s.liftArm side c).tgv = s.tgv := by
  simp [State.liftArm]
@[simp] theorem State.liftArm_clt (s : State) (side : Side) (c : Cause) : (s.liftArm side c).clt = s.clt := by
  simp [State.liftArm]
@[simp] theorem State.liftArm_cfs (s : State) (side : Side) (c : Cause) : (s.liftArm side c).cfs = s.cfs := by
  simp [State.liftArm]
@[simp] theorem State.liftArm_raceCount (s : State) (side : Side) (c : Cause) : (s.liftArm side c).raceCount = s.raceCount := by
  simp [State.liftArm]
@[simp] theorem State.liftArm_pending (s : State) (side : Side) (c : Cause) : (s.liftArm side c).pending = s.pending := by
  simp [State.liftArm]
@[simp] theorem State.liftArm_params (s : State) (side : Side) (c : Cause) : (s.liftArm side c).params = s.params := by
  simp [State.liftArm, State.params]
@[simp] theorem State.liftArm_profile (s : State) (side : Side) (c : Cause) : (s.liftArm side c).profile = s.profile := by
  simp [State.liftArm, State.profile]
@[simp] theorem State.liftArm_measured (s : State) (side : Side) (c : Cause) : (s.liftArm side c).measured = s.measured := by
  simp [State.liftArm, State.measured]
@[simp] theorem State.liftArm_chan (s : State) (side : Side) (c : Cause) (ch : ChanId) : (s.liftArm side c).chan ch = s.chan ch := by
  simp [State.liftArm, State.chan]
@[simp] theorem State.liftArm_position (s : State) (side : Side) (c : Cause) (sd : Side) : (s.liftArm side c).position sd = s.position sd := by
  simp [State.liftArm, State.position, State.chan]
@[simp] theorem State.liftArm_armHomed (s : State) (side : Side) (c : Cause) (sd : Side) : (s.liftArm side c).armHomed sd = s.armHomed sd := by
  simp [State.liftArm, State.armHomed, State.chan]
@[simp] theorem State.faultArm_rstnHeld (s : State) (side : Side) (c : Cause) : (s.faultArm side c).rstnHeld = s.rstnHeld := by
  simp [State.faultArm]
@[simp] theorem State.faultArm_stopin (s : State) (side : Side) (c : Cause) : (s.faultArm side c).stopin = s.stopin := by
  simp [State.faultArm]
@[simp] theorem State.faultArm_ctu (s : State) (side : Side) (c : Cause) : (s.faultArm side c).ctu = s.ctu := by
  simp [State.faultArm]
@[simp] theorem State.faultArm_pft (s : State) (side : Side) (c : Cause) : (s.faultArm side c).pft = s.pft := by
  simp [State.faultArm]
@[simp] theorem State.faultArm_tgv (s : State) (side : Side) (c : Cause) : (s.faultArm side c).tgv = s.tgv := by
  simp [State.faultArm]
@[simp] theorem State.faultArm_clt (s : State) (side : Side) (c : Cause) : (s.faultArm side c).clt = s.clt := by
  simp [State.faultArm]
@[simp] theorem State.faultArm_cfs (s : State) (side : Side) (c : Cause) : (s.faultArm side c).cfs = s.cfs := by
  simp [State.faultArm]
@[simp] theorem State.faultArm_raceCount (s : State) (side : Side) (c : Cause) : (s.faultArm side c).raceCount = s.raceCount := by
  simp [State.faultArm]
@[simp] theorem State.faultArm_pending (s : State) (side : Side) (c : Cause) : (s.faultArm side c).pending = s.pending := by
  simp [State.faultArm]
@[simp] theorem State.faultArm_params (s : State) (side : Side) (c : Cause) : (s.faultArm side c).params = s.params := by
  simp [State.faultArm, State.params]
@[simp] theorem State.faultArm_profile (s : State) (side : Side) (c : Cause) : (s.faultArm side c).profile = s.profile := by
  simp [State.faultArm, State.profile]
@[simp] theorem State.faultArm_measured (s : State) (side : Side) (c : Cause) : (s.faultArm side c).measured = s.measured := by
  simp [State.faultArm, State.measured]
@[simp] theorem State.faultArm_chan (s : State) (side : Side) (c : Cause) (ch : ChanId) : (s.faultArm side c).chan ch = s.chan ch := by
  simp [State.faultArm, State.chan]
@[simp] theorem State.faultArm_position (s : State) (side : Side) (c : Cause) (sd : Side) : (s.faultArm side c).position sd = s.position sd := by
  simp [State.faultArm, State.position, State.chan]
@[simp] theorem State.faultArm_armHomed (s : State) (side : Side) (c : Cause) (sd : Side) : (s.faultArm side c).armHomed sd = s.armHomed sd := by
  simp [State.faultArm, State.armHomed, State.chan]
@[simp] theorem State.raisePickup_rstnHeld (s : State) (c : Cause) : (s.raisePickup c).rstnHeld = s.rstnHeld := by
  simp [State.raisePickup]
@[simp] theorem State.raisePickup_stopin (s : State) (c : Cause) : (s.raisePickup c).stopin = s.stopin := by
  simp [State.raisePickup]
@[simp] theorem State.raisePickup_ctu (s : State) (c : Cause) : (s.raisePickup c).ctu = s.ctu := by
  simp [State.raisePickup]
@[simp] theorem State.raisePickup_pft (s : State) (c : Cause) : (s.raisePickup c).pft = s.pft := by
  simp [State.raisePickup]
@[simp] theorem State.raisePickup_tgv (s : State) (c : Cause) : (s.raisePickup c).tgv = s.tgv := by
  simp [State.raisePickup]
@[simp] theorem State.raisePickup_clt (s : State) (c : Cause) : (s.raisePickup c).clt = s.clt := by
  simp [State.raisePickup]
@[simp] theorem State.raisePickup_cfs (s : State) (c : Cause) : (s.raisePickup c).cfs = s.cfs := by
  simp [State.raisePickup]
@[simp] theorem State.raisePickup_raceCount (s : State) (c : Cause) : (s.raisePickup c).raceCount = s.raceCount := by
  simp [State.raisePickup]
@[simp] theorem State.raisePickup_pending (s : State) (c : Cause) : (s.raisePickup c).pending = s.pending := by
  simp [State.raisePickup]
@[simp] theorem State.raisePickup_params (s : State) (c : Cause) : (s.raisePickup c).params = s.params := by
  simp [State.raisePickup, State.params]
@[simp] theorem State.raisePickup_profile (s : State) (c : Cause) : (s.raisePickup c).profile = s.profile := by
  simp [State.raisePickup, State.profile]
@[simp] theorem State.raisePickup_measured (s : State) (c : Cause) : (s.raisePickup c).measured = s.measured := by
  simp [State.raisePickup, State.measured]
@[simp] theorem State.raisePickup_chan (s : State) (c : Cause) (ch : ChanId) : (s.raisePickup c).chan ch = s.chan ch := by
  simp [State.raisePickup, State.chan]
@[simp] theorem State.raisePickup_position (s : State) (c : Cause) (sd : Side) : (s.raisePickup c).position sd = s.position sd := by
  simp [State.raisePickup, State.position, State.chan]
@[simp] theorem State.raisePickup_armHomed (s : State) (c : Cause) (sd : Side) : (s.raisePickup c).armHomed sd = s.armHomed sd := by
  simp [State.raisePickup, State.armHomed, State.chan]
@[simp] theorem State.faultPickup_rstnHeld (s : State) (c : Cause) : (s.faultPickup c).rstnHeld = s.rstnHeld := by
  simp [State.faultPickup]
@[simp] theorem State.faultPickup_stopin (s : State) (c : Cause) : (s.faultPickup c).stopin = s.stopin := by
  simp [State.faultPickup]
@[simp] theorem State.faultPickup_ctu (s : State) (c : Cause) : (s.faultPickup c).ctu = s.ctu := by
  simp [State.faultPickup]
@[simp] theorem State.faultPickup_pft (s : State) (c : Cause) : (s.faultPickup c).pft = s.pft := by
  simp [State.faultPickup]
@[simp] theorem State.faultPickup_tgv (s : State) (c : Cause) : (s.faultPickup c).tgv = s.tgv := by
  simp [State.faultPickup]
@[simp] theorem State.faultPickup_clt (s : State) (c : Cause) : (s.faultPickup c).clt = s.clt := by
  simp [State.faultPickup]
@[simp] theorem State.faultPickup_cfs (s : State) (c : Cause) : (s.faultPickup c).cfs = s.cfs := by
  simp [State.faultPickup]
@[simp] theorem State.faultPickup_raceCount (s : State) (c : Cause) : (s.faultPickup c).raceCount = s.raceCount := by
  simp [State.faultPickup]
@[simp] theorem State.faultPickup_pending (s : State) (c : Cause) : (s.faultPickup c).pending = s.pending := by
  simp [State.faultPickup]
@[simp] theorem State.faultPickup_params (s : State) (c : Cause) : (s.faultPickup c).params = s.params := by
  simp [State.faultPickup, State.params]
@[simp] theorem State.faultPickup_profile (s : State) (c : Cause) : (s.faultPickup c).profile = s.profile := by
  simp [State.faultPickup, State.profile]
@[simp] theorem State.faultPickup_measured (s : State) (c : Cause) : (s.faultPickup c).measured = s.measured := by
  simp [State.faultPickup, State.measured]
@[simp] theorem State.faultPickup_chan (s : State) (c : Cause) (ch : ChanId) : (s.faultPickup c).chan ch = s.chan ch := by
  simp [State.faultPickup, State.chan]
@[simp] theorem State.faultPickup_position (s : State) (c : Cause) (sd : Side) : (s.faultPickup c).position sd = s.position sd := by
  simp [State.faultPickup, State.position, State.chan]
@[simp] theorem State.faultPickup_armHomed (s : State) (c : Cause) (sd : Side) : (s.faultPickup c).armHomed sd = s.armHomed sd := by
  simp [State.faultPickup, State.armHomed, State.chan]
@[simp] theorem State.armRetarget_rstnHeld (s : State) (side : Side) (x : Int) : ((s.armRetarget side x).1).rstnHeld = s.rstnHeld := by
  simp only [State.armRetarget]; (repeat' split) <;> simp
@[simp] theorem State.armRetarget_stopin (s : State) (side : Side) (x : Int) : ((s.armRetarget side x).1).stopin = s.stopin := by
  simp only [State.armRetarget]; (repeat' split) <;> simp
@[simp] theorem State.armRetarget_ctu (s : State) (side : Side) (x : Int) : ((s.armRetarget side x).1).ctu = s.ctu := by
  simp only [State.armRetarget]; (repeat' split) <;> simp
@[simp] theorem State.armRetarget_pft (s : State) (side : Side) (x : Int) : ((s.armRetarget side x).1).pft = s.pft := by
  simp only [State.armRetarget]; (repeat' split) <;> simp
@[simp] theorem State.armRetarget_tgv (s : State) (side : Side) (x : Int) : ((s.armRetarget side x).1).tgv = s.tgv := by
  simp only [State.armRetarget]; (repeat' split) <;> simp
@[simp] theorem State.armRetarget_clt (s : State) (side : Side) (x : Int) : ((s.armRetarget side x).1).clt = s.clt := by
  simp only [State.armRetarget]; (repeat' split) <;> simp
@[simp] theorem State.armRetarget_cfs (s : State) (side : Side) (x : Int) : ((s.armRetarget side x).1).cfs = s.cfs := by
  simp only [State.armRetarget]; (repeat' split) <;> simp
@[simp] theorem State.armRetarget_raceCount (s : State) (side : Side) (x : Int) : ((s.armRetarget side x).1).raceCount = s.raceCount := by
  simp only [State.armRetarget]; (repeat' split) <;> simp
@[simp] theorem State.armRetarget_pending (s : State) (side : Side) (x : Int) : ((s.armRetarget side x).1).pending = s.pending := by
  simp only [State.armRetarget]; (repeat' split) <;> simp
@[simp] theorem State.armRetarget_params (s : State) (side : Side) (x : Int) : ((s.armRetarget side x).1).params = s.params := by
  simp only [State.armRetarget]; (repeat' split) <;> simp [State.params]
@[simp] theorem State.armRetarget_profile (s : State) (side : Side) (x : Int) : ((s.armRetarget side x).1).profile = s.profile := by
  simp only [State.armRetarget]; (repeat' split) <;> simp [State.profile]
@[simp] theorem State.armRetarget_measured (s : State) (side : Side) (x : Int) : ((s.armRetarget side x).1).measured = s.measured := by
  simp only [State.armRetarget]; (repeat' split) <;> simp [State.measured]
@[simp] theorem State.armRetarget_chan (s : State) (side : Side) (x : Int) (ch : ChanId) : ((s.armRetarget side x).1).chan ch = s.chan ch := by
  simp only [State.armRetarget]; (repeat' split) <;> simp [State.chan]
@[simp] theorem State.armRetarget_position (s : State) (side : Side) (x : Int) (sd : Side) : ((s.armRetarget side x).1).position sd = s.position sd := by
  simp only [State.armRetarget]; (repeat' split) <;> simp [State.position, State.chan]
@[simp] theorem State.armRetarget_armHomed (s : State) (side : Side) (x : Int) (sd : Side) : ((s.armRetarget side x).1).armHomed sd = s.armHomed sd := by
  simp only [State.armRetarget]; (repeat' split) <;> simp [State.armHomed, State.chan]
@[simp] theorem State.armDeploy_rstnHeld (s : State) (side : Side) (x : Option Int) : ((s.armDeploy side x).1).rstnHeld = s.rstnHeld := by
  simp only [State.armDeploy]; (repeat' split) <;> simp
@[simp] theorem State.armDeploy_stopin (s : State) (side : Side) (x : Option Int) : ((s.armDeploy side x).1).stopin = s.stopin := by
  simp only [State.armDeploy]; (repeat' split) <;> simp
@[simp] theorem State.armDeploy_ctu (s : State) (side : Side) (x : Option Int) : ((s.armDeploy side x).1).ctu = s.ctu := by
  simp only [State.armDeploy]; (repeat' split) <;> simp
@[simp] theorem State.armDeploy_pft (s : State) (side : Side) (x : Option Int) : ((s.armDeploy side x).1).pft = s.pft := by
  simp only [State.armDeploy]; (repeat' split) <;> simp
@[simp] theorem State.armDeploy_tgv (s : State) (side : Side) (x : Option Int) : ((s.armDeploy side x).1).tgv = s.tgv := by
  simp only [State.armDeploy]; (repeat' split) <;> simp
@[simp] theorem State.armDeploy_clt (s : State) (side : Side) (x : Option Int) : ((s.armDeploy side x).1).clt = s.clt := by
  simp only [State.armDeploy]; (repeat' split) <;> simp
@[simp] theorem State.armDeploy_cfs (s : State) (side : Side) (x : Option Int) : ((s.armDeploy side x).1).cfs = s.cfs := by
  simp only [State.armDeploy]; (repeat' split) <;> simp
@[simp] theorem State.armDeploy_raceCount (s : State) (side : Side) (x : Option Int) : ((s.armDeploy side x).1).raceCount = s.raceCount := by
  simp only [State.armDeploy]; (repeat' split) <;> simp
@[simp] theorem State.armDeploy_pending (s : State) (side : Side) (x : Option Int) : ((s.armDeploy side x).1).pending = s.pending := by
  simp only [State.armDeploy]; (repeat' split) <;> simp
@[simp] theorem State.armDeploy_params (s : State) (side : Side) (x : Option Int) : ((s.armDeploy side x).1).params = s.params := by
  simp only [State.armDeploy]; (repeat' split) <;> simp [State.params]
@[simp] theorem State.armDeploy_profile (s : State) (side : Side) (x : Option Int) : ((s.armDeploy side x).1).profile = s.profile := by
  simp only [State.armDeploy]; (repeat' split) <;> simp [State.profile]
@[simp] theorem State.armDeploy_measured (s : State) (side : Side) (x : Option Int) : ((s.armDeploy side x).1).measured = s.measured := by
  simp only [State.armDeploy]; (repeat' split) <;> simp [State.measured]
@[simp] theorem State.armDeploy_chan (s : State) (side : Side) (x : Option Int) (ch : ChanId) : ((s.armDeploy side x).1).chan ch = s.chan ch := by
  simp only [State.armDeploy]; (repeat' split) <;> simp [State.chan]
@[simp] theorem State.armDeploy_position (s : State) (side : Side) (x : Option Int) (sd : Side) : ((s.armDeploy side x).1).position sd = s.position sd := by
  simp only [State.armDeploy]; (repeat' split) <;> simp [State.position, State.chan]
@[simp] theorem State.armDeploy_armHomed (s : State) (side : Side) (x : Option Int) (sd : Side) : ((s.armDeploy side x).1).armHomed sd = s.armHomed sd := by
  simp only [State.armDeploy]; (repeat' split) <;> simp [State.armHomed, State.chan]
@[simp] theorem State.armStow_rstnHeld (s : State) (side : Side) (c : Cause) : ((s.armStow side c).1).rstnHeld = s.rstnHeld := by
  simp only [State.armStow]; (repeat' split) <;> simp
@[simp] theorem State.armStow_stopin (s : State) (side : Side) (c : Cause) : ((s.armStow side c).1).stopin = s.stopin := by
  simp only [State.armStow]; (repeat' split) <;> simp
@[simp] theorem State.armStow_ctu (s : State) (side : Side) (c : Cause) : ((s.armStow side c).1).ctu = s.ctu := by
  simp only [State.armStow]; (repeat' split) <;> simp
@[simp] theorem State.armStow_pft (s : State) (side : Side) (c : Cause) : ((s.armStow side c).1).pft = s.pft := by
  simp only [State.armStow]; (repeat' split) <;> simp
@[simp] theorem State.armStow_tgv (s : State) (side : Side) (c : Cause) : ((s.armStow side c).1).tgv = s.tgv := by
  simp only [State.armStow]; (repeat' split) <;> simp
@[simp] theorem State.armStow_clt (s : State) (side : Side) (c : Cause) : ((s.armStow side c).1).clt = s.clt := by
  simp only [State.armStow]; (repeat' split) <;> simp
@[simp] theorem State.armStow_cfs (s : State) (side : Side) (c : Cause) : ((s.armStow side c).1).cfs = s.cfs := by
  simp only [State.armStow]; (repeat' split) <;> simp
@[simp] theorem State.armStow_raceCount (s : State) (side : Side) (c : Cause) : ((s.armStow side c).1).raceCount = s.raceCount := by
  simp only [State.armStow]; (repeat' split) <;> simp
@[simp] theorem State.armStow_pending (s : State) (side : Side) (c : Cause) : ((s.armStow side c).1).pending = s.pending := by
  simp only [State.armStow]; (repeat' split) <;> simp
@[simp] theorem State.armStow_params (s : State) (side : Side) (c : Cause) : ((s.armStow side c).1).params = s.params := by
  simp only [State.armStow]; (repeat' split) <;> simp [State.params]
@[simp] theorem State.armStow_profile (s : State) (side : Side) (c : Cause) : ((s.armStow side c).1).profile = s.profile := by
  simp only [State.armStow]; (repeat' split) <;> simp [State.profile]
@[simp] theorem State.armStow_measured (s : State) (side : Side) (c : Cause) : ((s.armStow side c).1).measured = s.measured := by
  simp only [State.armStow]; (repeat' split) <;> simp [State.measured]
@[simp] theorem State.armStow_chan (s : State) (side : Side) (c : Cause) (ch : ChanId) : ((s.armStow side c).1).chan ch = s.chan ch := by
  simp only [State.armStow]; (repeat' split) <;> simp [State.chan]
@[simp] theorem State.armStow_position (s : State) (side : Side) (c : Cause) (sd : Side) : ((s.armStow side c).1).position sd = s.position sd := by
  simp only [State.armStow]; (repeat' split) <;> simp [State.position, State.chan]
@[simp] theorem State.armStow_armHomed (s : State) (side : Side) (c : Cause) (sd : Side) : ((s.armStow side c).1).armHomed sd = s.armHomed sd := by
  simp only [State.armStow]; (repeat' split) <;> simp [State.armHomed, State.chan]
@[simp] theorem State.armClear_rstnHeld (s : State) (side : Side) : ((s.armClear side).1).rstnHeld = s.rstnHeld := by
  simp only [State.armClear]; (repeat' split) <;> simp
@[simp] theorem State.armClear_stopin (s : State) (side : Side) : ((s.armClear side).1).stopin = s.stopin := by
  simp only [State.armClear]; (repeat' split) <;> simp
@[simp] theorem State.armClear_ctu (s : State) (side : Side) : ((s.armClear side).1).ctu = s.ctu := by
  simp only [State.armClear]; (repeat' split) <;> simp
@[simp] theorem State.armClear_pft (s : State) (side : Side) : ((s.armClear side).1).pft = s.pft := by
  simp only [State.armClear]; (repeat' split) <;> simp
@[simp] theorem State.armClear_tgv (s : State) (side : Side) : ((s.armClear side).1).tgv = s.tgv := by
  simp only [State.armClear]; (repeat' split) <;> simp
@[simp] theorem State.armClear_clt (s : State) (side : Side) : ((s.armClear side).1).clt = s.clt := by
  simp only [State.armClear]; (repeat' split) <;> simp
@[simp] theorem State.armClear_cfs (s : State) (side : Side) : ((s.armClear side).1).cfs = s.cfs := by
  simp only [State.armClear]; (repeat' split) <;> simp
@[simp] theorem State.armClear_raceCount (s : State) (side : Side) : ((s.armClear side).1).raceCount = s.raceCount := by
  simp only [State.armClear]; (repeat' split) <;> simp
@[simp] theorem State.armClear_pending (s : State) (side : Side) : ((s.armClear side).1).pending = s.pending := by
  simp only [State.armClear]; (repeat' split) <;> simp
@[simp] theorem State.armClear_params (s : State) (side : Side) : ((s.armClear side).1).params = s.params := by
  simp only [State.armClear]; (repeat' split) <;> simp [State.params]
@[simp] theorem State.armClear_profile (s : State) (side : Side) : ((s.armClear side).1).profile = s.profile := by
  simp only [State.armClear]; (repeat' split) <;> simp [State.profile]
@[simp] theorem State.armClear_measured (s : State) (side : Side) : ((s.armClear side).1).measured = s.measured := by
  simp only [State.armClear]; (repeat' split) <;> simp [State.measured]
@[simp] theorem State.armClear_chan (s : State) (side : Side) (ch : ChanId) : ((s.armClear side).1).chan ch = s.chan ch := by
  simp only [State.armClear]; (repeat' split) <;> simp [State.chan]
@[simp] theorem State.armClear_position (s : State) (side : Side) (sd : Side) : ((s.armClear side).1).position sd = s.position sd := by
  simp only [State.armClear]; (repeat' split) <;> simp [State.position, State.chan]
@[simp] theorem State.armClear_armHomed (s : State) (side : Side) (sd : Side) : ((s.armClear side).1).armHomed sd = s.armHomed sd := by
  simp only [State.armClear]; (repeat' split) <;> simp [State.armHomed, State.chan]
@[simp] theorem State.pickupWork_rstnHeld (s : State) : (s.pickupWork.1).rstnHeld = s.rstnHeld := by
  simp only [State.pickupWork]; (repeat' split) <;> simp
@[simp] theorem State.pickupWork_stopin (s : State) : (s.pickupWork.1).stopin = s.stopin := by
  simp only [State.pickupWork]; (repeat' split) <;> simp
@[simp] theorem State.pickupWork_ctu (s : State) : (s.pickupWork.1).ctu = s.ctu := by
  simp only [State.pickupWork]; (repeat' split) <;> simp
@[simp] theorem State.pickupWork_pft (s : State) : (s.pickupWork.1).pft = s.pft := by
  simp only [State.pickupWork]; (repeat' split) <;> simp
@[simp] theorem State.pickupWork_tgv (s : State) : (s.pickupWork.1).tgv = s.tgv := by
  simp only [State.pickupWork]; (repeat' split) <;> simp
@[simp] theorem State.pickupWork_clt (s : State) : (s.pickupWork.1).clt = s.clt := by
  simp only [State.pickupWork]; (repeat' split) <;> simp
@[simp] theorem State.pickupWork_cfs (s : State) : (s.pickupWork.1).cfs = s.cfs := by
  simp only [State.pickupWork]; (repeat' split) <;> simp
@[simp] theorem State.pickupWork_raceCount (s : State) : (s.pickupWork.1).raceCount = s.raceCount := by
  simp only [State.pickupWork]; (repeat' split) <;> simp
@[simp] theorem State.pickupWork_pending (s : State) : (s.pickupWork.1).pending = s.pending := by
  simp only [State.pickupWork]; (repeat' split) <;> simp
@[simp] theorem State.pickupWork_params (s : State) : (s.pickupWork.1).params = s.params := by
  simp only [State.pickupWork]; (repeat' split) <;> simp [State.params]
@[simp] theorem State.pickupWork_profile (s : State) : (s.pickupWork.1).profile = s.profile := by
  simp only [State.pickupWork]; (repeat' split) <;> simp [State.profile]
@[simp] theorem State.pickupWork_measured (s : State) : (s.pickupWork.1).measured = s.measured := by
  simp only [State.pickupWork]; (repeat' split) <;> simp [State.measured]
@[simp] theorem State.pickupWork_chan (s : State) (ch : ChanId) : (s.pickupWork.1).chan ch = s.chan ch := by
  simp only [State.pickupWork]; (repeat' split) <;> simp [State.chan]
@[simp] theorem State.pickupWork_position (s : State) (sd : Side) : (s.pickupWork.1).position sd = s.position sd := by
  simp only [State.pickupWork]; (repeat' split) <;> simp [State.position, State.chan]
@[simp] theorem State.pickupWork_armHomed (s : State) (sd : Side) : (s.pickupWork.1).armHomed sd = s.armHomed sd := by
  simp only [State.pickupWork]; (repeat' split) <;> simp [State.armHomed, State.chan]
@[simp] theorem State.pickupUp_rstnHeld (s : State) : (s.pickupUp.1).rstnHeld = s.rstnHeld := by
  simp only [State.pickupUp]; (repeat' split) <;> simp
@[simp] theorem State.pickupUp_stopin (s : State) : (s.pickupUp.1).stopin = s.stopin := by
  simp only [State.pickupUp]; (repeat' split) <;> simp
@[simp] theorem State.pickupUp_ctu (s : State) : (s.pickupUp.1).ctu = s.ctu := by
  simp only [State.pickupUp]; (repeat' split) <;> simp
@[simp] theorem State.pickupUp_pft (s : State) : (s.pickupUp.1).pft = s.pft := by
  simp only [State.pickupUp]; (repeat' split) <;> simp
@[simp] theorem State.pickupUp_tgv (s : State) : (s.pickupUp.1).tgv = s.tgv := by
  simp only [State.pickupUp]; (repeat' split) <;> simp
@[simp] theorem State.pickupUp_clt (s : State) : (s.pickupUp.1).clt = s.clt := by
  simp only [State.pickupUp]; (repeat' split) <;> simp
@[simp] theorem State.pickupUp_cfs (s : State) : (s.pickupUp.1).cfs = s.cfs := by
  simp only [State.pickupUp]; (repeat' split) <;> simp
@[simp] theorem State.pickupUp_raceCount (s : State) : (s.pickupUp.1).raceCount = s.raceCount := by
  simp only [State.pickupUp]; (repeat' split) <;> simp
@[simp] theorem State.pickupUp_pending (s : State) : (s.pickupUp.1).pending = s.pending := by
  simp only [State.pickupUp]; (repeat' split) <;> simp
@[simp] theorem State.pickupUp_params (s : State) : (s.pickupUp.1).params = s.params := by
  simp only [State.pickupUp]; (repeat' split) <;> simp [State.params]
@[simp] theorem State.pickupUp_profile (s : State) : (s.pickupUp.1).profile = s.profile := by
  simp only [State.pickupUp]; (repeat' split) <;> simp [State.profile]
@[simp] theorem State.pickupUp_measured (s : State) : (s.pickupUp.1).measured = s.measured := by
  simp only [State.pickupUp]; (repeat' split) <;> simp [State.measured]
@[simp] theorem State.pickupUp_chan (s : State) (ch : ChanId) : (s.pickupUp.1).chan ch = s.chan ch := by
  simp only [State.pickupUp]; (repeat' split) <;> simp [State.chan]
@[simp] theorem State.pickupUp_position (s : State) (sd : Side) : (s.pickupUp.1).position sd = s.position sd := by
  simp only [State.pickupUp]; (repeat' split) <;> simp [State.position, State.chan]
@[simp] theorem State.pickupUp_armHomed (s : State) (sd : Side) : (s.pickupUp.1).armHomed sd = s.armHomed sd := by
  simp only [State.pickupUp]; (repeat' split) <;> simp [State.armHomed, State.chan]
@[simp] theorem State.pickupClaimLoss_rstnHeld (s : State) : (s.pickupClaimLoss).rstnHeld = s.rstnHeld := by
  simp only [State.pickupClaimLoss]; (repeat' split) <;> simp
@[simp] theorem State.pickupClaimLoss_stopin (s : State) : (s.pickupClaimLoss).stopin = s.stopin := by
  simp only [State.pickupClaimLoss]; (repeat' split) <;> simp
@[simp] theorem State.pickupClaimLoss_ctu (s : State) : (s.pickupClaimLoss).ctu = s.ctu := by
  simp only [State.pickupClaimLoss]; (repeat' split) <;> simp
@[simp] theorem State.pickupClaimLoss_pft (s : State) : (s.pickupClaimLoss).pft = s.pft := by
  simp only [State.pickupClaimLoss]; (repeat' split) <;> simp
@[simp] theorem State.pickupClaimLoss_tgv (s : State) : (s.pickupClaimLoss).tgv = s.tgv := by
  simp only [State.pickupClaimLoss]; (repeat' split) <;> simp
@[simp] theorem State.pickupClaimLoss_clt (s : State) : (s.pickupClaimLoss).clt = s.clt := by
  simp only [State.pickupClaimLoss]; (repeat' split) <;> simp
@[simp] theorem State.pickupClaimLoss_cfs (s : State) : (s.pickupClaimLoss).cfs = s.cfs := by
  simp only [State.pickupClaimLoss]; (repeat' split) <;> simp
@[simp] theorem State.pickupClaimLoss_raceCount (s : State) : (s.pickupClaimLoss).raceCount = s.raceCount := by
  simp only [State.pickupClaimLoss]; (repeat' split) <;> simp
@[simp] theorem State.pickupClaimLoss_pending (s : State) : (s.pickupClaimLoss).pending = s.pending := by
  simp only [State.pickupClaimLoss]; (repeat' split) <;> simp
@[simp] theorem State.pickupClaimLoss_params (s : State) : (s.pickupClaimLoss).params = s.params := by
  simp only [State.pickupClaimLoss]; (repeat' split) <;> simp [State.params]
@[simp] theorem State.pickupClaimLoss_profile (s : State) : (s.pickupClaimLoss).profile = s.profile := by
  simp only [State.pickupClaimLoss]; (repeat' split) <;> simp [State.profile]
@[simp] theorem State.pickupClaimLoss_measured (s : State) : (s.pickupClaimLoss).measured = s.measured := by
  simp only [State.pickupClaimLoss]; (repeat' split) <;> simp [State.measured]
@[simp] theorem State.pickupClaimLoss_chan (s : State) (ch : ChanId) : (s.pickupClaimLoss).chan ch = s.chan ch := by
  simp only [State.pickupClaimLoss]; (repeat' split) <;> simp [State.chan]
@[simp] theorem State.pickupClaimLoss_position (s : State) (sd : Side) : (s.pickupClaimLoss).position sd = s.position sd := by
  simp only [State.pickupClaimLoss]; (repeat' split) <;> simp [State.position, State.chan]
@[simp] theorem State.pickupClaimLoss_armHomed (s : State) (sd : Side) : (s.pickupClaimLoss).armHomed sd = s.armHomed sd := by
  simp only [State.pickupClaimLoss]; (repeat' split) <;> simp [State.armHomed, State.chan]
@[simp] theorem State.indexEvent_rstnHeld (s : State) (side : Side) : (s.indexEvent side).rstnHeld = s.rstnHeld := by
  simp only [State.indexEvent]; (repeat' split) <;> simp
@[simp] theorem State.indexEvent_stopin (s : State) (side : Side) : (s.indexEvent side).stopin = s.stopin := by
  simp only [State.indexEvent]; (repeat' split) <;> simp
@[simp] theorem State.indexEvent_ctu (s : State) (side : Side) : (s.indexEvent side).ctu = s.ctu := by
  simp only [State.indexEvent]; (repeat' split) <;> simp
@[simp] theorem State.indexEvent_pft (s : State) (side : Side) : (s.indexEvent side).pft = s.pft := by
  simp only [State.indexEvent]; (repeat' split) <;> simp
@[simp] theorem State.indexEvent_tgv (s : State) (side : Side) : (s.indexEvent side).tgv = s.tgv := by
  simp only [State.indexEvent]; (repeat' split) <;> simp
@[simp] theorem State.indexEvent_clt (s : State) (side : Side) : (s.indexEvent side).clt = s.clt := by
  simp only [State.indexEvent]; (repeat' split) <;> simp
@[simp] theorem State.indexEvent_cfs (s : State) (side : Side) : (s.indexEvent side).cfs = s.cfs := by
  simp only [State.indexEvent]; (repeat' split) <;> simp
@[simp] theorem State.indexEvent_raceCount (s : State) (side : Side) : (s.indexEvent side).raceCount = s.raceCount := by
  simp only [State.indexEvent]; (repeat' split) <;> simp
@[simp] theorem State.indexEvent_pending (s : State) (side : Side) : (s.indexEvent side).pending = s.pending := by
  simp only [State.indexEvent]; (repeat' split) <;> simp
@[simp] theorem State.indexEvent_params (s : State) (side : Side) : (s.indexEvent side).params = s.params := by
  simp only [State.indexEvent]; (repeat' split) <;> simp [State.params]
@[simp] theorem State.indexEvent_profile (s : State) (side : Side) : (s.indexEvent side).profile = s.profile := by
  simp only [State.indexEvent]; (repeat' split) <;> simp [State.profile]
@[simp] theorem State.indexEvent_measured (s : State) (side : Side) : (s.indexEvent side).measured = s.measured := by
  simp only [State.indexEvent]; (repeat' split) <;> simp [State.measured]
@[simp] theorem State.indexEvent_chan (s : State) (side : Side) (ch : ChanId) : (s.indexEvent side).chan ch = s.chan ch := by
  simp only [State.indexEvent]; (repeat' split) <;> simp [State.chan]
@[simp] theorem State.indexEvent_position (s : State) (side : Side) (sd : Side) : (s.indexEvent side).position sd = s.position sd := by
  simp only [State.indexEvent]; (repeat' split) <;> simp [State.position, State.chan]
@[simp] theorem State.indexEvent_armHomed (s : State) (side : Side) (sd : Side) : (s.indexEvent side).armHomed sd = s.armHomed sd := by
  simp only [State.indexEvent]; (repeat' split) <;> simp [State.armHomed, State.chan]
@[simp] theorem State.armTimeout_rstnHeld (s : State) (side : Side) : (s.armTimeout side).rstnHeld = s.rstnHeld := by
  simp only [State.armTimeout]; (repeat' split) <;> simp
@[simp] theorem State.armTimeout_stopin (s : State) (side : Side) : (s.armTimeout side).stopin = s.stopin := by
  simp only [State.armTimeout]; (repeat' split) <;> simp
@[simp] theorem State.armTimeout_ctu (s : State) (side : Side) : (s.armTimeout side).ctu = s.ctu := by
  simp only [State.armTimeout]; (repeat' split) <;> simp
@[simp] theorem State.armTimeout_pft (s : State) (side : Side) : (s.armTimeout side).pft = s.pft := by
  simp only [State.armTimeout]; (repeat' split) <;> simp
@[simp] theorem State.armTimeout_tgv (s : State) (side : Side) : (s.armTimeout side).tgv = s.tgv := by
  simp only [State.armTimeout]; (repeat' split) <;> simp
@[simp] theorem State.armTimeout_clt (s : State) (side : Side) : (s.armTimeout side).clt = s.clt := by
  simp only [State.armTimeout]; (repeat' split) <;> simp
@[simp] theorem State.armTimeout_cfs (s : State) (side : Side) : (s.armTimeout side).cfs = s.cfs := by
  simp only [State.armTimeout]; (repeat' split) <;> simp
@[simp] theorem State.armTimeout_raceCount (s : State) (side : Side) : (s.armTimeout side).raceCount = s.raceCount := by
  simp only [State.armTimeout]; (repeat' split) <;> simp
@[simp] theorem State.armTimeout_pending (s : State) (side : Side) : (s.armTimeout side).pending = s.pending := by
  simp only [State.armTimeout]; (repeat' split) <;> simp
@[simp] theorem State.armTimeout_params (s : State) (side : Side) : (s.armTimeout side).params = s.params := by
  simp only [State.armTimeout]; (repeat' split) <;> simp [State.params]
@[simp] theorem State.armTimeout_profile (s : State) (side : Side) : (s.armTimeout side).profile = s.profile := by
  simp only [State.armTimeout]; (repeat' split) <;> simp [State.profile]
@[simp] theorem State.armTimeout_measured (s : State) (side : Side) : (s.armTimeout side).measured = s.measured := by
  simp only [State.armTimeout]; (repeat' split) <;> simp [State.measured]
@[simp] theorem State.armTimeout_chan (s : State) (side : Side) (ch : ChanId) : (s.armTimeout side).chan ch = s.chan ch := by
  simp only [State.armTimeout]; (repeat' split) <;> simp [State.chan]
@[simp] theorem State.armTimeout_position (s : State) (side : Side) (sd : Side) : (s.armTimeout side).position sd = s.position sd := by
  simp only [State.armTimeout]; (repeat' split) <;> simp [State.position, State.chan]
@[simp] theorem State.armTimeout_armHomed (s : State) (side : Side) (sd : Side) : (s.armTimeout side).armHomed sd = s.armHomed sd := by
  simp only [State.armTimeout]; (repeat' split) <;> simp [State.armHomed, State.chan]
@[simp] theorem State.pickupTimeout_rstnHeld (s : State) : (s.pickupTimeout).rstnHeld = s.rstnHeld := by
  simp only [State.pickupTimeout]; (repeat' split) <;> simp
@[simp] theorem State.pickupTimeout_stopin (s : State) : (s.pickupTimeout).stopin = s.stopin := by
  simp only [State.pickupTimeout]; (repeat' split) <;> simp
@[simp] theorem State.pickupTimeout_ctu (s : State) : (s.pickupTimeout).ctu = s.ctu := by
  simp only [State.pickupTimeout]; (repeat' split) <;> simp
@[simp] theorem State.pickupTimeout_pft (s : State) : (s.pickupTimeout).pft = s.pft := by
  simp only [State.pickupTimeout]; (repeat' split) <;> simp
@[simp] theorem State.pickupTimeout_tgv (s : State) : (s.pickupTimeout).tgv = s.tgv := by
  simp only [State.pickupTimeout]; (repeat' split) <;> simp
@[simp] theorem State.pickupTimeout_clt (s : State) : (s.pickupTimeout).clt = s.clt := by
  simp only [State.pickupTimeout]; (repeat' split) <;> simp
@[simp] theorem State.pickupTimeout_cfs (s : State) : (s.pickupTimeout).cfs = s.cfs := by
  simp only [State.pickupTimeout]; (repeat' split) <;> simp
@[simp] theorem State.pickupTimeout_raceCount (s : State) : (s.pickupTimeout).raceCount = s.raceCount := by
  simp only [State.pickupTimeout]; (repeat' split) <;> simp
@[simp] theorem State.pickupTimeout_pending (s : State) : (s.pickupTimeout).pending = s.pending := by
  simp only [State.pickupTimeout]; (repeat' split) <;> simp
@[simp] theorem State.pickupTimeout_params (s : State) : (s.pickupTimeout).params = s.params := by
  simp only [State.pickupTimeout]; (repeat' split) <;> simp [State.params]
@[simp] theorem State.pickupTimeout_profile (s : State) : (s.pickupTimeout).profile = s.profile := by
  simp only [State.pickupTimeout]; (repeat' split) <;> simp [State.profile]
@[simp] theorem State.pickupTimeout_measured (s : State) : (s.pickupTimeout).measured = s.measured := by
  simp only [State.pickupTimeout]; (repeat' split) <;> simp [State.measured]
@[simp] theorem State.pickupTimeout_chan (s : State) (ch : ChanId) : (s.pickupTimeout).chan ch = s.chan ch := by
  simp only [State.pickupTimeout]; (repeat' split) <;> simp [State.chan]
@[simp] theorem State.pickupTimeout_position (s : State) (sd : Side) : (s.pickupTimeout).position sd = s.position sd := by
  simp only [State.pickupTimeout]; (repeat' split) <;> simp [State.position, State.chan]
@[simp] theorem State.pickupTimeout_armHomed (s : State) (sd : Side) : (s.pickupTimeout).armHomed sd = s.armHomed sd := by
  simp only [State.pickupTimeout]; (repeat' split) <;> simp [State.armHomed, State.chan]
@[simp] theorem State.armSwitch_rstnHeld (s : State) (side : Side) (sw : SwitchEnd) (b : Bool) : (s.armSwitch side sw b).rstnHeld = s.rstnHeld := by
  simp only [State.armSwitch]; (repeat' split) <;> simp
@[simp] theorem State.armSwitch_stopin (s : State) (side : Side) (sw : SwitchEnd) (b : Bool) : (s.armSwitch side sw b).stopin = s.stopin := by
  simp only [State.armSwitch]; (repeat' split) <;> simp
@[simp] theorem State.armSwitch_ctu (s : State) (side : Side) (sw : SwitchEnd) (b : Bool) : (s.armSwitch side sw b).ctu = s.ctu := by
  simp only [State.armSwitch]; (repeat' split) <;> simp
@[simp] theorem State.armSwitch_pft (s : State) (side : Side) (sw : SwitchEnd) (b : Bool) : (s.armSwitch side sw b).pft = s.pft := by
  simp only [State.armSwitch]; (repeat' split) <;> simp
@[simp] theorem State.armSwitch_tgv (s : State) (side : Side) (sw : SwitchEnd) (b : Bool) : (s.armSwitch side sw b).tgv = s.tgv := by
  simp only [State.armSwitch]; (repeat' split) <;> simp
@[simp] theorem State.armSwitch_clt (s : State) (side : Side) (sw : SwitchEnd) (b : Bool) : (s.armSwitch side sw b).clt = s.clt := by
  simp only [State.armSwitch]; (repeat' split) <;> simp
@[simp] theorem State.armSwitch_cfs (s : State) (side : Side) (sw : SwitchEnd) (b : Bool) : (s.armSwitch side sw b).cfs = s.cfs := by
  simp only [State.armSwitch]; (repeat' split) <;> simp
@[simp] theorem State.armSwitch_raceCount (s : State) (side : Side) (sw : SwitchEnd) (b : Bool) : (s.armSwitch side sw b).raceCount = s.raceCount := by
  simp only [State.armSwitch]; (repeat' split) <;> simp
@[simp] theorem State.armSwitch_pending (s : State) (side : Side) (sw : SwitchEnd) (b : Bool) : (s.armSwitch side sw b).pending = s.pending := by
  simp only [State.armSwitch]; (repeat' split) <;> simp
@[simp] theorem State.armSwitch_params (s : State) (side : Side) (sw : SwitchEnd) (b : Bool) : (s.armSwitch side sw b).params = s.params := by
  simp only [State.armSwitch]; (repeat' split) <;> simp [State.params]
@[simp] theorem State.armSwitch_profile (s : State) (side : Side) (sw : SwitchEnd) (b : Bool) : (s.armSwitch side sw b).profile = s.profile := by
  simp only [State.armSwitch]; (repeat' split) <;> simp [State.profile]
@[simp] theorem State.armSwitch_measured (s : State) (side : Side) (sw : SwitchEnd) (b : Bool) : (s.armSwitch side sw b).measured = s.measured := by
  simp only [State.armSwitch]; (repeat' split) <;> simp [State.measured]
@[simp] theorem State.armSwitch_chan (s : State) (side : Side) (sw : SwitchEnd) (b : Bool) (ch : ChanId) : (s.armSwitch side sw b).chan ch = s.chan ch := by
  simp only [State.armSwitch]; (repeat' split) <;> simp [State.chan]
@[simp] theorem State.armSwitch_position (s : State) (side : Side) (sw : SwitchEnd) (b : Bool) (sd : Side) : (s.armSwitch side sw b).position sd = s.position sd := by
  simp only [State.armSwitch]; (repeat' split) <;> simp [State.position, State.chan]
@[simp] theorem State.armSwitch_armHomed (s : State) (side : Side) (sw : SwitchEnd) (b : Bool) (sd : Side) : (s.armSwitch side sw b).armHomed sd = s.armHomed sd := by
  simp only [State.armSwitch]; (repeat' split) <;> simp [State.armHomed, State.chan]
@[simp] theorem State.pickupSwitch_rstnHeld (s : State) (sw : SwitchEnd) (b : Bool) : (s.pickupSwitch sw b).rstnHeld = s.rstnHeld := by
  simp only [State.pickupSwitch]; (repeat' split) <;> simp
@[simp] theorem State.pickupSwitch_stopin (s : State) (sw : SwitchEnd) (b : Bool) : (s.pickupSwitch sw b).stopin = s.stopin := by
  simp only [State.pickupSwitch]; (repeat' split) <;> simp
@[simp] theorem State.pickupSwitch_ctu (s : State) (sw : SwitchEnd) (b : Bool) : (s.pickupSwitch sw b).ctu = s.ctu := by
  simp only [State.pickupSwitch]; (repeat' split) <;> simp
@[simp] theorem State.pickupSwitch_pft (s : State) (sw : SwitchEnd) (b : Bool) : (s.pickupSwitch sw b).pft = s.pft := by
  simp only [State.pickupSwitch]; (repeat' split) <;> simp
@[simp] theorem State.pickupSwitch_tgv (s : State) (sw : SwitchEnd) (b : Bool) : (s.pickupSwitch sw b).tgv = s.tgv := by
  simp only [State.pickupSwitch]; (repeat' split) <;> simp
@[simp] theorem State.pickupSwitch_clt (s : State) (sw : SwitchEnd) (b : Bool) : (s.pickupSwitch sw b).clt = s.clt := by
  simp only [State.pickupSwitch]; (repeat' split) <;> simp
@[simp] theorem State.pickupSwitch_cfs (s : State) (sw : SwitchEnd) (b : Bool) : (s.pickupSwitch sw b).cfs = s.cfs := by
  simp only [State.pickupSwitch]; (repeat' split) <;> simp
@[simp] theorem State.pickupSwitch_raceCount (s : State) (sw : SwitchEnd) (b : Bool) : (s.pickupSwitch sw b).raceCount = s.raceCount := by
  simp only [State.pickupSwitch]; (repeat' split) <;> simp
@[simp] theorem State.pickupSwitch_pending (s : State) (sw : SwitchEnd) (b : Bool) : (s.pickupSwitch sw b).pending = s.pending := by
  simp only [State.pickupSwitch]; (repeat' split) <;> simp
@[simp] theorem State.pickupSwitch_params (s : State) (sw : SwitchEnd) (b : Bool) : (s.pickupSwitch sw b).params = s.params := by
  simp only [State.pickupSwitch]; (repeat' split) <;> simp [State.params]
@[simp] theorem State.pickupSwitch_profile (s : State) (sw : SwitchEnd) (b : Bool) : (s.pickupSwitch sw b).profile = s.profile := by
  simp only [State.pickupSwitch]; (repeat' split) <;> simp [State.profile]
@[simp] theorem State.pickupSwitch_measured (s : State) (sw : SwitchEnd) (b : Bool) : (s.pickupSwitch sw b).measured = s.measured := by
  simp only [State.pickupSwitch]; (repeat' split) <;> simp [State.measured]
@[simp] theorem State.pickupSwitch_chan (s : State) (sw : SwitchEnd) (b : Bool) (ch : ChanId) : (s.pickupSwitch sw b).chan ch = s.chan ch := by
  simp only [State.pickupSwitch]; (repeat' split) <;> simp [State.chan]
@[simp] theorem State.pickupSwitch_position (s : State) (sw : SwitchEnd) (b : Bool) (sd : Side) : (s.pickupSwitch sw b).position sd = s.position sd := by
  simp only [State.pickupSwitch]; (repeat' split) <;> simp [State.position, State.chan]
@[simp] theorem State.pickupSwitch_armHomed (s : State) (sw : SwitchEnd) (b : Bool) (sd : Side) : (s.pickupSwitch sw b).armHomed sd = s.armHomed sd := by
  simp only [State.pickupSwitch]; (repeat' split) <;> simp [State.armHomed, State.chan]
@[simp] theorem State.stopArm_rstnHeld (s : State) (side : Side) : (s.stopArm side).rstnHeld = s.rstnHeld := by
  simp only [State.stopArm]; (repeat' split) <;> simp
@[simp] theorem State.stopArm_stopin (s : State) (side : Side) : (s.stopArm side).stopin = s.stopin := by
  simp only [State.stopArm]; (repeat' split) <;> simp
@[simp] theorem State.stopArm_ctu (s : State) (side : Side) : (s.stopArm side).ctu = s.ctu := by
  simp only [State.stopArm]; (repeat' split) <;> simp
@[simp] theorem State.stopArm_pft (s : State) (side : Side) : (s.stopArm side).pft = s.pft := by
  simp only [State.stopArm]; (repeat' split) <;> simp
@[simp] theorem State.stopArm_tgv (s : State) (side : Side) : (s.stopArm side).tgv = s.tgv := by
  simp only [State.stopArm]; (repeat' split) <;> simp
@[simp] theorem State.stopArm_clt (s : State) (side : Side) : (s.stopArm side).clt = s.clt := by
  simp only [State.stopArm]; (repeat' split) <;> simp
@[simp] theorem State.stopArm_cfs (s : State) (side : Side) : (s.stopArm side).cfs = s.cfs := by
  simp only [State.stopArm]; (repeat' split) <;> simp
@[simp] theorem State.stopArm_raceCount (s : State) (side : Side) : (s.stopArm side).raceCount = s.raceCount := by
  simp only [State.stopArm]; (repeat' split) <;> simp
@[simp] theorem State.stopArm_pending (s : State) (side : Side) : (s.stopArm side).pending = s.pending := by
  simp only [State.stopArm]; (repeat' split) <;> simp
@[simp] theorem State.stopArm_params (s : State) (side : Side) : (s.stopArm side).params = s.params := by
  simp only [State.stopArm]; (repeat' split) <;> simp [State.params]
@[simp] theorem State.stopArm_profile (s : State) (side : Side) : (s.stopArm side).profile = s.profile := by
  simp only [State.stopArm]; (repeat' split) <;> simp [State.profile]
@[simp] theorem State.stopArm_measured (s : State) (side : Side) : (s.stopArm side).measured = s.measured := by
  simp only [State.stopArm]; (repeat' split) <;> simp [State.measured]
@[simp] theorem State.stopArm_chan (s : State) (side : Side) (ch : ChanId) : (s.stopArm side).chan ch = s.chan ch := by
  simp only [State.stopArm]; (repeat' split) <;> simp [State.chan]
@[simp] theorem State.stopArm_position (s : State) (side : Side) (sd : Side) : (s.stopArm side).position sd = s.position sd := by
  simp only [State.stopArm]; (repeat' split) <;> simp [State.position, State.chan]
@[simp] theorem State.stopArm_armHomed (s : State) (side : Side) (sd : Side) : (s.stopArm side).armHomed sd = s.armHomed sd := by
  simp only [State.stopArm]; (repeat' split) <;> simp [State.armHomed, State.chan]
@[simp] theorem State.stopPickup_rstnHeld (s : State) : (s.stopPickup).rstnHeld = s.rstnHeld := by
  simp only [State.stopPickup]; (repeat' split) <;> simp
@[simp] theorem State.stopPickup_stopin (s : State) : (s.stopPickup).stopin = s.stopin := by
  simp only [State.stopPickup]; (repeat' split) <;> simp
@[simp] theorem State.stopPickup_ctu (s : State) : (s.stopPickup).ctu = s.ctu := by
  simp only [State.stopPickup]; (repeat' split) <;> simp
@[simp] theorem State.stopPickup_pft (s : State) : (s.stopPickup).pft = s.pft := by
  simp only [State.stopPickup]; (repeat' split) <;> simp
@[simp] theorem State.stopPickup_tgv (s : State) : (s.stopPickup).tgv = s.tgv := by
  simp only [State.stopPickup]; (repeat' split) <;> simp
@[simp] theorem State.stopPickup_clt (s : State) : (s.stopPickup).clt = s.clt := by
  simp only [State.stopPickup]; (repeat' split) <;> simp
@[simp] theorem State.stopPickup_cfs (s : State) : (s.stopPickup).cfs = s.cfs := by
  simp only [State.stopPickup]; (repeat' split) <;> simp
@[simp] theorem State.stopPickup_raceCount (s : State) : (s.stopPickup).raceCount = s.raceCount := by
  simp only [State.stopPickup]; (repeat' split) <;> simp
@[simp] theorem State.stopPickup_pending (s : State) : (s.stopPickup).pending = s.pending := by
  simp only [State.stopPickup]; (repeat' split) <;> simp
@[simp] theorem State.stopPickup_params (s : State) : (s.stopPickup).params = s.params := by
  simp only [State.stopPickup]; (repeat' split) <;> simp [State.params]
@[simp] theorem State.stopPickup_profile (s : State) : (s.stopPickup).profile = s.profile := by
  simp only [State.stopPickup]; (repeat' split) <;> simp [State.profile]
@[simp] theorem State.stopPickup_measured (s : State) : (s.stopPickup).measured = s.measured := by
  simp only [State.stopPickup]; (repeat' split) <;> simp [State.measured]
@[simp] theorem State.stopPickup_chan (s : State) (ch : ChanId) : (s.stopPickup).chan ch = s.chan ch := by
  simp only [State.stopPickup]; (repeat' split) <;> simp [State.chan]
@[simp] theorem State.stopPickup_position (s : State) (sd : Side) : (s.stopPickup).position sd = s.position sd := by
  simp only [State.stopPickup]; (repeat' split) <;> simp [State.position, State.chan]
@[simp] theorem State.stopPickup_armHomed (s : State) (sd : Side) : (s.stopPickup).armHomed sd = s.armHomed sd := by
  simp only [State.stopPickup]; (repeat' split) <;> simp [State.armHomed, State.chan]
@[simp] theorem State.starveArm_rstnHeld (s : State) (side : Side) : (s.starveArm side).rstnHeld = s.rstnHeld := by
  simp only [State.starveArm]; (repeat' split) <;> simp
@[simp] theorem State.starveArm_stopin (s : State) (side : Side) : (s.starveArm side).stopin = s.stopin := by
  simp only [State.starveArm]; (repeat' split) <;> simp
@[simp] theorem State.starveArm_ctu (s : State) (side : Side) : (s.starveArm side).ctu = s.ctu := by
  simp only [State.starveArm]; (repeat' split) <;> simp
@[simp] theorem State.starveArm_pft (s : State) (side : Side) : (s.starveArm side).pft = s.pft := by
  simp only [State.starveArm]; (repeat' split) <;> simp
@[simp] theorem State.starveArm_tgv (s : State) (side : Side) : (s.starveArm side).tgv = s.tgv := by
  simp only [State.starveArm]; (repeat' split) <;> simp
@[simp] theorem State.starveArm_clt (s : State) (side : Side) : (s.starveArm side).clt = s.clt := by
  simp only [State.starveArm]; (repeat' split) <;> simp
@[simp] theorem State.starveArm_cfs (s : State) (side : Side) : (s.starveArm side).cfs = s.cfs := by
  simp only [State.starveArm]; (repeat' split) <;> simp
@[simp] theorem State.starveArm_raceCount (s : State) (side : Side) : (s.starveArm side).raceCount = s.raceCount := by
  simp only [State.starveArm]; (repeat' split) <;> simp
@[simp] theorem State.starveArm_pending (s : State) (side : Side) : (s.starveArm side).pending = s.pending := by
  simp only [State.starveArm]; (repeat' split) <;> simp
@[simp] theorem State.starveArm_params (s : State) (side : Side) : (s.starveArm side).params = s.params := by
  simp only [State.starveArm]; (repeat' split) <;> simp [State.params]
@[simp] theorem State.starveArm_profile (s : State) (side : Side) : (s.starveArm side).profile = s.profile := by
  simp only [State.starveArm]; (repeat' split) <;> simp [State.profile]
@[simp] theorem State.starveArm_measured (s : State) (side : Side) : (s.starveArm side).measured = s.measured := by
  simp only [State.starveArm]; (repeat' split) <;> simp [State.measured]
@[simp] theorem State.starveArm_chan (s : State) (side : Side) (ch : ChanId) : (s.starveArm side).chan ch = s.chan ch := by
  simp only [State.starveArm]; (repeat' split) <;> simp [State.chan]
@[simp] theorem State.starveArm_position (s : State) (side : Side) (sd : Side) : (s.starveArm side).position sd = s.position sd := by
  simp only [State.starveArm]; (repeat' split) <;> simp [State.position, State.chan]
@[simp] theorem State.starveArm_armHomed (s : State) (side : Side) (sd : Side) : (s.starveArm side).armHomed sd = s.armHomed sd := by
  simp only [State.starveArm]; (repeat' split) <;> simp [State.armHomed, State.chan]
@[simp] theorem State.starvePickup_rstnHeld (s : State) : (s.starvePickup).rstnHeld = s.rstnHeld := by
  simp only [State.starvePickup]; (repeat' split) <;> simp
@[simp] theorem State.starvePickup_stopin (s : State) : (s.starvePickup).stopin = s.stopin := by
  simp only [State.starvePickup]; (repeat' split) <;> simp
@[simp] theorem State.starvePickup_ctu (s : State) : (s.starvePickup).ctu = s.ctu := by
  simp only [State.starvePickup]; (repeat' split) <;> simp
@[simp] theorem State.starvePickup_pft (s : State) : (s.starvePickup).pft = s.pft := by
  simp only [State.starvePickup]; (repeat' split) <;> simp
@[simp] theorem State.starvePickup_tgv (s : State) : (s.starvePickup).tgv = s.tgv := by
  simp only [State.starvePickup]; (repeat' split) <;> simp
@[simp] theorem State.starvePickup_clt (s : State) : (s.starvePickup).clt = s.clt := by
  simp only [State.starvePickup]; (repeat' split) <;> simp
@[simp] theorem State.starvePickup_cfs (s : State) : (s.starvePickup).cfs = s.cfs := by
  simp only [State.starvePickup]; (repeat' split) <;> simp
@[simp] theorem State.starvePickup_raceCount (s : State) : (s.starvePickup).raceCount = s.raceCount := by
  simp only [State.starvePickup]; (repeat' split) <;> simp
@[simp] theorem State.starvePickup_pending (s : State) : (s.starvePickup).pending = s.pending := by
  simp only [State.starvePickup]; (repeat' split) <;> simp
@[simp] theorem State.starvePickup_params (s : State) : (s.starvePickup).params = s.params := by
  simp only [State.starvePickup]; (repeat' split) <;> simp [State.params]
@[simp] theorem State.starvePickup_profile (s : State) : (s.starvePickup).profile = s.profile := by
  simp only [State.starvePickup]; (repeat' split) <;> simp [State.profile]
@[simp] theorem State.starvePickup_measured (s : State) : (s.starvePickup).measured = s.measured := by
  simp only [State.starvePickup]; (repeat' split) <;> simp [State.measured]
@[simp] theorem State.starvePickup_chan (s : State) (ch : ChanId) : (s.starvePickup).chan ch = s.chan ch := by
  simp only [State.starvePickup]; (repeat' split) <;> simp [State.chan]
@[simp] theorem State.starvePickup_position (s : State) (sd : Side) : (s.starvePickup).position sd = s.position sd := by
  simp only [State.starvePickup]; (repeat' split) <;> simp [State.position, State.chan]
@[simp] theorem State.starvePickup_armHomed (s : State) (sd : Side) : (s.starvePickup).armHomed sd = s.armHomed sd := by
  simp only [State.starvePickup]; (repeat' split) <;> simp [State.armHomed, State.chan]
@[simp] theorem State.stallArm_rstnHeld (s : State) (side : Side) : (s.stallArm side).rstnHeld = s.rstnHeld := by
  simp only [State.stallArm]; (repeat' split) <;> simp
@[simp] theorem State.stallArm_stopin (s : State) (side : Side) : (s.stallArm side).stopin = s.stopin := by
  simp only [State.stallArm]; (repeat' split) <;> simp
@[simp] theorem State.stallArm_ctu (s : State) (side : Side) : (s.stallArm side).ctu = s.ctu := by
  simp only [State.stallArm]; (repeat' split) <;> simp
@[simp] theorem State.stallArm_pft (s : State) (side : Side) : (s.stallArm side).pft = s.pft := by
  simp only [State.stallArm]; (repeat' split) <;> simp
@[simp] theorem State.stallArm_tgv (s : State) (side : Side) : (s.stallArm side).tgv = s.tgv := by
  simp only [State.stallArm]; (repeat' split) <;> simp
@[simp] theorem State.stallArm_clt (s : State) (side : Side) : (s.stallArm side).clt = s.clt := by
  simp only [State.stallArm]; (repeat' split) <;> simp
@[simp] theorem State.stallArm_cfs (s : State) (side : Side) : (s.stallArm side).cfs = s.cfs := by
  simp only [State.stallArm]; (repeat' split) <;> simp
@[simp] theorem State.stallArm_raceCount (s : State) (side : Side) : (s.stallArm side).raceCount = s.raceCount := by
  simp only [State.stallArm]; (repeat' split) <;> simp
@[simp] theorem State.stallArm_pending (s : State) (side : Side) : (s.stallArm side).pending = s.pending := by
  simp only [State.stallArm]; (repeat' split) <;> simp
@[simp] theorem State.stallArm_params (s : State) (side : Side) : (s.stallArm side).params = s.params := by
  simp only [State.stallArm]; (repeat' split) <;> simp [State.params]
@[simp] theorem State.stallArm_profile (s : State) (side : Side) : (s.stallArm side).profile = s.profile := by
  simp only [State.stallArm]; (repeat' split) <;> simp [State.profile]
@[simp] theorem State.stallArm_measured (s : State) (side : Side) : (s.stallArm side).measured = s.measured := by
  simp only [State.stallArm]; (repeat' split) <;> simp [State.measured]
@[simp] theorem State.stallArm_chan (s : State) (side : Side) (ch : ChanId) : (s.stallArm side).chan ch = s.chan ch := by
  simp only [State.stallArm]; (repeat' split) <;> simp [State.chan]
@[simp] theorem State.stallArm_position (s : State) (side : Side) (sd : Side) : (s.stallArm side).position sd = s.position sd := by
  simp only [State.stallArm]; (repeat' split) <;> simp [State.position, State.chan]
@[simp] theorem State.stallArm_armHomed (s : State) (side : Side) (sd : Side) : (s.stallArm side).armHomed sd = s.armHomed sd := by
  simp only [State.stallArm]; (repeat' split) <;> simp [State.armHomed, State.chan]
@[simp] theorem State.stallPickup_rstnHeld (s : State) : (s.stallPickup).rstnHeld = s.rstnHeld := by
  simp only [State.stallPickup]; (repeat' split) <;> simp
@[simp] theorem State.stallPickup_stopin (s : State) : (s.stallPickup).stopin = s.stopin := by
  simp only [State.stallPickup]; (repeat' split) <;> simp
@[simp] theorem State.stallPickup_ctu (s : State) : (s.stallPickup).ctu = s.ctu := by
  simp only [State.stallPickup]; (repeat' split) <;> simp
@[simp] theorem State.stallPickup_pft (s : State) : (s.stallPickup).pft = s.pft := by
  simp only [State.stallPickup]; (repeat' split) <;> simp
@[simp] theorem State.stallPickup_tgv (s : State) : (s.stallPickup).tgv = s.tgv := by
  simp only [State.stallPickup]; (repeat' split) <;> simp
@[simp] theorem State.stallPickup_clt (s : State) : (s.stallPickup).clt = s.clt := by
  simp only [State.stallPickup]; (repeat' split) <;> simp
@[simp] theorem State.stallPickup_cfs (s : State) : (s.stallPickup).cfs = s.cfs := by
  simp only [State.stallPickup]; (repeat' split) <;> simp
@[simp] theorem State.stallPickup_raceCount (s : State) : (s.stallPickup).raceCount = s.raceCount := by
  simp only [State.stallPickup]; (repeat' split) <;> simp
@[simp] theorem State.stallPickup_pending (s : State) : (s.stallPickup).pending = s.pending := by
  simp only [State.stallPickup]; (repeat' split) <;> simp
@[simp] theorem State.stallPickup_params (s : State) : (s.stallPickup).params = s.params := by
  simp only [State.stallPickup]; (repeat' split) <;> simp [State.params]
@[simp] theorem State.stallPickup_profile (s : State) : (s.stallPickup).profile = s.profile := by
  simp only [State.stallPickup]; (repeat' split) <;> simp [State.profile]
@[simp] theorem State.stallPickup_measured (s : State) : (s.stallPickup).measured = s.measured := by
  simp only [State.stallPickup]; (repeat' split) <;> simp [State.measured]
@[simp] theorem State.stallPickup_chan (s : State) (ch : ChanId) : (s.stallPickup).chan ch = s.chan ch := by
  simp only [State.stallPickup]; (repeat' split) <;> simp [State.chan]
@[simp] theorem State.stallPickup_position (s : State) (sd : Side) : (s.stallPickup).position sd = s.position sd := by
  simp only [State.stallPickup]; (repeat' split) <;> simp [State.position, State.chan]
@[simp] theorem State.stallPickup_armHomed (s : State) (sd : Side) : (s.stallPickup).armHomed sd = s.armHomed sd := by
  simp only [State.stallPickup]; (repeat' split) <;> simp [State.armHomed, State.chan]
@[simp] theorem State.progressArm_rstnHeld (s : State) (side : Side) : (s.progressArm side).rstnHeld = s.rstnHeld := by
  simp only [State.progressArm]; (repeat' split) <;> simp
@[simp] theorem State.progressArm_stopin (s : State) (side : Side) : (s.progressArm side).stopin = s.stopin := by
  simp only [State.progressArm]; (repeat' split) <;> simp
@[simp] theorem State.progressArm_ctu (s : State) (side : Side) : (s.progressArm side).ctu = s.ctu := by
  simp only [State.progressArm]; (repeat' split) <;> simp
@[simp] theorem State.progressArm_pft (s : State) (side : Side) : (s.progressArm side).pft = s.pft := by
  simp only [State.progressArm]; (repeat' split) <;> simp
@[simp] theorem State.progressArm_tgv (s : State) (side : Side) : (s.progressArm side).tgv = s.tgv := by
  simp only [State.progressArm]; (repeat' split) <;> simp
@[simp] theorem State.progressArm_clt (s : State) (side : Side) : (s.progressArm side).clt = s.clt := by
  simp only [State.progressArm]; (repeat' split) <;> simp
@[simp] theorem State.progressArm_cfs (s : State) (side : Side) : (s.progressArm side).cfs = s.cfs := by
  simp only [State.progressArm]; (repeat' split) <;> simp
@[simp] theorem State.progressArm_raceCount (s : State) (side : Side) : (s.progressArm side).raceCount = s.raceCount := by
  simp only [State.progressArm]; (repeat' split) <;> simp
@[simp] theorem State.progressArm_pending (s : State) (side : Side) : (s.progressArm side).pending = s.pending := by
  simp only [State.progressArm]; (repeat' split) <;> simp
@[simp] theorem State.progressArm_params (s : State) (side : Side) : (s.progressArm side).params = s.params := by
  simp only [State.progressArm]; (repeat' split) <;> simp [State.params]
@[simp] theorem State.progressArm_profile (s : State) (side : Side) : (s.progressArm side).profile = s.profile := by
  simp only [State.progressArm]; (repeat' split) <;> simp [State.profile]
@[simp] theorem State.progressArm_measured (s : State) (side : Side) : (s.progressArm side).measured = s.measured := by
  simp only [State.progressArm]; (repeat' split) <;> simp [State.measured]
@[simp] theorem State.progressArm_chan (s : State) (side : Side) (ch : ChanId) : (s.progressArm side).chan ch = s.chan ch := by
  simp only [State.progressArm]; (repeat' split) <;> simp [State.chan]
@[simp] theorem State.progressArm_position (s : State) (side : Side) (sd : Side) : (s.progressArm side).position sd = s.position sd := by
  simp only [State.progressArm]; (repeat' split) <;> simp [State.position, State.chan]
@[simp] theorem State.progressArm_armHomed (s : State) (side : Side) (sd : Side) : (s.progressArm side).armHomed sd = s.armHomed sd := by
  simp only [State.progressArm]; (repeat' split) <;> simp [State.armHomed, State.chan]
@[simp] theorem State.armSafety_rstnHeld (s : State) : (s.armSafety).rstnHeld = s.rstnHeld := by
  simp [State.armSafety]
@[simp] theorem State.armSafety_stopin (s : State) : (s.armSafety).stopin = s.stopin := by
  simp [State.armSafety]
@[simp] theorem State.armSafety_ctu (s : State) : (s.armSafety).ctu = s.ctu := by
  simp [State.armSafety]
@[simp] theorem State.armSafety_pft (s : State) : (s.armSafety).pft = s.pft := by
  simp [State.armSafety]
@[simp] theorem State.armSafety_tgv (s : State) : (s.armSafety).tgv = s.tgv := by
  simp [State.armSafety]
@[simp] theorem State.armSafety_clt (s : State) : (s.armSafety).clt = s.clt := by
  simp [State.armSafety]
@[simp] theorem State.armSafety_cfs (s : State) : (s.armSafety).cfs = s.cfs := by
  simp [State.armSafety]
@[simp] theorem State.armSafety_raceCount (s : State) : (s.armSafety).raceCount = s.raceCount := by
  simp [State.armSafety]
@[simp] theorem State.armSafety_pending (s : State) : (s.armSafety).pending = s.pending := by
  simp [State.armSafety]
@[simp] theorem State.armSafety_params (s : State) : (s.armSafety).params = s.params := by
  simp [State.armSafety, State.params]
@[simp] theorem State.armSafety_profile (s : State) : (s.armSafety).profile = s.profile := by
  simp [State.armSafety, State.profile]
@[simp] theorem State.armSafety_measured (s : State) : (s.armSafety).measured = s.measured := by
  simp [State.armSafety, State.measured]
@[simp] theorem State.armSafety_chan (s : State) (ch : ChanId) : (s.armSafety).chan ch = s.chan ch := by
  simp [State.armSafety, State.chan]
@[simp] theorem State.armSafety_position (s : State) (sd : Side) : (s.armSafety).position sd = s.position sd := by
  simp [State.armSafety, State.position, State.chan]
@[simp] theorem State.armSafety_armHomed (s : State) (sd : Side) : (s.armSafety).armHomed sd = s.armHomed sd := by
  simp [State.armSafety, State.armHomed, State.chan]
@[simp] theorem State.armMotion_rstnHeld (s : State) : (s.armMotion).rstnHeld = s.rstnHeld := by
  simp [State.armMotion]
@[simp] theorem State.armMotion_stopin (s : State) : (s.armMotion).stopin = s.stopin := by
  simp [State.armMotion]
@[simp] theorem State.armMotion_ctu (s : State) : (s.armMotion).ctu = s.ctu := by
  simp [State.armMotion]
@[simp] theorem State.armMotion_pft (s : State) : (s.armMotion).pft = s.pft := by
  simp [State.armMotion]
@[simp] theorem State.armMotion_tgv (s : State) : (s.armMotion).tgv = s.tgv := by
  simp [State.armMotion]
@[simp] theorem State.armMotion_clt (s : State) : (s.armMotion).clt = s.clt := by
  simp [State.armMotion]
@[simp] theorem State.armMotion_cfs (s : State) : (s.armMotion).cfs = s.cfs := by
  simp [State.armMotion]
@[simp] theorem State.armMotion_raceCount (s : State) : (s.armMotion).raceCount = s.raceCount := by
  simp [State.armMotion]
@[simp] theorem State.armMotion_pending (s : State) : (s.armMotion).pending = s.pending := by
  simp [State.armMotion]
@[simp] theorem State.armMotion_params (s : State) : (s.armMotion).params = s.params := by
  simp [State.armMotion, State.params]
@[simp] theorem State.armMotion_profile (s : State) : (s.armMotion).profile = s.profile := by
  simp [State.armMotion, State.profile]
@[simp] theorem State.armMotion_measured (s : State) : (s.armMotion).measured = s.measured := by
  simp [State.armMotion, State.measured]
@[simp] theorem State.armMotion_chan (s : State) (ch : ChanId) : (s.armMotion).chan ch = s.chan ch := by
  simp [State.armMotion, State.chan]
@[simp] theorem State.armMotion_position (s : State) (sd : Side) : (s.armMotion).position sd = s.position sd := by
  simp [State.armMotion, State.position, State.chan]
@[simp] theorem State.armMotion_armHomed (s : State) (sd : Side) : (s.armMotion).armHomed sd = s.armHomed sd := by
  simp [State.armMotion, State.armHomed, State.chan]
@[simp] theorem State.armUpdate_rstnHeld (s : State) : (s.armUpdate).rstnHeld = s.rstnHeld := by
  simp [State.armUpdate]
@[simp] theorem State.armUpdate_stopin (s : State) : (s.armUpdate).stopin = s.stopin := by
  simp [State.armUpdate]
@[simp] theorem State.armUpdate_ctu (s : State) : (s.armUpdate).ctu = s.ctu := by
  simp [State.armUpdate]
@[simp] theorem State.armUpdate_pft (s : State) : (s.armUpdate).pft = s.pft := by
  simp [State.armUpdate]
@[simp] theorem State.armUpdate_tgv (s : State) : (s.armUpdate).tgv = s.tgv := by
  simp [State.armUpdate]
@[simp] theorem State.armUpdate_clt (s : State) : (s.armUpdate).clt = s.clt := by
  simp [State.armUpdate]
@[simp] theorem State.armUpdate_cfs (s : State) : (s.armUpdate).cfs = s.cfs := by
  simp [State.armUpdate]
@[simp] theorem State.armUpdate_raceCount (s : State) : (s.armUpdate).raceCount = s.raceCount := by
  simp [State.armUpdate]
@[simp] theorem State.armUpdate_pending (s : State) : (s.armUpdate).pending = s.pending := by
  simp [State.armUpdate]
@[simp] theorem State.armUpdate_params (s : State) : (s.armUpdate).params = s.params := by
  simp [State.armUpdate, State.params]
@[simp] theorem State.armUpdate_profile (s : State) : (s.armUpdate).profile = s.profile := by
  simp [State.armUpdate, State.profile]
@[simp] theorem State.armUpdate_measured (s : State) : (s.armUpdate).measured = s.measured := by
  simp [State.armUpdate, State.measured]
@[simp] theorem State.armUpdate_chan (s : State) (ch : ChanId) : (s.armUpdate).chan ch = s.chan ch := by
  simp [State.armUpdate, State.chan]
@[simp] theorem State.armUpdate_position (s : State) (sd : Side) : (s.armUpdate).position sd = s.position sd := by
  simp [State.armUpdate, State.position, State.chan]
@[simp] theorem State.armUpdate_armHomed (s : State) (sd : Side) : (s.armUpdate).armHomed sd = s.armHomed sd := by
  simp [State.armUpdate, State.armHomed, State.chan]
@[simp] theorem State.allocate_rstnHeld (s : State) : (s.allocate).rstnHeld = s.rstnHeld := by
  simp [State.allocate]
@[simp] theorem State.allocate_stopin (s : State) : (s.allocate).stopin = s.stopin := by
  simp [State.allocate]
@[simp] theorem State.allocate_ctu (s : State) : (s.allocate).ctu = s.ctu := by
  simp [State.allocate]
@[simp] theorem State.allocate_pft (s : State) : (s.allocate).pft = s.pft := by
  simp [State.allocate]
@[simp] theorem State.allocate_tgv (s : State) : (s.allocate).tgv = s.tgv := by
  simp [State.allocate]
@[simp] theorem State.allocate_clt (s : State) : (s.allocate).clt = s.clt := by
  simp [State.allocate]
@[simp] theorem State.allocate_cfs (s : State) : (s.allocate).cfs = s.cfs := by
  simp [State.allocate]
@[simp] theorem State.allocate_raceCount (s : State) : (s.allocate).raceCount = s.raceCount := by
  simp [State.allocate]
@[simp] theorem State.allocate_pending (s : State) : (s.allocate).pending = s.pending := by
  simp [State.allocate]
@[simp] theorem State.allocate_params (s : State) : (s.allocate).params = s.params := by
  simp [State.allocate, State.params]
@[simp] theorem State.allocate_profile (s : State) : (s.allocate).profile = s.profile := by
  simp [State.allocate, State.profile]
@[simp] theorem State.allocate_measured (s : State) : (s.allocate).measured = s.measured := by
  simp [State.allocate, State.measured]
@[simp] theorem State.allocate_chan (s : State) (ch : ChanId) : (s.allocate).chan ch = s.chan ch := by
  simp [State.allocate, State.chan]
@[simp] theorem State.allocate_position (s : State) (sd : Side) : (s.allocate).position sd = s.position sd := by
  simp [State.allocate, State.position, State.chan]
@[simp] theorem State.allocate_armHomed (s : State) (sd : Side) : (s.allocate).armHomed sd = s.armHomed sd := by
  simp [State.allocate, State.armHomed, State.chan]

/-! ## Segment Engine and Claim Table -/

@[simp] theorem State.activateProfile_rstnHeld (s : State) (i : Fin 8) : (s.activateProfile i).rstnHeld = s.rstnHeld := by
  simp only [State.activateProfile]; (repeat' split) <;> simp
@[simp] theorem State.activateProfile_stopin (s : State) (i : Fin 8) : (s.activateProfile i).stopin = s.stopin := by
  simp only [State.activateProfile]; (repeat' split) <;> simp
@[simp] theorem State.activateProfile_ctu (s : State) (i : Fin 8) : (s.activateProfile i).ctu = s.ctu := by
  simp only [State.activateProfile]; (repeat' split) <;> simp
@[simp] theorem State.activateProfile_pba (s : State) (i : Fin 8) : (s.activateProfile i).pba = s.pba := by
  simp only [State.activateProfile]; (repeat' split) <;> simp
@[simp] theorem State.activateProfile_tgv (s : State) (i : Fin 8) : (s.activateProfile i).tgv = s.tgv := by
  simp only [State.activateProfile]; (repeat' split) <;> simp
@[simp] theorem State.activateProfile_arc (s : State) (i : Fin 8) : (s.activateProfile i).arc = s.arc := by
  simp only [State.activateProfile]; (repeat' split) <;> simp
@[simp] theorem State.activateProfile_clt (s : State) (i : Fin 8) : (s.activateProfile i).clt = s.clt := by
  simp only [State.activateProfile]; (repeat' split) <;> simp
@[simp] theorem State.activateProfile_sge (s : State) (i : Fin 8) : (s.activateProfile i).sge = s.sge := by
  simp only [State.activateProfile]; (repeat' split) <;> simp
@[simp] theorem State.activateProfile_cfs (s : State) (i : Fin 8) : (s.activateProfile i).cfs = s.cfs := by
  simp only [State.activateProfile]; (repeat' split) <;> simp
@[simp] theorem State.activateProfile_raceCount (s : State) (i : Fin 8) : (s.activateProfile i).raceCount = s.raceCount := by
  simp only [State.activateProfile]; (repeat' split) <;> simp
@[simp] theorem State.activateProfile_pending (s : State) (i : Fin 8) : (s.activateProfile i).pending = s.pending := by
  simp only [State.activateProfile]; (repeat' split) <;> simp
@[simp] theorem State.activateProfile_params (s : State) (i : Fin 8) : (s.activateProfile i).params = s.params := by
  simp only [State.activateProfile]; (repeat' split) <;> simp [State.params]
@[simp] theorem State.activateProfile_measured (s : State) (i : Fin 8) : (s.activateProfile i).measured = s.measured := by
  simp only [State.activateProfile]; (repeat' split) <;> simp [State.measured]
@[simp] theorem State.activateProfile_chan (s : State) (i : Fin 8) (ch : ChanId) : (s.activateProfile i).chan ch = s.chan ch := by
  simp only [State.activateProfile]; (repeat' split) <;> simp [State.chan]
@[simp] theorem State.activateProfile_position (s : State) (i : Fin 8) (sd : Side) : (s.activateProfile i).position sd = s.position sd := by
  simp only [State.activateProfile]; (repeat' split) <;> simp [State.position, State.chan]
@[simp] theorem State.activateProfile_armHomed (s : State) (i : Fin 8) (sd : Side) : (s.activateProfile i).armHomed sd = s.armHomed sd := by
  simp only [State.activateProfile]; (repeat' split) <;> simp [State.armHomed, State.chan]
@[simp] theorem State.activateProfile_arm (s : State) (i : Fin 8) (sd : Side) : (s.activateProfile i).arm sd = s.arm sd := by
  simp only [State.activateProfile]; (repeat' split) <;> simp [State.arm]
@[simp] theorem State.applyArm_rstnHeld (s : State) (side : Side) (m : ArmSetting) (x : Option Int) : (s.applyArm side m x).rstnHeld = s.rstnHeld := by
  simp only [State.applyArm]; (repeat' split) <;> simp
@[simp] theorem State.applyArm_stopin (s : State) (side : Side) (m : ArmSetting) (x : Option Int) : (s.applyArm side m x).stopin = s.stopin := by
  simp only [State.applyArm]; (repeat' split) <;> simp
@[simp] theorem State.applyArm_ctu (s : State) (side : Side) (m : ArmSetting) (x : Option Int) : (s.applyArm side m x).ctu = s.ctu := by
  simp only [State.applyArm]; (repeat' split) <;> simp
@[simp] theorem State.applyArm_pft (s : State) (side : Side) (m : ArmSetting) (x : Option Int) : (s.applyArm side m x).pft = s.pft := by
  simp only [State.applyArm]; (repeat' split) <;> simp
@[simp] theorem State.applyArm_tgv (s : State) (side : Side) (m : ArmSetting) (x : Option Int) : (s.applyArm side m x).tgv = s.tgv := by
  simp only [State.applyArm]; (repeat' split) <;> simp
@[simp] theorem State.applyArm_clt (s : State) (side : Side) (m : ArmSetting) (x : Option Int) : (s.applyArm side m x).clt = s.clt := by
  simp only [State.applyArm]; (repeat' split) <;> simp
@[simp] theorem State.applyArm_cfs (s : State) (side : Side) (m : ArmSetting) (x : Option Int) : (s.applyArm side m x).cfs = s.cfs := by
  simp only [State.applyArm]; (repeat' split) <;> simp
@[simp] theorem State.applyArm_raceCount (s : State) (side : Side) (m : ArmSetting) (x : Option Int) : (s.applyArm side m x).raceCount = s.raceCount := by
  simp only [State.applyArm]; (repeat' split) <;> simp
@[simp] theorem State.applyArm_pending (s : State) (side : Side) (m : ArmSetting) (x : Option Int) : (s.applyArm side m x).pending = s.pending := by
  simp only [State.applyArm]; (repeat' split) <;> simp
@[simp] theorem State.applyArm_params (s : State) (side : Side) (m : ArmSetting) (x : Option Int) : (s.applyArm side m x).params = s.params := by
  simp only [State.applyArm]; (repeat' split) <;> simp [State.params]
@[simp] theorem State.applyArm_profile (s : State) (side : Side) (m : ArmSetting) (x : Option Int) : (s.applyArm side m x).profile = s.profile := by
  simp only [State.applyArm]; (repeat' split) <;> simp [State.profile]
@[simp] theorem State.applyArm_measured (s : State) (side : Side) (m : ArmSetting) (x : Option Int) : (s.applyArm side m x).measured = s.measured := by
  simp only [State.applyArm]; (repeat' split) <;> simp [State.measured]
@[simp] theorem State.applyArm_chan (s : State) (side : Side) (m : ArmSetting) (x : Option Int) (ch : ChanId) : (s.applyArm side m x).chan ch = s.chan ch := by
  simp only [State.applyArm]; (repeat' split) <;> simp [State.chan]
@[simp] theorem State.applyArm_position (s : State) (side : Side) (m : ArmSetting) (x : Option Int) (sd : Side) : (s.applyArm side m x).position sd = s.position sd := by
  simp only [State.applyArm]; (repeat' split) <;> simp [State.position, State.chan]
@[simp] theorem State.applyArm_armHomed (s : State) (side : Side) (m : ArmSetting) (x : Option Int) (sd : Side) : (s.applyArm side m x).armHomed sd = s.armHomed sd := by
  simp only [State.applyArm]; (repeat' split) <;> simp [State.armHomed, State.chan]
@[simp] theorem State.applyPickup_rstnHeld (s : State) (m : PickupSetting) : (s.applyPickup m).rstnHeld = s.rstnHeld := by
  simp only [State.applyPickup]; (repeat' split) <;> simp
@[simp] theorem State.applyPickup_stopin (s : State) (m : PickupSetting) : (s.applyPickup m).stopin = s.stopin := by
  simp only [State.applyPickup]; (repeat' split) <;> simp
@[simp] theorem State.applyPickup_ctu (s : State) (m : PickupSetting) : (s.applyPickup m).ctu = s.ctu := by
  simp only [State.applyPickup]; (repeat' split) <;> simp
@[simp] theorem State.applyPickup_pft (s : State) (m : PickupSetting) : (s.applyPickup m).pft = s.pft := by
  simp only [State.applyPickup]; (repeat' split) <;> simp
@[simp] theorem State.applyPickup_tgv (s : State) (m : PickupSetting) : (s.applyPickup m).tgv = s.tgv := by
  simp only [State.applyPickup]; (repeat' split) <;> simp
@[simp] theorem State.applyPickup_clt (s : State) (m : PickupSetting) : (s.applyPickup m).clt = s.clt := by
  simp only [State.applyPickup]; (repeat' split) <;> simp
@[simp] theorem State.applyPickup_cfs (s : State) (m : PickupSetting) : (s.applyPickup m).cfs = s.cfs := by
  simp only [State.applyPickup]; (repeat' split) <;> simp
@[simp] theorem State.applyPickup_raceCount (s : State) (m : PickupSetting) : (s.applyPickup m).raceCount = s.raceCount := by
  simp only [State.applyPickup]; (repeat' split) <;> simp
@[simp] theorem State.applyPickup_pending (s : State) (m : PickupSetting) : (s.applyPickup m).pending = s.pending := by
  simp only [State.applyPickup]; (repeat' split) <;> simp
@[simp] theorem State.applyPickup_params (s : State) (m : PickupSetting) : (s.applyPickup m).params = s.params := by
  simp only [State.applyPickup]; (repeat' split) <;> simp [State.params]
@[simp] theorem State.applyPickup_profile (s : State) (m : PickupSetting) : (s.applyPickup m).profile = s.profile := by
  simp only [State.applyPickup]; (repeat' split) <;> simp [State.profile]
@[simp] theorem State.applyPickup_measured (s : State) (m : PickupSetting) : (s.applyPickup m).measured = s.measured := by
  simp only [State.applyPickup]; (repeat' split) <;> simp [State.measured]
@[simp] theorem State.applyPickup_chan (s : State) (m : PickupSetting) (ch : ChanId) : (s.applyPickup m).chan ch = s.chan ch := by
  simp only [State.applyPickup]; (repeat' split) <;> simp [State.chan]
@[simp] theorem State.applyPickup_position (s : State) (m : PickupSetting) (sd : Side) : (s.applyPickup m).position sd = s.position sd := by
  simp only [State.applyPickup]; (repeat' split) <;> simp [State.position, State.chan]
@[simp] theorem State.applyPickup_armHomed (s : State) (m : PickupSetting) (sd : Side) : (s.applyPickup m).armHomed sd = s.armHomed sd := by
  simp only [State.applyPickup]; (repeat' split) <;> simp [State.armHomed, State.chan]
@[simp] theorem State.applySetting_rstnHeld (s : State) (r : Resource) (st : Settings) : (s.applySetting r st).rstnHeld = s.rstnHeld := by
  simp only [State.applySetting]; (repeat' split) <;> simp
@[simp] theorem State.applySetting_stopin (s : State) (r : Resource) (st : Settings) : (s.applySetting r st).stopin = s.stopin := by
  simp only [State.applySetting]; (repeat' split) <;> simp
@[simp] theorem State.applySetting_ctu (s : State) (r : Resource) (st : Settings) : (s.applySetting r st).ctu = s.ctu := by
  simp only [State.applySetting]; (repeat' split) <;> simp
@[simp] theorem State.applySetting_pft (s : State) (r : Resource) (st : Settings) : (s.applySetting r st).pft = s.pft := by
  simp only [State.applySetting]; (repeat' split) <;> simp
@[simp] theorem State.applySetting_tgv (s : State) (r : Resource) (st : Settings) : (s.applySetting r st).tgv = s.tgv := by
  simp only [State.applySetting]; (repeat' split) <;> simp
@[simp] theorem State.applySetting_clt (s : State) (r : Resource) (st : Settings) : (s.applySetting r st).clt = s.clt := by
  simp only [State.applySetting]; (repeat' split) <;> simp
@[simp] theorem State.applySetting_cfs (s : State) (r : Resource) (st : Settings) : (s.applySetting r st).cfs = s.cfs := by
  simp only [State.applySetting]; (repeat' split) <;> simp
@[simp] theorem State.applySetting_raceCount (s : State) (r : Resource) (st : Settings) : (s.applySetting r st).raceCount = s.raceCount := by
  simp only [State.applySetting]; (repeat' split) <;> simp
@[simp] theorem State.applySetting_pending (s : State) (r : Resource) (st : Settings) : (s.applySetting r st).pending = s.pending := by
  simp only [State.applySetting]; (repeat' split) <;> simp
@[simp] theorem State.applySetting_params (s : State) (r : Resource) (st : Settings) : (s.applySetting r st).params = s.params := by
  simp only [State.applySetting]; (repeat' split) <;> simp [State.params]
@[simp] theorem State.applySetting_profile (s : State) (r : Resource) (st : Settings) : (s.applySetting r st).profile = s.profile := by
  simp only [State.applySetting]; (repeat' split) <;> simp [State.profile]
@[simp] theorem State.applySetting_measured (s : State) (r : Resource) (st : Settings) : (s.applySetting r st).measured = s.measured := by
  simp only [State.applySetting]; (repeat' split) <;> simp [State.measured]
@[simp] theorem State.applySetting_chan (s : State) (r : Resource) (st : Settings) (ch : ChanId) : (s.applySetting r st).chan ch = s.chan ch := by
  simp only [State.applySetting]; (repeat' split) <;> simp [State.chan]
@[simp] theorem State.applySetting_position (s : State) (r : Resource) (st : Settings) (sd : Side) : (s.applySetting r st).position sd = s.position sd := by
  simp only [State.applySetting]; (repeat' split) <;> simp [State.position, State.chan]
@[simp] theorem State.applySetting_armHomed (s : State) (r : Resource) (st : Settings) (sd : Side) : (s.applySetting r st).armHomed sd = s.armHomed sd := by
  simp only [State.applySetting]; (repeat' split) <;> simp [State.armHomed, State.chan]
@[simp] theorem State.applyHeld_rstnHeld (s : State) (st : Settings) (r : Resource) : (s.applyHeld st r).rstnHeld = s.rstnHeld := by
  simp only [State.applyHeld]; (repeat' split) <;> simp
@[simp] theorem State.applyHeld_stopin (s : State) (st : Settings) (r : Resource) : (s.applyHeld st r).stopin = s.stopin := by
  simp only [State.applyHeld]; (repeat' split) <;> simp
@[simp] theorem State.applyHeld_ctu (s : State) (st : Settings) (r : Resource) : (s.applyHeld st r).ctu = s.ctu := by
  simp only [State.applyHeld]; (repeat' split) <;> simp
@[simp] theorem State.applyHeld_pft (s : State) (st : Settings) (r : Resource) : (s.applyHeld st r).pft = s.pft := by
  simp only [State.applyHeld]; (repeat' split) <;> simp
@[simp] theorem State.applyHeld_tgv (s : State) (st : Settings) (r : Resource) : (s.applyHeld st r).tgv = s.tgv := by
  simp only [State.applyHeld]; (repeat' split) <;> simp
@[simp] theorem State.applyHeld_clt (s : State) (st : Settings) (r : Resource) : (s.applyHeld st r).clt = s.clt := by
  simp only [State.applyHeld]; (repeat' split) <;> simp
@[simp] theorem State.applyHeld_cfs (s : State) (st : Settings) (r : Resource) : (s.applyHeld st r).cfs = s.cfs := by
  simp only [State.applyHeld]; (repeat' split) <;> simp
@[simp] theorem State.applyHeld_raceCount (s : State) (st : Settings) (r : Resource) : (s.applyHeld st r).raceCount = s.raceCount := by
  simp only [State.applyHeld]; (repeat' split) <;> simp
@[simp] theorem State.applyHeld_pending (s : State) (st : Settings) (r : Resource) : (s.applyHeld st r).pending = s.pending := by
  simp only [State.applyHeld]; (repeat' split) <;> simp
@[simp] theorem State.applyHeld_params (s : State) (st : Settings) (r : Resource) : (s.applyHeld st r).params = s.params := by
  simp only [State.applyHeld]; (repeat' split) <;> simp [State.params]
@[simp] theorem State.applyHeld_profile (s : State) (st : Settings) (r : Resource) : (s.applyHeld st r).profile = s.profile := by
  simp only [State.applyHeld]; (repeat' split) <;> simp [State.profile]
@[simp] theorem State.applyHeld_measured (s : State) (st : Settings) (r : Resource) : (s.applyHeld st r).measured = s.measured := by
  simp only [State.applyHeld]; (repeat' split) <;> simp [State.measured]
@[simp] theorem State.applyHeld_chan (s : State) (st : Settings) (r : Resource) (ch : ChanId) : (s.applyHeld st r).chan ch = s.chan ch := by
  simp only [State.applyHeld]; (repeat' split) <;> simp [State.chan]
@[simp] theorem State.applyHeld_position (s : State) (st : Settings) (r : Resource) (sd : Side) : (s.applyHeld st r).position sd = s.position sd := by
  simp only [State.applyHeld]; (repeat' split) <;> simp [State.position, State.chan]
@[simp] theorem State.applyHeld_armHomed (s : State) (st : Settings) (r : Resource) (sd : Side) : (s.applyHeld st r).armHomed sd = s.armHomed sd := by
  simp only [State.applyHeld]; (repeat' split) <;> simp [State.armHomed, State.chan]
@[simp] theorem State.stopResource_rstnHeld (s : State) (r : Resource) : (s.stopResource r).rstnHeld = s.rstnHeld := by
  simp only [State.stopResource]; (repeat' split) <;> simp
@[simp] theorem State.stopResource_stopin (s : State) (r : Resource) : (s.stopResource r).stopin = s.stopin := by
  simp only [State.stopResource]; (repeat' split) <;> simp
@[simp] theorem State.stopResource_ctu (s : State) (r : Resource) : (s.stopResource r).ctu = s.ctu := by
  simp only [State.stopResource]; (repeat' split) <;> simp
@[simp] theorem State.stopResource_pft (s : State) (r : Resource) : (s.stopResource r).pft = s.pft := by
  simp only [State.stopResource]; (repeat' split) <;> simp
@[simp] theorem State.stopResource_tgv (s : State) (r : Resource) : (s.stopResource r).tgv = s.tgv := by
  simp only [State.stopResource]; (repeat' split) <;> simp
@[simp] theorem State.stopResource_clt (s : State) (r : Resource) : (s.stopResource r).clt = s.clt := by
  simp only [State.stopResource]; (repeat' split) <;> simp
@[simp] theorem State.stopResource_cfs (s : State) (r : Resource) : (s.stopResource r).cfs = s.cfs := by
  simp only [State.stopResource]; (repeat' split) <;> simp
@[simp] theorem State.stopResource_raceCount (s : State) (r : Resource) : (s.stopResource r).raceCount = s.raceCount := by
  simp only [State.stopResource]; (repeat' split) <;> simp
@[simp] theorem State.stopResource_pending (s : State) (r : Resource) : (s.stopResource r).pending = s.pending := by
  simp only [State.stopResource]; (repeat' split) <;> simp
@[simp] theorem State.stopResource_params (s : State) (r : Resource) : (s.stopResource r).params = s.params := by
  simp only [State.stopResource]; (repeat' split) <;> simp [State.params]
@[simp] theorem State.stopResource_profile (s : State) (r : Resource) : (s.stopResource r).profile = s.profile := by
  simp only [State.stopResource]; (repeat' split) <;> simp [State.profile]
@[simp] theorem State.stopResource_measured (s : State) (r : Resource) : (s.stopResource r).measured = s.measured := by
  simp only [State.stopResource]; (repeat' split) <;> simp [State.measured]
@[simp] theorem State.stopResource_chan (s : State) (r : Resource) (ch : ChanId) : (s.stopResource r).chan ch = s.chan ch := by
  simp only [State.stopResource]; (repeat' split) <;> simp [State.chan]
@[simp] theorem State.stopResource_position (s : State) (r : Resource) (sd : Side) : (s.stopResource r).position sd = s.position sd := by
  simp only [State.stopResource]; (repeat' split) <;> simp [State.position, State.chan]
@[simp] theorem State.stopResource_armHomed (s : State) (r : Resource) (sd : Side) : (s.stopResource r).armHomed sd = s.armHomed sd := by
  simp only [State.stopResource]; (repeat' split) <;> simp [State.armHomed, State.chan]
@[simp] theorem State.stopHeld_rstnHeld (s : State) (r : Resource) : (s.stopHeld r).rstnHeld = s.rstnHeld := by
  simp only [State.stopHeld]; (repeat' split) <;> simp
@[simp] theorem State.stopHeld_stopin (s : State) (r : Resource) : (s.stopHeld r).stopin = s.stopin := by
  simp only [State.stopHeld]; (repeat' split) <;> simp
@[simp] theorem State.stopHeld_ctu (s : State) (r : Resource) : (s.stopHeld r).ctu = s.ctu := by
  simp only [State.stopHeld]; (repeat' split) <;> simp
@[simp] theorem State.stopHeld_pft (s : State) (r : Resource) : (s.stopHeld r).pft = s.pft := by
  simp only [State.stopHeld]; (repeat' split) <;> simp
@[simp] theorem State.stopHeld_tgv (s : State) (r : Resource) : (s.stopHeld r).tgv = s.tgv := by
  simp only [State.stopHeld]; (repeat' split) <;> simp
@[simp] theorem State.stopHeld_clt (s : State) (r : Resource) : (s.stopHeld r).clt = s.clt := by
  simp only [State.stopHeld]; (repeat' split) <;> simp
@[simp] theorem State.stopHeld_cfs (s : State) (r : Resource) : (s.stopHeld r).cfs = s.cfs := by
  simp only [State.stopHeld]; (repeat' split) <;> simp
@[simp] theorem State.stopHeld_raceCount (s : State) (r : Resource) : (s.stopHeld r).raceCount = s.raceCount := by
  simp only [State.stopHeld]; (repeat' split) <;> simp
@[simp] theorem State.stopHeld_pending (s : State) (r : Resource) : (s.stopHeld r).pending = s.pending := by
  simp only [State.stopHeld]; (repeat' split) <;> simp
@[simp] theorem State.stopHeld_params (s : State) (r : Resource) : (s.stopHeld r).params = s.params := by
  simp only [State.stopHeld]; (repeat' split) <;> simp [State.params]
@[simp] theorem State.stopHeld_profile (s : State) (r : Resource) : (s.stopHeld r).profile = s.profile := by
  simp only [State.stopHeld]; (repeat' split) <;> simp [State.profile]
@[simp] theorem State.stopHeld_measured (s : State) (r : Resource) : (s.stopHeld r).measured = s.measured := by
  simp only [State.stopHeld]; (repeat' split) <;> simp [State.measured]
@[simp] theorem State.stopHeld_chan (s : State) (r : Resource) (ch : ChanId) : (s.stopHeld r).chan ch = s.chan ch := by
  simp only [State.stopHeld]; (repeat' split) <;> simp [State.chan]
@[simp] theorem State.stopHeld_position (s : State) (r : Resource) (sd : Side) : (s.stopHeld r).position sd = s.position sd := by
  simp only [State.stopHeld]; (repeat' split) <;> simp [State.position, State.chan]
@[simp] theorem State.stopHeld_armHomed (s : State) (r : Resource) (sd : Side) : (s.stopHeld r).armHomed sd = s.armHomed sd := by
  simp only [State.stopHeld]; (repeat' split) <;> simp [State.armHomed, State.chan]
@[simp] theorem State.stopAllHeld_rstnHeld (s : State) : (s.stopAllHeld).rstnHeld = s.rstnHeld := by
  simp [State.stopAllHeld]
@[simp] theorem State.stopAllHeld_stopin (s : State) : (s.stopAllHeld).stopin = s.stopin := by
  simp [State.stopAllHeld]
@[simp] theorem State.stopAllHeld_ctu (s : State) : (s.stopAllHeld).ctu = s.ctu := by
  simp [State.stopAllHeld]
@[simp] theorem State.stopAllHeld_pft (s : State) : (s.stopAllHeld).pft = s.pft := by
  simp [State.stopAllHeld]
@[simp] theorem State.stopAllHeld_tgv (s : State) : (s.stopAllHeld).tgv = s.tgv := by
  simp [State.stopAllHeld]
@[simp] theorem State.stopAllHeld_clt (s : State) : (s.stopAllHeld).clt = s.clt := by
  simp [State.stopAllHeld]
@[simp] theorem State.stopAllHeld_cfs (s : State) : (s.stopAllHeld).cfs = s.cfs := by
  simp [State.stopAllHeld]
@[simp] theorem State.stopAllHeld_raceCount (s : State) : (s.stopAllHeld).raceCount = s.raceCount := by
  simp [State.stopAllHeld]
@[simp] theorem State.stopAllHeld_pending (s : State) : (s.stopAllHeld).pending = s.pending := by
  simp [State.stopAllHeld]
@[simp] theorem State.stopAllHeld_params (s : State) : (s.stopAllHeld).params = s.params := by
  simp [State.stopAllHeld, State.params]
@[simp] theorem State.stopAllHeld_profile (s : State) : (s.stopAllHeld).profile = s.profile := by
  simp [State.stopAllHeld, State.profile]
@[simp] theorem State.stopAllHeld_measured (s : State) : (s.stopAllHeld).measured = s.measured := by
  simp [State.stopAllHeld, State.measured]
@[simp] theorem State.stopAllHeld_chan (s : State) (ch : ChanId) : (s.stopAllHeld).chan ch = s.chan ch := by
  simp [State.stopAllHeld, State.chan]
@[simp] theorem State.stopAllHeld_position (s : State) (sd : Side) : (s.stopAllHeld).position sd = s.position sd := by
  simp [State.stopAllHeld, State.position, State.chan]
@[simp] theorem State.stopAllHeld_armHomed (s : State) (sd : Side) : (s.stopAllHeld).armHomed sd = s.armHomed sd := by
  simp [State.stopAllHeld, State.armHomed, State.chan]
@[simp] theorem State.applyAllHeld_rstnHeld (s : State) (st : Settings) : (s.applyAllHeld st).rstnHeld = s.rstnHeld := by
  simp [State.applyAllHeld]
@[simp] theorem State.applyAllHeld_stopin (s : State) (st : Settings) : (s.applyAllHeld st).stopin = s.stopin := by
  simp [State.applyAllHeld]
@[simp] theorem State.applyAllHeld_ctu (s : State) (st : Settings) : (s.applyAllHeld st).ctu = s.ctu := by
  simp [State.applyAllHeld]
@[simp] theorem State.applyAllHeld_pft (s : State) (st : Settings) : (s.applyAllHeld st).pft = s.pft := by
  simp [State.applyAllHeld]
@[simp] theorem State.applyAllHeld_tgv (s : State) (st : Settings) : (s.applyAllHeld st).tgv = s.tgv := by
  simp [State.applyAllHeld]
@[simp] theorem State.applyAllHeld_clt (s : State) (st : Settings) : (s.applyAllHeld st).clt = s.clt := by
  simp [State.applyAllHeld]
@[simp] theorem State.applyAllHeld_cfs (s : State) (st : Settings) : (s.applyAllHeld st).cfs = s.cfs := by
  simp [State.applyAllHeld]
@[simp] theorem State.applyAllHeld_raceCount (s : State) (st : Settings) : (s.applyAllHeld st).raceCount = s.raceCount := by
  simp [State.applyAllHeld]
@[simp] theorem State.applyAllHeld_pending (s : State) (st : Settings) : (s.applyAllHeld st).pending = s.pending := by
  simp [State.applyAllHeld]
@[simp] theorem State.applyAllHeld_params (s : State) (st : Settings) : (s.applyAllHeld st).params = s.params := by
  simp [State.applyAllHeld, State.params]
@[simp] theorem State.applyAllHeld_profile (s : State) (st : Settings) : (s.applyAllHeld st).profile = s.profile := by
  simp [State.applyAllHeld, State.profile]
@[simp] theorem State.applyAllHeld_measured (s : State) (st : Settings) : (s.applyAllHeld st).measured = s.measured := by
  simp [State.applyAllHeld, State.measured]
@[simp] theorem State.applyAllHeld_chan (s : State) (st : Settings) (ch : ChanId) : (s.applyAllHeld st).chan ch = s.chan ch := by
  simp [State.applyAllHeld, State.chan]
@[simp] theorem State.applyAllHeld_position (s : State) (st : Settings) (sd : Side) : (s.applyAllHeld st).position sd = s.position sd := by
  simp [State.applyAllHeld, State.position, State.chan]
@[simp] theorem State.applyAllHeld_armHomed (s : State) (st : Settings) (sd : Side) : (s.applyAllHeld st).armHomed sd = s.armHomed sd := by
  simp [State.applyAllHeld, State.armHomed, State.chan]
@[simp] theorem State.segmentStart_rstnHeld (s : State) : (s.segmentStart).rstnHeld = s.rstnHeld := by
  simp [State.segmentStart]
@[simp] theorem State.segmentStart_stopin (s : State) : (s.segmentStart).stopin = s.stopin := by
  simp [State.segmentStart]
@[simp] theorem State.segmentStart_ctu (s : State) : (s.segmentStart).ctu = s.ctu := by
  simp [State.segmentStart]
@[simp] theorem State.segmentStart_clt (s : State) : (s.segmentStart).clt = s.clt := by
  simp [State.segmentStart]
@[simp] theorem State.segmentStart_cfs (s : State) : (s.segmentStart).cfs = s.cfs := by
  simp [State.segmentStart]
@[simp] theorem State.segmentStart_raceCount (s : State) : (s.segmentStart).raceCount = s.raceCount := by
  simp [State.segmentStart]
@[simp] theorem State.segmentStart_pending (s : State) : (s.segmentStart).pending = s.pending := by
  simp [State.segmentStart]
@[simp] theorem State.segmentStart_params (s : State) : (s.segmentStart).params = s.params := by
  simp [State.segmentStart, State.params]
@[simp] theorem State.segmentStart_measured (s : State) : (s.segmentStart).measured = s.measured := by
  simp [State.segmentStart, State.measured]
@[simp] theorem State.segmentStart_chan (s : State) (ch : ChanId) : (s.segmentStart).chan ch = s.chan ch := by
  simp [State.segmentStart, State.chan]
@[simp] theorem State.segmentStart_position (s : State) (sd : Side) : (s.segmentStart).position sd = s.position sd := by
  simp [State.segmentStart, State.position, State.chan]
@[simp] theorem State.segmentStart_armHomed (s : State) (sd : Side) : (s.segmentStart).armHomed sd = s.armHomed sd := by
  simp [State.segmentStart, State.armHomed, State.chan]
@[simp] theorem State.fetch_rstnHeld (s : State) : (s.fetch).rstnHeld = s.rstnHeld := by
  simp only [State.fetch]; (repeat' split) <;> simp
@[simp] theorem State.fetch_stopin (s : State) : (s.fetch).stopin = s.stopin := by
  simp only [State.fetch]; (repeat' split) <;> simp
@[simp] theorem State.fetch_ctu (s : State) : (s.fetch).ctu = s.ctu := by
  simp only [State.fetch]; (repeat' split) <;> simp
@[simp] theorem State.fetch_clt (s : State) : (s.fetch).clt = s.clt := by
  simp only [State.fetch]; (repeat' split) <;> simp
@[simp] theorem State.fetch_cfs (s : State) : (s.fetch).cfs = s.cfs := by
  simp only [State.fetch]; (repeat' split) <;> simp
@[simp] theorem State.fetch_raceCount (s : State) : (s.fetch).raceCount = s.raceCount := by
  simp only [State.fetch]; (repeat' split) <;> simp
@[simp] theorem State.fetch_pending (s : State) : (s.fetch).pending = s.pending := by
  simp only [State.fetch]; (repeat' split) <;> simp
@[simp] theorem State.fetch_params (s : State) : (s.fetch).params = s.params := by
  simp only [State.fetch]; (repeat' split) <;> simp [State.params]
@[simp] theorem State.fetch_measured (s : State) : (s.fetch).measured = s.measured := by
  simp only [State.fetch]; (repeat' split) <;> simp [State.measured]
@[simp] theorem State.fetch_chan (s : State) (ch : ChanId) : (s.fetch).chan ch = s.chan ch := by
  simp only [State.fetch]; (repeat' split) <;> simp [State.chan]
@[simp] theorem State.fetch_position (s : State) (sd : Side) : (s.fetch).position sd = s.position sd := by
  simp only [State.fetch]; (repeat' split) <;> simp [State.position, State.chan]
@[simp] theorem State.fetch_armHomed (s : State) (sd : Side) : (s.fetch).armHomed sd = s.armHomed sd := by
  simp only [State.fetch]; (repeat' split) <;> simp [State.armHomed, State.chan]
@[simp] theorem State.beginStopping_rstnHeld (s : State) : (s.beginStopping).rstnHeld = s.rstnHeld := by
  simp [State.beginStopping]
@[simp] theorem State.beginStopping_stopin (s : State) : (s.beginStopping).stopin = s.stopin := by
  simp [State.beginStopping]
@[simp] theorem State.beginStopping_ctu (s : State) : (s.beginStopping).ctu = s.ctu := by
  simp [State.beginStopping]
@[simp] theorem State.beginStopping_pft (s : State) : (s.beginStopping).pft = s.pft := by
  simp [State.beginStopping]
@[simp] theorem State.beginStopping_clt (s : State) : (s.beginStopping).clt = s.clt := by
  simp [State.beginStopping]
@[simp] theorem State.beginStopping_cfs (s : State) : (s.beginStopping).cfs = s.cfs := by
  simp [State.beginStopping]
@[simp] theorem State.beginStopping_raceCount (s : State) : (s.beginStopping).raceCount = s.raceCount := by
  simp [State.beginStopping]
@[simp] theorem State.beginStopping_pending (s : State) : (s.beginStopping).pending = s.pending := by
  simp [State.beginStopping]
@[simp] theorem State.beginStopping_params (s : State) : (s.beginStopping).params = s.params := by
  simp [State.beginStopping, State.params]
@[simp] theorem State.beginStopping_profile (s : State) : (s.beginStopping).profile = s.profile := by
  simp [State.beginStopping, State.profile]
@[simp] theorem State.beginStopping_measured (s : State) : (s.beginStopping).measured = s.measured := by
  simp [State.beginStopping, State.measured]
@[simp] theorem State.beginStopping_chan (s : State) (ch : ChanId) : (s.beginStopping).chan ch = s.chan ch := by
  simp [State.beginStopping, State.chan]
@[simp] theorem State.beginStopping_position (s : State) (sd : Side) : (s.beginStopping).position sd = s.position sd := by
  simp [State.beginStopping, State.position, State.chan]
@[simp] theorem State.beginStopping_armHomed (s : State) (sd : Side) : (s.beginStopping).armHomed sd = s.armHomed sd := by
  simp [State.beginStopping, State.armHomed, State.chan]
@[simp] theorem State.segmentEnd_rstnHeld (s : State) : (s.segmentEnd).rstnHeld = s.rstnHeld := by
  simp only [State.segmentEnd]; (repeat' split) <;> simp
@[simp] theorem State.segmentEnd_stopin (s : State) : (s.segmentEnd).stopin = s.stopin := by
  simp only [State.segmentEnd]; (repeat' split) <;> simp
@[simp] theorem State.segmentEnd_ctu (s : State) : (s.segmentEnd).ctu = s.ctu := by
  simp only [State.segmentEnd]; (repeat' split) <;> simp
@[simp] theorem State.segmentEnd_cfs (s : State) : (s.segmentEnd).cfs = s.cfs := by
  simp only [State.segmentEnd]; (repeat' split) <;> simp
@[simp] theorem State.segmentEnd_raceCount (s : State) : (s.segmentEnd).raceCount = s.raceCount := by
  simp only [State.segmentEnd]; (repeat' split) <;> simp
@[simp] theorem State.segmentEnd_pending (s : State) : (s.segmentEnd).pending = s.pending := by
  simp only [State.segmentEnd]; (repeat' split) <;> simp
@[simp] theorem State.segmentEnd_params (s : State) : (s.segmentEnd).params = s.params := by
  simp only [State.segmentEnd]; (repeat' split) <;> simp [State.params]
@[simp] theorem State.segmentEnd_measured (s : State) : (s.segmentEnd).measured = s.measured := by
  simp only [State.segmentEnd]; (repeat' split) <;> simp [State.measured]
@[simp] theorem State.segmentEnd_chan (s : State) (ch : ChanId) : (s.segmentEnd).chan ch = s.chan ch := by
  simp only [State.segmentEnd]; (repeat' split) <;> simp [State.chan]
@[simp] theorem State.segmentEnd_position (s : State) (sd : Side) : (s.segmentEnd).position sd = s.position sd := by
  simp only [State.segmentEnd]; (repeat' split) <;> simp [State.position, State.chan]
@[simp] theorem State.segmentEnd_armHomed (s : State) (sd : Side) : (s.segmentEnd).armHomed sd = s.armHomed sd := by
  simp only [State.segmentEnd]; (repeat' split) <;> simp [State.armHomed, State.chan]
@[simp] theorem State.engineMm_rstnHeld (s : State) : (s.engineMm).rstnHeld = s.rstnHeld := by
  simp only [State.engineMm]; (repeat' split) <;> simp
@[simp] theorem State.engineMm_stopin (s : State) : (s.engineMm).stopin = s.stopin := by
  simp only [State.engineMm]; (repeat' split) <;> simp
@[simp] theorem State.engineMm_ctu (s : State) : (s.engineMm).ctu = s.ctu := by
  simp only [State.engineMm]; (repeat' split) <;> simp
@[simp] theorem State.engineMm_cfs (s : State) : (s.engineMm).cfs = s.cfs := by
  simp only [State.engineMm]; (repeat' split) <;> simp
@[simp] theorem State.engineMm_raceCount (s : State) : (s.engineMm).raceCount = s.raceCount := by
  simp only [State.engineMm]; (repeat' split) <;> simp
@[simp] theorem State.engineMm_pending (s : State) : (s.engineMm).pending = s.pending := by
  simp only [State.engineMm]; (repeat' split) <;> simp
@[simp] theorem State.engineMm_params (s : State) : (s.engineMm).params = s.params := by
  simp only [State.engineMm]; (repeat' split) <;> simp [State.params]
@[simp] theorem State.engineMm_measured (s : State) : (s.engineMm).measured = s.measured := by
  simp only [State.engineMm]; (repeat' split) <;> simp [State.measured]
@[simp] theorem State.engineMm_chan (s : State) (ch : ChanId) : (s.engineMm).chan ch = s.chan ch := by
  simp only [State.engineMm]; (repeat' split) <;> simp [State.chan]
@[simp] theorem State.engineMm_position (s : State) (sd : Side) : (s.engineMm).position sd = s.position sd := by
  simp only [State.engineMm]; (repeat' split) <;> simp [State.position, State.chan]
@[simp] theorem State.engineMm_armHomed (s : State) (sd : Side) : (s.engineMm).armHomed sd = s.armHomed sd := by
  simp only [State.engineMm]; (repeat' split) <;> simp [State.armHomed, State.chan]
@[simp] theorem State.stopComplete_rstnHeld (s : State) : (s.stopComplete).rstnHeld = s.rstnHeld := by
  simp only [State.stopComplete]; (repeat' split) <;> simp
@[simp] theorem State.stopComplete_stopin (s : State) : (s.stopComplete).stopin = s.stopin := by
  simp only [State.stopComplete]; (repeat' split) <;> simp
@[simp] theorem State.stopComplete_ctu (s : State) : (s.stopComplete).ctu = s.ctu := by
  simp only [State.stopComplete]; (repeat' split) <;> simp
@[simp] theorem State.stopComplete_pba (s : State) : (s.stopComplete).pba = s.pba := by
  simp only [State.stopComplete]; (repeat' split) <;> simp
@[simp] theorem State.stopComplete_pft (s : State) : (s.stopComplete).pft = s.pft := by
  simp only [State.stopComplete]; (repeat' split) <;> simp
@[simp] theorem State.stopComplete_arc (s : State) : (s.stopComplete).arc = s.arc := by
  simp only [State.stopComplete]; (repeat' split) <;> simp
@[simp] theorem State.stopComplete_spc (s : State) : (s.stopComplete).spc = s.spc := by
  simp only [State.stopComplete]; (repeat' split) <;> simp
@[simp] theorem State.stopComplete_cfs (s : State) : (s.stopComplete).cfs = s.cfs := by
  simp only [State.stopComplete]; (repeat' split) <;> simp
@[simp] theorem State.stopComplete_raceCount (s : State) : (s.stopComplete).raceCount = s.raceCount := by
  simp only [State.stopComplete]; (repeat' split) <;> simp
@[simp] theorem State.stopComplete_pending (s : State) : (s.stopComplete).pending = s.pending := by
  simp only [State.stopComplete]; (repeat' split) <;> simp
@[simp] theorem State.stopComplete_params (s : State) : (s.stopComplete).params = s.params := by
  simp only [State.stopComplete]; (repeat' split) <;> simp [State.params]
@[simp] theorem State.stopComplete_profile (s : State) : (s.stopComplete).profile = s.profile := by
  simp only [State.stopComplete]; (repeat' split) <;> simp [State.profile]
@[simp] theorem State.stopComplete_measured (s : State) : (s.stopComplete).measured = s.measured := by
  simp only [State.stopComplete]; (repeat' split) <;> simp [State.measured]
@[simp] theorem State.stopComplete_chan (s : State) (ch : ChanId) : (s.stopComplete).chan ch = s.chan ch := by
  simp only [State.stopComplete]; (repeat' split) <;> simp [State.chan]
@[simp] theorem State.stopComplete_position (s : State) (sd : Side) : (s.stopComplete).position sd = s.position sd := by
  simp only [State.stopComplete]; (repeat' split) <;> simp [State.position, State.chan]
@[simp] theorem State.stopComplete_armHomed (s : State) (sd : Side) : (s.stopComplete).armHomed sd = s.armHomed sd := by
  simp only [State.stopComplete]; (repeat' split) <;> simp [State.armHomed, State.chan]
@[simp] theorem State.stopComplete_arm (s : State) (sd : Side) : (s.stopComplete).arm sd = s.arm sd := by
  simp only [State.stopComplete]; (repeat' split) <;> simp [State.arm]
@[simp] theorem State.returnEvent_rstnHeld (s : State) (r : Resource) : (s.returnEvent r).rstnHeld = s.rstnHeld := by
  simp only [State.returnEvent]; (repeat' split) <;> simp
@[simp] theorem State.returnEvent_stopin (s : State) (r : Resource) : (s.returnEvent r).stopin = s.stopin := by
  simp only [State.returnEvent]; (repeat' split) <;> simp
@[simp] theorem State.returnEvent_ctu (s : State) (r : Resource) : (s.returnEvent r).ctu = s.ctu := by
  simp only [State.returnEvent]; (repeat' split) <;> simp
@[simp] theorem State.returnEvent_pft (s : State) (r : Resource) : (s.returnEvent r).pft = s.pft := by
  simp only [State.returnEvent]; (repeat' split) <;> simp
@[simp] theorem State.returnEvent_tgv (s : State) (r : Resource) : (s.returnEvent r).tgv = s.tgv := by
  simp only [State.returnEvent]; (repeat' split) <;> simp
@[simp] theorem State.returnEvent_clt (s : State) (r : Resource) : (s.returnEvent r).clt = s.clt := by
  simp only [State.returnEvent]; (repeat' split) <;> simp
@[simp] theorem State.returnEvent_cfs (s : State) (r : Resource) : (s.returnEvent r).cfs = s.cfs := by
  simp only [State.returnEvent]; (repeat' split) <;> simp
@[simp] theorem State.returnEvent_raceCount (s : State) (r : Resource) : (s.returnEvent r).raceCount = s.raceCount := by
  simp only [State.returnEvent]; (repeat' split) <;> simp
@[simp] theorem State.returnEvent_pending (s : State) (r : Resource) : (s.returnEvent r).pending = s.pending := by
  simp only [State.returnEvent]; (repeat' split) <;> simp
@[simp] theorem State.returnEvent_params (s : State) (r : Resource) : (s.returnEvent r).params = s.params := by
  simp only [State.returnEvent]; (repeat' split) <;> simp [State.params]
@[simp] theorem State.returnEvent_profile (s : State) (r : Resource) : (s.returnEvent r).profile = s.profile := by
  simp only [State.returnEvent]; (repeat' split) <;> simp [State.profile]
@[simp] theorem State.returnEvent_measured (s : State) (r : Resource) : (s.returnEvent r).measured = s.measured := by
  simp only [State.returnEvent]; (repeat' split) <;> simp [State.measured]
@[simp] theorem State.returnEvent_chan (s : State) (r : Resource) (ch : ChanId) : (s.returnEvent r).chan ch = s.chan ch := by
  simp only [State.returnEvent]; (repeat' split) <;> simp [State.chan]
@[simp] theorem State.returnEvent_position (s : State) (r : Resource) (sd : Side) : (s.returnEvent r).position sd = s.position sd := by
  simp only [State.returnEvent]; (repeat' split) <;> simp [State.position, State.chan]
@[simp] theorem State.returnEvent_armHomed (s : State) (r : Resource) (sd : Side) : (s.returnEvent r).armHomed sd = s.armHomed sd := by
  simp only [State.returnEvent]; (repeat' split) <;> simp [State.armHomed, State.chan]
@[simp] theorem State.claimLossStow_rstnHeld (s : State) (r : Resource) : (s.claimLossStow r).rstnHeld = s.rstnHeld := by
  simp only [State.claimLossStow]; (repeat' split) <;> simp
@[simp] theorem State.claimLossStow_stopin (s : State) (r : Resource) : (s.claimLossStow r).stopin = s.stopin := by
  simp only [State.claimLossStow]; (repeat' split) <;> simp
@[simp] theorem State.claimLossStow_ctu (s : State) (r : Resource) : (s.claimLossStow r).ctu = s.ctu := by
  simp only [State.claimLossStow]; (repeat' split) <;> simp
@[simp] theorem State.claimLossStow_pft (s : State) (r : Resource) : (s.claimLossStow r).pft = s.pft := by
  simp only [State.claimLossStow]; (repeat' split) <;> simp
@[simp] theorem State.claimLossStow_tgv (s : State) (r : Resource) : (s.claimLossStow r).tgv = s.tgv := by
  simp only [State.claimLossStow]; (repeat' split) <;> simp
@[simp] theorem State.claimLossStow_clt (s : State) (r : Resource) : (s.claimLossStow r).clt = s.clt := by
  simp only [State.claimLossStow]; (repeat' split) <;> simp
@[simp] theorem State.claimLossStow_cfs (s : State) (r : Resource) : (s.claimLossStow r).cfs = s.cfs := by
  simp only [State.claimLossStow]; (repeat' split) <;> simp
@[simp] theorem State.claimLossStow_raceCount (s : State) (r : Resource) : (s.claimLossStow r).raceCount = s.raceCount := by
  simp only [State.claimLossStow]; (repeat' split) <;> simp
@[simp] theorem State.claimLossStow_pending (s : State) (r : Resource) : (s.claimLossStow r).pending = s.pending := by
  simp only [State.claimLossStow]; (repeat' split) <;> simp
@[simp] theorem State.claimLossStow_params (s : State) (r : Resource) : (s.claimLossStow r).params = s.params := by
  simp only [State.claimLossStow]; (repeat' split) <;> simp [State.params]
@[simp] theorem State.claimLossStow_profile (s : State) (r : Resource) : (s.claimLossStow r).profile = s.profile := by
  simp only [State.claimLossStow]; (repeat' split) <;> simp [State.profile]
@[simp] theorem State.claimLossStow_measured (s : State) (r : Resource) : (s.claimLossStow r).measured = s.measured := by
  simp only [State.claimLossStow]; (repeat' split) <;> simp [State.measured]
@[simp] theorem State.claimLossStow_chan (s : State) (r : Resource) (ch : ChanId) : (s.claimLossStow r).chan ch = s.chan ch := by
  simp only [State.claimLossStow]; (repeat' split) <;> simp [State.chan]
@[simp] theorem State.claimLossStow_position (s : State) (r : Resource) (sd : Side) : (s.claimLossStow r).position sd = s.position sd := by
  simp only [State.claimLossStow]; (repeat' split) <;> simp [State.position, State.chan]
@[simp] theorem State.claimLossStow_armHomed (s : State) (r : Resource) (sd : Side) : (s.claimLossStow r).armHomed sd = s.armHomed sd := by
  simp only [State.claimLossStow]; (repeat' split) <;> simp [State.armHomed, State.chan]
@[simp] theorem State.withdrawEffect_rstnHeld (s : State) (e : Claim) (r : Resource) : (s.withdrawEffect e r).rstnHeld = s.rstnHeld := by
  simp only [State.withdrawEffect]; (repeat' split) <;> simp
@[simp] theorem State.withdrawEffect_stopin (s : State) (e : Claim) (r : Resource) : (s.withdrawEffect e r).stopin = s.stopin := by
  simp only [State.withdrawEffect]; (repeat' split) <;> simp
@[simp] theorem State.withdrawEffect_ctu (s : State) (e : Claim) (r : Resource) : (s.withdrawEffect e r).ctu = s.ctu := by
  simp only [State.withdrawEffect]; (repeat' split) <;> simp
@[simp] theorem State.withdrawEffect_pft (s : State) (e : Claim) (r : Resource) : (s.withdrawEffect e r).pft = s.pft := by
  simp only [State.withdrawEffect]; (repeat' split) <;> simp
@[simp] theorem State.withdrawEffect_tgv (s : State) (e : Claim) (r : Resource) : (s.withdrawEffect e r).tgv = s.tgv := by
  simp only [State.withdrawEffect]; (repeat' split) <;> simp
@[simp] theorem State.withdrawEffect_clt (s : State) (e : Claim) (r : Resource) : (s.withdrawEffect e r).clt = s.clt := by
  simp only [State.withdrawEffect]; (repeat' split) <;> simp
@[simp] theorem State.withdrawEffect_cfs (s : State) (e : Claim) (r : Resource) : (s.withdrawEffect e r).cfs = s.cfs := by
  simp only [State.withdrawEffect]; (repeat' split) <;> simp
@[simp] theorem State.withdrawEffect_raceCount (s : State) (e : Claim) (r : Resource) : (s.withdrawEffect e r).raceCount = s.raceCount := by
  simp only [State.withdrawEffect]; (repeat' split) <;> simp
@[simp] theorem State.withdrawEffect_pending (s : State) (e : Claim) (r : Resource) : (s.withdrawEffect e r).pending = s.pending := by
  simp only [State.withdrawEffect]; (repeat' split) <;> simp
@[simp] theorem State.withdrawEffect_params (s : State) (e : Claim) (r : Resource) : (s.withdrawEffect e r).params = s.params := by
  simp only [State.withdrawEffect]; (repeat' split) <;> simp [State.params]
@[simp] theorem State.withdrawEffect_profile (s : State) (e : Claim) (r : Resource) : (s.withdrawEffect e r).profile = s.profile := by
  simp only [State.withdrawEffect]; (repeat' split) <;> simp [State.profile]
@[simp] theorem State.withdrawEffect_measured (s : State) (e : Claim) (r : Resource) : (s.withdrawEffect e r).measured = s.measured := by
  simp only [State.withdrawEffect]; (repeat' split) <;> simp [State.measured]
@[simp] theorem State.withdrawEffect_chan (s : State) (e : Claim) (r : Resource) (ch : ChanId) : (s.withdrawEffect e r).chan ch = s.chan ch := by
  simp only [State.withdrawEffect]; (repeat' split) <;> simp [State.chan]
@[simp] theorem State.withdrawEffect_position (s : State) (e : Claim) (r : Resource) (sd : Side) : (s.withdrawEffect e r).position sd = s.position sd := by
  simp only [State.withdrawEffect]; (repeat' split) <;> simp [State.position, State.chan]
@[simp] theorem State.withdrawEffect_armHomed (s : State) (e : Claim) (r : Resource) (sd : Side) : (s.withdrawEffect e r).armHomed sd = s.armHomed sd := by
  simp only [State.withdrawEffect]; (repeat' split) <;> simp [State.armHomed, State.chan]
@[simp] theorem State.engineStopInput_rstnHeld (s : State) : (s.engineStopInput).rstnHeld = s.rstnHeld := by
  simp only [State.engineStopInput]; (repeat' split) <;> simp
@[simp] theorem State.engineStopInput_stopin (s : State) : (s.engineStopInput).stopin = s.stopin := by
  simp only [State.engineStopInput]; (repeat' split) <;> simp
@[simp] theorem State.engineStopInput_ctu (s : State) : (s.engineStopInput).ctu = s.ctu := by
  simp only [State.engineStopInput]; (repeat' split) <;> simp
@[simp] theorem State.engineStopInput_pba (s : State) : (s.engineStopInput).pba = s.pba := by
  simp only [State.engineStopInput]; (repeat' split) <;> simp
@[simp] theorem State.engineStopInput_pft (s : State) : (s.engineStopInput).pft = s.pft := by
  simp only [State.engineStopInput]; (repeat' split) <;> simp
@[simp] theorem State.engineStopInput_tgv (s : State) : (s.engineStopInput).tgv = s.tgv := by
  simp only [State.engineStopInput]; (repeat' split) <;> simp
@[simp] theorem State.engineStopInput_arc (s : State) : (s.engineStopInput).arc = s.arc := by
  simp only [State.engineStopInput]; (repeat' split) <;> simp
@[simp] theorem State.engineStopInput_clt (s : State) : (s.engineStopInput).clt = s.clt := by
  simp only [State.engineStopInput]; (repeat' split) <;> simp
@[simp] theorem State.engineStopInput_spc (s : State) : (s.engineStopInput).spc = s.spc := by
  simp only [State.engineStopInput]; (repeat' split) <;> simp
@[simp] theorem State.engineStopInput_cfs (s : State) : (s.engineStopInput).cfs = s.cfs := by
  simp only [State.engineStopInput]; (repeat' split) <;> simp
@[simp] theorem State.engineStopInput_raceCount (s : State) : (s.engineStopInput).raceCount = s.raceCount := by
  simp only [State.engineStopInput]; (repeat' split) <;> simp
@[simp] theorem State.engineStopInput_pending (s : State) : (s.engineStopInput).pending = s.pending := by
  simp only [State.engineStopInput]; (repeat' split) <;> simp
@[simp] theorem State.engineStopInput_params (s : State) : (s.engineStopInput).params = s.params := by
  simp only [State.engineStopInput]; (repeat' split) <;> simp [State.params]
@[simp] theorem State.engineStopInput_profile (s : State) : (s.engineStopInput).profile = s.profile := by
  simp only [State.engineStopInput]; (repeat' split) <;> simp [State.profile]
@[simp] theorem State.engineStopInput_measured (s : State) : (s.engineStopInput).measured = s.measured := by
  simp only [State.engineStopInput]; (repeat' split) <;> simp [State.measured]
@[simp] theorem State.engineStopInput_chan (s : State) (ch : ChanId) : (s.engineStopInput).chan ch = s.chan ch := by
  simp only [State.engineStopInput]; (repeat' split) <;> simp [State.chan]
@[simp] theorem State.engineStopInput_position (s : State) (sd : Side) : (s.engineStopInput).position sd = s.position sd := by
  simp only [State.engineStopInput]; (repeat' split) <;> simp [State.position, State.chan]
@[simp] theorem State.engineStopInput_armHomed (s : State) (sd : Side) : (s.engineStopInput).armHomed sd = s.armHomed sd := by
  simp only [State.engineStopInput]; (repeat' split) <;> simp [State.armHomed, State.chan]
@[simp] theorem State.engineStopInput_arm (s : State) (sd : Side) : (s.engineStopInput).arm sd = s.arm sd := by
  simp only [State.engineStopInput]; (repeat' split) <;> simp [State.arm]
@[simp] theorem State.withdrawCab_rstnHeld (s : State) : (s.withdrawCab).rstnHeld = s.rstnHeld := by
  simp [State.withdrawCab]
@[simp] theorem State.withdrawCab_stopin (s : State) : (s.withdrawCab).stopin = s.stopin := by
  simp [State.withdrawCab]
@[simp] theorem State.withdrawCab_ctu (s : State) : (s.withdrawCab).ctu = s.ctu := by
  simp [State.withdrawCab]
@[simp] theorem State.withdrawCab_pft (s : State) : (s.withdrawCab).pft = s.pft := by
  simp [State.withdrawCab]
@[simp] theorem State.withdrawCab_tgv (s : State) : (s.withdrawCab).tgv = s.tgv := by
  simp [State.withdrawCab]
@[simp] theorem State.withdrawCab_cfs (s : State) : (s.withdrawCab).cfs = s.cfs := by
  simp [State.withdrawCab]
@[simp] theorem State.withdrawCab_raceCount (s : State) : (s.withdrawCab).raceCount = s.raceCount := by
  simp [State.withdrawCab]
@[simp] theorem State.withdrawCab_pending (s : State) : (s.withdrawCab).pending = s.pending := by
  simp [State.withdrawCab]
@[simp] theorem State.withdrawCab_params (s : State) : (s.withdrawCab).params = s.params := by
  simp [State.withdrawCab, State.params]
@[simp] theorem State.withdrawCab_profile (s : State) : (s.withdrawCab).profile = s.profile := by
  simp [State.withdrawCab, State.profile]
@[simp] theorem State.withdrawCab_measured (s : State) : (s.withdrawCab).measured = s.measured := by
  simp [State.withdrawCab, State.measured]
@[simp] theorem State.withdrawCab_chan (s : State) (ch : ChanId) : (s.withdrawCab).chan ch = s.chan ch := by
  simp [State.withdrawCab, State.chan]
@[simp] theorem State.withdrawCab_position (s : State) (sd : Side) : (s.withdrawCab).position sd = s.position sd := by
  simp [State.withdrawCab, State.position, State.chan]
@[simp] theorem State.withdrawCab_armHomed (s : State) (sd : Side) : (s.withdrawCab).armHomed sd = s.armHomed sd := by
  simp [State.withdrawCab, State.armHomed, State.chan]
@[simp] theorem State.cabLost_rstnHeld (s : State) : (s.cabLost).rstnHeld = s.rstnHeld := by
  simp [State.cabLost]
@[simp] theorem State.cabLost_stopin (s : State) : (s.cabLost).stopin = s.stopin := by
  simp [State.cabLost]
@[simp] theorem State.cabLost_ctu (s : State) : (s.cabLost).ctu = s.ctu := by
  simp [State.cabLost]
@[simp] theorem State.cabLost_pft (s : State) : (s.cabLost).pft = s.pft := by
  simp [State.cabLost]
@[simp] theorem State.cabLost_cfs (s : State) : (s.cabLost).cfs = s.cfs := by
  simp [State.cabLost]
@[simp] theorem State.cabLost_raceCount (s : State) : (s.cabLost).raceCount = s.raceCount := by
  simp [State.cabLost]
@[simp] theorem State.cabLost_pending (s : State) : (s.cabLost).pending = s.pending := by
  simp [State.cabLost]
@[simp] theorem State.cabLost_params (s : State) : (s.cabLost).params = s.params := by
  simp [State.cabLost, State.params]
@[simp] theorem State.cabLost_profile (s : State) : (s.cabLost).profile = s.profile := by
  simp [State.cabLost, State.profile]
@[simp] theorem State.cabLost_measured (s : State) : (s.cabLost).measured = s.measured := by
  simp [State.cabLost, State.measured]
@[simp] theorem State.cabLost_chan (s : State) (ch : ChanId) : (s.cabLost).chan ch = s.chan ch := by
  simp [State.cabLost, State.chan]
@[simp] theorem State.cabLost_position (s : State) (sd : Side) : (s.cabLost).position sd = s.position sd := by
  simp [State.cabLost, State.position, State.chan]
@[simp] theorem State.cabLost_armHomed (s : State) (sd : Side) : (s.cabLost).armHomed sd = s.armHomed sd := by
  simp [State.cabLost, State.armHomed, State.chan]

/-! ## Forward distance, travel -/

@[simp] theorem State.markMm_rstnHeld (s : State) : (s.markMm).rstnHeld = s.rstnHeld := by
  simp only [State.markMm]; (repeat' split) <;> simp
@[simp] theorem State.markMm_stopin (s : State) : (s.markMm).stopin = s.stopin := by
  simp only [State.markMm]; (repeat' split) <;> simp
@[simp] theorem State.markMm_pba (s : State) : (s.markMm).pba = s.pba := by
  simp only [State.markMm]; (repeat' split) <;> simp
@[simp] theorem State.markMm_pft (s : State) : (s.markMm).pft = s.pft := by
  simp only [State.markMm]; (repeat' split) <;> simp
@[simp] theorem State.markMm_tgv (s : State) : (s.markMm).tgv = s.tgv := by
  simp only [State.markMm]; (repeat' split) <;> simp
@[simp] theorem State.markMm_arc (s : State) : (s.markMm).arc = s.arc := by
  simp only [State.markMm]; (repeat' split) <;> simp
@[simp] theorem State.markMm_clt (s : State) : (s.markMm).clt = s.clt := by
  simp only [State.markMm]; (repeat' split) <;> simp
@[simp] theorem State.markMm_cfs (s : State) : (s.markMm).cfs = s.cfs := by
  simp only [State.markMm]; (repeat' split) <;> simp
@[simp] theorem State.markMm_raceCount (s : State) : (s.markMm).raceCount = s.raceCount := by
  simp only [State.markMm]; (repeat' split) <;> simp
@[simp] theorem State.markMm_pending (s : State) : (s.markMm).pending = s.pending := by
  simp only [State.markMm]; (repeat' split) <;> simp
@[simp] theorem State.markMm_params (s : State) : (s.markMm).params = s.params := by
  simp only [State.markMm]; (repeat' split) <;> simp [State.params]
@[simp] theorem State.markMm_profile (s : State) : (s.markMm).profile = s.profile := by
  simp only [State.markMm]; (repeat' split) <;> simp [State.profile]
@[simp] theorem State.markMm_arm (s : State) (sd : Side) : (s.markMm).arm sd = s.arm sd := by
  simp only [State.markMm]; (repeat' split) <;> simp [State.arm]
@[simp] theorem State.forwardMm_rstnHeld (s : State) : (s.forwardMm).rstnHeld = s.rstnHeld := by
  simp [State.forwardMm]
@[simp] theorem State.forwardMm_stopin (s : State) : (s.forwardMm).stopin = s.stopin := by
  simp [State.forwardMm]
@[simp] theorem State.forwardMm_cfs (s : State) : (s.forwardMm).cfs = s.cfs := by
  simp [State.forwardMm]
@[simp] theorem State.forwardMm_raceCount (s : State) : (s.forwardMm).raceCount = s.raceCount := by
  simp [State.forwardMm]
@[simp] theorem State.forwardMm_pending (s : State) : (s.forwardMm).pending = s.pending := by
  simp [State.forwardMm]
@[simp] theorem State.forwardMm_params (s : State) : (s.forwardMm).params = s.params := by
  simp [State.forwardMm, State.params]
@[simp] theorem State.forwardMms_rstnHeld (n : Nat) (s : State) : (State.forwardMms n s).rstnHeld = s.rstnHeld := by
  induction n generalizing s with
  | zero => rfl
  | succ n ih => simp [State.forwardMms, ih]
@[simp] theorem State.forwardMms_stopin (n : Nat) (s : State) : (State.forwardMms n s).stopin = s.stopin := by
  induction n generalizing s with
  | zero => rfl
  | succ n ih => simp [State.forwardMms, ih]
@[simp] theorem State.forwardMms_cfs (n : Nat) (s : State) : (State.forwardMms n s).cfs = s.cfs := by
  induction n generalizing s with
  | zero => rfl
  | succ n ih => simp [State.forwardMms, ih]
@[simp] theorem State.forwardMms_raceCount (n : Nat) (s : State) : (State.forwardMms n s).raceCount = s.raceCount := by
  induction n generalizing s with
  | zero => rfl
  | succ n ih => simp [State.forwardMms, ih]
@[simp] theorem State.forwardMms_pending (n : Nat) (s : State) : (State.forwardMms n s).pending = s.pending := by
  induction n generalizing s with
  | zero => rfl
  | succ n ih => simp [State.forwardMms, ih]
@[simp] theorem State.forwardMms_params (n : Nat) (s : State) : (State.forwardMms n s).params = s.params := by
  induction n generalizing s with
  | zero => rfl
  | succ n ih => simp [State.forwardMms, ih]
@[simp] theorem State.forwardCount_rstnHeld (s : State) : (s.forwardCount).rstnHeld = s.rstnHeld := by
  simp [State.forwardCount]
@[simp] theorem State.forwardCount_stopin (s : State) : (s.forwardCount).stopin = s.stopin := by
  simp [State.forwardCount]
@[simp] theorem State.forwardCount_cfs (s : State) : (s.forwardCount).cfs = s.cfs := by
  simp [State.forwardCount]
@[simp] theorem State.forwardCount_raceCount (s : State) : (s.forwardCount).raceCount = s.raceCount := by
  simp [State.forwardCount]
@[simp] theorem State.forwardCount_pending (s : State) : (s.forwardCount).pending = s.pending := by
  simp [State.forwardCount]
@[simp] theorem State.forwardCount_params (s : State) : (s.forwardCount).params = s.params := by
  simp [State.forwardCount, State.params]
@[simp] theorem State.travelTick_rstnHeld (s : State) : (s.travelTick).rstnHeld = s.rstnHeld := by
  simp only [State.travelTick]; (repeat' split) <;> simp
@[simp] theorem State.travelTick_stopin (s : State) : (s.travelTick).stopin = s.stopin := by
  simp only [State.travelTick]; (repeat' split) <;> simp
@[simp] theorem State.travelTick_ctu (s : State) : (s.travelTick).ctu = s.ctu := by
  simp only [State.travelTick]; (repeat' split) <;> simp
@[simp] theorem State.travelTick_pft (s : State) : (s.travelTick).pft = s.pft := by
  simp only [State.travelTick]; (repeat' split) <;> simp
@[simp] theorem State.travelTick_arc (s : State) : (s.travelTick).arc = s.arc := by
  simp only [State.travelTick]; (repeat' split) <;> simp
@[simp] theorem State.travelTick_spc (s : State) : (s.travelTick).spc = s.spc := by
  simp only [State.travelTick]; (repeat' split) <;> simp
@[simp] theorem State.travelTick_cfs (s : State) : (s.travelTick).cfs = s.cfs := by
  simp only [State.travelTick]; (repeat' split) <;> simp
@[simp] theorem State.travelTick_raceCount (s : State) : (s.travelTick).raceCount = s.raceCount := by
  simp only [State.travelTick]; (repeat' split) <;> simp
@[simp] theorem State.travelTick_pending (s : State) : (s.travelTick).pending = s.pending := by
  simp only [State.travelTick]; (repeat' split) <;> simp
@[simp] theorem State.travelTick_params (s : State) : (s.travelTick).params = s.params := by
  simp only [State.travelTick]; (repeat' split) <;> simp [State.params]
@[simp] theorem State.travelTick_profile (s : State) : (s.travelTick).profile = s.profile := by
  simp only [State.travelTick]; (repeat' split) <;> simp [State.profile]
@[simp] theorem State.travelTick_measured (s : State) : (s.travelTick).measured = s.measured := by
  simp only [State.travelTick]; (repeat' split) <;> simp [State.measured]
@[simp] theorem State.travelTick_chan (s : State) (ch : ChanId) : (s.travelTick).chan ch = s.chan ch := by
  simp only [State.travelTick]; (repeat' split) <;> simp [State.chan]
@[simp] theorem State.travelTick_position (s : State) (sd : Side) : (s.travelTick).position sd = s.position sd := by
  simp only [State.travelTick]; (repeat' split) <;> simp [State.position, State.chan]
@[simp] theorem State.travelTick_armHomed (s : State) (sd : Side) : (s.travelTick).armHomed sd = s.armHomed sd := by
  simp only [State.travelTick]; (repeat' split) <;> simp [State.armHomed, State.chan]
@[simp] theorem State.travelTick_arm (s : State) (sd : Side) : (s.travelTick).arm sd = s.arm sd := by
  simp only [State.travelTick]; (repeat' split) <;> simp [State.arm]

end Sys2Proof.Machine
end

