-- ==== Sys2Proof/Laws/Lanes.lean ====
section
/-! SUPPORT. What the operations leave of the budget record: only an allocation publishes results, so every other operation
keeps the state, grant and granted flow of every lane and the fields around the lane table. -/

namespace Sys2Proof.Machine

/-- The budget record with its lane table put aside. -/
def Pba.around (p : Pba) : Pba := { p with lanes := Pba.reset.lanes }

@[simp] theorem Pba.around_setLane (p : Pba) (i : LaneId) (x : Lane) : (p.setLane i x).around = p.around := rfl

/-- Equal but for the lane table. -/
theorem Pba.eq_of_around {p q : Pba} (h : p.around = q.around) : p = { q with lanes := p.lanes } := by
  cases p; cases q; simp only [Pba.around, Pba.mk.injEq] at h ⊢; tauto

@[simp] theorem Lane.raise_out (x : Lane) (k : ClampKind) (b : Bool) : (x.raise k b).out = x.out := by cases k <;> rfl

@[simp] theorem Lane.raise_req (x : Lane) (k : ClampKind) (b : Bool) : (x.raise k b).req = x.req := by cases k <;> rfl

theorem Pba.setLane_out (p : Pba) (i l : LaneId) (x : Lane) (h : x.out = (p.lane i).out) :
    ((p.setLane i x).lane l).out = (p.lane l).out := by
  rw [Pba.lane_setLane]; split <;> simp_all

@[simp] theorem Pba.setLane_pressure (p : Pba) (i l : LaneId) (x : Lane) : (p.setLane i x).pressure l = p.pressure l := by
  cases l <;> rfl

@[simp] theorem State.publishLane_out (s : State) (i : LaneId) (r : LaneReq) (l : LaneId) : ((s.publishLane i r).pba.lane l).out = (s.pba.lane l).out := by
  exact Pba.setLane_out _ _ _ _ (by simp)
@[simp] theorem State.publishLane_pressure (s : State) (i : LaneId) (r : LaneReq) (l : LaneId) : (s.publishLane i r).pba.pressure l = s.pba.pressure l := by
  simp [State.publishLane]
@[simp] theorem State.publishLane_ambient (s : State) (i : LaneId) (r : LaneReq) : (s.publishLane i r).pba.ambient = s.pba.ambient := rfl
@[simp] theorem State.publishLane_freshness (s : State) (i : LaneId) (r : LaneReq) : (s.publishLane i r).pba.freshness = s.pba.freshness := rfl
@[simp] theorem State.publishLane_allocTimer (s : State) (i : LaneId) (r : LaneReq) : (s.publishLane i r).pba.allocTimer = s.pba.allocTimer := rfl
@[simp] theorem State.publishLane_around (s : State) (i : LaneId) (r : LaneReq) : (s.publishLane i r).pba.around = s.pba.around := rfl
@[simp] theorem State.raiseClamp_out (s : State) (i : LaneId) (k : ClampKind) (b : Bool) (l : LaneId) : ((s.raiseClamp i k b).pba.lane l).out = (s.pba.lane l).out := by
  exact Pba.setLane_out _ _ _ _ (by simp)
@[simp] theorem State.raiseClamp_pressure (s : State) (i : LaneId) (k : ClampKind) (b : Bool) (l : LaneId) : (s.raiseClamp i k b).pba.pressure l = s.pba.pressure l := by
  simp [State.raiseClamp]
@[simp] theorem State.raiseClamp_ambient (s : State) (i : LaneId) (k : ClampKind) (b : Bool) : (s.raiseClamp i k b).pba.ambient = s.pba.ambient := rfl
@[simp] theorem State.raiseClamp_freshness (s : State) (i : LaneId) (k : ClampKind) (b : Bool) : (s.raiseClamp i k b).pba.freshness = s.pba.freshness := rfl
@[simp] theorem State.raiseClamp_allocTimer (s : State) (i : LaneId) (k : ClampKind) (b : Bool) : (s.raiseClamp i k b).pba.allocTimer = s.pba.allocTimer := rfl
@[simp] theorem State.raiseClamp_around (s : State) (i : LaneId) (k : ClampKind) (b : Bool) : (s.raiseClamp i k b).pba.around = s.pba.around := rfl
@[simp] theorem State.setPump_out (s : State) (l : LaneId) : ((s.setPump).pba.lane l).out = (s.pba.lane l).out := by
  exact Pba.setLane_out _ _ _ _ (by simp)
@[simp] theorem State.setPump_pressure (s : State) (l : LaneId) : (s.setPump).pba.pressure l = s.pba.pressure l := by
  simp [State.setPump]
@[simp] theorem State.setPump_ambient (s : State) : (s.setPump).pba.ambient = s.pba.ambient := rfl
@[simp] theorem State.setPump_freshness (s : State) : (s.setPump).pba.freshness = s.pba.freshness := rfl
@[simp] theorem State.setPump_allocTimer (s : State) : (s.setPump).pba.allocTimer = s.pba.allocTimer := rfl
@[simp] theorem State.setPump_around (s : State) : (s.setPump).pba.around = s.pba.around := rfl
@[simp] theorem State.brushArm_out (s : State) (side : Side) (l : LaneId) : ((s.brushArm side).pba.lane l).out = (s.pba.lane l).out := by
  exact Pba.setLane_out _ _ _ _ (by simp)
@[simp] theorem State.brushArm_pressure (s : State) (side : Side) (l : LaneId) : (s.brushArm side).pba.pressure l = s.pba.pressure l := by
  simp [State.brushArm]
@[simp] theorem State.brushArm_ambient (s : State) (side : Side) : (s.brushArm side).pba.ambient = s.pba.ambient := rfl
@[simp] theorem State.brushArm_freshness (s : State) (side : Side) : (s.brushArm side).pba.freshness = s.pba.freshness := rfl
@[simp] theorem State.brushArm_allocTimer (s : State) (side : Side) : (s.brushArm side).pba.allocTimer = s.pba.allocTimer := rfl
@[simp] theorem State.brushArm_around (s : State) (side : Side) : (s.brushArm side).pba.around = s.pba.around := rfl
@[simp] theorem State.brushMain_out (s : State) (l : LaneId) : ((s.brushMain).pba.lane l).out = (s.pba.lane l).out := by
  exact Pba.setLane_out _ _ _ _ (by simp)
@[simp] theorem State.brushMain_pressure (s : State) (l : LaneId) : (s.brushMain).pba.pressure l = s.pba.pressure l := by
  simp [State.brushMain]
@[simp] theorem State.brushMain_ambient (s : State) : (s.brushMain).pba.ambient = s.pba.ambient := rfl
@[simp] theorem State.brushMain_freshness (s : State) : (s.brushMain).pba.freshness = s.pba.freshness := rfl
@[simp] theorem State.brushMain_allocTimer (s : State) : (s.brushMain).pba.allocTimer = s.pba.allocTimer := rfl
@[simp] theorem State.brushMain_around (s : State) : (s.brushMain).pba.around = s.pba.around := rfl
@[simp] theorem State.brushFan_out (s : State) (l : LaneId) : ((s.brushFan).pba.lane l).out = (s.pba.lane l).out := by
  exact Pba.setLane_out _ _ _ _ (by simp)
@[simp] theorem State.brushFan_pressure (s : State) (l : LaneId) : (s.brushFan).pba.pressure l = s.pba.pressure l := by
  simp [State.brushFan]
@[simp] theorem State.brushFan_ambient (s : State) : (s.brushFan).pba.ambient = s.pba.ambient := rfl
@[simp] theorem State.brushFan_freshness (s : State) : (s.brushFan).pba.freshness = s.pba.freshness := rfl
@[simp] theorem State.brushFan_allocTimer (s : State) : (s.brushFan).pba.allocTimer = s.pba.allocTimer := rfl
@[simp] theorem State.brushFan_around (s : State) : (s.brushFan).pba.around = s.pba.around := rfl
@[simp] theorem State.pickupLanesOff_out (s : State) (l : LaneId) : ((s.pickupLanesOff).pba.lane l).out = (s.pba.lane l).out := by
  simp [State.pickupLanesOff]
@[simp] theorem State.pickupLanesOff_pressure (s : State) (l : LaneId) : (s.pickupLanesOff).pba.pressure l = s.pba.pressure l := by
  simp [State.pickupLanesOff]
@[simp] theorem State.pickupLanesOff_ambient (s : State) : (s.pickupLanesOff).pba.ambient = s.pba.ambient := by
  simp [State.pickupLanesOff]
@[simp] theorem State.pickupLanesOff_freshness (s : State) : (s.pickupLanesOff).pba.freshness = s.pba.freshness := by
  simp [State.pickupLanesOff]
@[simp] theorem State.pickupLanesOff_allocTimer (s : State) : (s.pickupLanesOff).pba.allocTimer = s.pba.allocTimer := by
  simp [State.pickupLanesOff]
@[simp] theorem State.pickupLanesOff_around (s : State) : (s.pickupLanesOff).pba.around = s.pba.around := by
  simp [State.pickupLanesOff]
@[simp] theorem State.publishSpry_out (s : State) (l : LaneId) : ((s.publishSpry).pba.lane l).out = (s.pba.lane l).out := by
  simp only [State.publishSpry]; (repeat' split) <;> simp
@[simp] theorem State.publishSpry_pressure (s : State) (l : LaneId) : (s.publishSpry).pba.pressure l = s.pba.pressure l := by
  simp only [State.publishSpry]; (repeat' split) <;> simp
@[simp] theorem State.publishSpry_ambient (s : State) : (s.publishSpry).pba.ambient = s.pba.ambient := by
  simp only [State.publishSpry]; (repeat' split) <;> simp
@[simp] theorem State.publishSpry_freshness (s : State) : (s.publishSpry).pba.freshness = s.pba.freshness := by
  simp only [State.publishSpry]; (repeat' split) <;> simp
@[simp] theorem State.publishSpry_allocTimer (s : State) : (s.publishSpry).pba.allocTimer = s.pba.allocTimer := by
  simp only [State.publishSpry]; (repeat' split) <;> simp
@[simp] theorem State.publishSpry_around (s : State) : (s.publishSpry).pba.around = s.pba.around := by
  simp only [State.publishSpry]; (repeat' split) <;> simp
@[simp] theorem State.settleBanks_out (s : State) (l : LaneId) : ((s.settleBanks).pba.lane l).out = (s.pba.lane l).out := by
  simp [State.settleBanks]
@[simp] theorem State.settleBanks_pressure (s : State) (l : LaneId) : (s.settleBanks).pba.pressure l = s.pba.pressure l := by
  simp [State.settleBanks]
@[simp] theorem State.settleBanks_ambient (s : State) : (s.settleBanks).pba.ambient = s.pba.ambient := by
  simp [State.settleBanks]
@[simp] theorem State.settleBanks_freshness (s : State) : (s.settleBanks).pba.freshness = s.pba.freshness := by
  simp [State.settleBanks]
@[simp] theorem State.settleBanks_allocTimer (s : State) : (s.settleBanks).pba.allocTimer = s.pba.allocTimer := by
  simp [State.settleBanks]
@[simp] theorem State.settleBanks_around (s : State) : (s.settleBanks).pba.around = s.pba.around := by
  simp [State.settleBanks]
@[simp] theorem State.sprayRefresh_out (s : State) (l : LaneId) : ((s.sprayRefresh).pba.lane l).out = (s.pba.lane l).out := by
  simp [State.sprayRefresh]
@[simp] theorem State.sprayRefresh_pressure (s : State) (l : LaneId) : (s.sprayRefresh).pba.pressure l = s.pba.pressure l := by
  simp [State.sprayRefresh]
@[simp] theorem State.sprayRefresh_ambient (s : State) : (s.sprayRefresh).pba.ambient = s.pba.ambient := by
  simp [State.sprayRefresh]
@[simp] theorem State.sprayRefresh_freshness (s : State) : (s.sprayRefresh).pba.freshness = s.pba.freshness := by
  simp [State.sprayRefresh]
@[simp] theorem State.sprayRefresh_allocTimer (s : State) : (s.sprayRefresh).pba.allocTimer = s.pba.allocTimer := by
  simp [State.sprayRefresh]
@[simp] theorem State.sprayRefresh_around (s : State) : (s.sprayRefresh).pba.around = s.pba.around := by
  simp [State.sprayRefresh]
@[simp] theorem State.refreshIf_out (s : State) (b : Bool) (l : LaneId) : ((s.refreshIf b).pba.lane l).out = (s.pba.lane l).out := by
  simp only [State.refreshIf]; (repeat' split) <;> simp
@[simp] theorem State.refreshIf_pressure (s : State) (b : Bool) (l : LaneId) : (s.refreshIf b).pba.pressure l = s.pba.pressure l := by
  simp only [State.refreshIf]; (repeat' split) <;> simp
@[simp] theorem State.refreshIf_ambient (s : State) (b : Bool) : (s.refreshIf b).pba.ambient = s.pba.ambient := by
  simp only [State.refreshIf]; (repeat' split) <;> simp
@[simp] theorem State.refreshIf_freshness (s : State) (b : Bool) : (s.refreshIf b).pba.freshness = s.pba.freshness := by
  simp only [State.refreshIf]; (repeat' split) <;> simp
@[simp] theorem State.refreshIf_allocTimer (s : State) (b : Bool) : (s.refreshIf b).pba.allocTimer = s.pba.allocTimer := by
  simp only [State.refreshIf]; (repeat' split) <;> simp
@[simp] theorem State.refreshIf_around (s : State) (b : Bool) : (s.refreshIf b).pba.around = s.pba.around := by
  simp only [State.refreshIf]; (repeat' split) <;> simp
@[simp] theorem State.spraySetting_out (s : State) (m : Option (BitVec 4)) (d : Option Nat) (l : LaneId) : ((s.spraySetting m d).pba.lane l).out = (s.pba.lane l).out := by
  simp [State.spraySetting]
@[simp] theorem State.spraySetting_pressure (s : State) (m : Option (BitVec 4)) (d : Option Nat) (l : LaneId) : (s.spraySetting m d).pba.pressure l = s.pba.pressure l := by
  simp [State.spraySetting]
@[simp] theorem State.spraySetting_ambient (s : State) (m : Option (BitVec 4)) (d : Option Nat) : (s.spraySetting m d).pba.ambient = s.pba.ambient := by
  simp [State.spraySetting]
@[simp] theorem State.spraySetting_freshness (s : State) (m : Option (BitVec 4)) (d : Option Nat) : (s.spraySetting m d).pba.freshness = s.pba.freshness := by
  simp [State.spraySetting]
@[simp] theorem State.spraySetting_allocTimer (s : State) (m : Option (BitVec 4)) (d : Option Nat) : (s.spraySetting m d).pba.allocTimer = s.pba.allocTimer := by
  simp [State.spraySetting]
@[simp] theorem State.spraySetting_around (s : State) (m : Option (BitVec 4)) (d : Option Nat) : (s.spraySetting m d).pba.around = s.pba.around := by
  simp [State.spraySetting]
@[simp] theorem State.disableBanks_out (s : State) (l : LaneId) : ((s.disableBanks).pba.lane l).out = (s.pba.lane l).out := by
  simp only [State.disableBanks]; (repeat' split) <;> simp
@[simp] theorem State.disableBanks_pressure (s : State) (l : LaneId) : (s.disableBanks).pba.pressure l = s.pba.pressure l := by
  simp only [State.disableBanks]; (repeat' split) <;> simp
@[simp] theorem State.disableBanks_ambient (s : State) : (s.disableBanks).pba.ambient = s.pba.ambient := by
  simp only [State.disableBanks]; (repeat' split) <;> simp
@[simp] theorem State.disableBanks_freshness (s : State) : (s.disableBanks).pba.freshness = s.pba.freshness := by
  simp only [State.disableBanks]; (repeat' split) <;> simp
@[simp] theorem State.disableBanks_allocTimer (s : State) : (s.disableBanks).pba.allocTimer = s.pba.allocTimer := by
  simp only [State.disableBanks]; (repeat' split) <;> simp
@[simp] theorem State.disableBanks_around (s : State) : (s.disableBanks).pba.around = s.pba.around := by
  simp only [State.disableBanks]; (repeat' split) <;> simp
@[simp] theorem State.setEstimate_out (s : State) (n : Nat) (l : LaneId) : ((s.setEstimate n).pba.lane l).out = (s.pba.lane l).out := by
  simp [State.setEstimate]
@[simp] theorem State.setEstimate_pressure (s : State) (n : Nat) (l : LaneId) : (s.setEstimate n).pba.pressure l = s.pba.pressure l := by
  simp [State.setEstimate]
@[simp] theorem State.setEstimate_ambient (s : State) (n : Nat) : (s.setEstimate n).pba.ambient = s.pba.ambient := by
  simp [State.setEstimate]
@[simp] theorem State.setEstimate_freshness (s : State) (n : Nat) : (s.setEstimate n).pba.freshness = s.pba.freshness := by
  simp [State.setEstimate]
@[simp] theorem State.setEstimate_allocTimer (s : State) (n : Nat) : (s.setEstimate n).pba.allocTimer = s.pba.allocTimer := by
  simp [State.setEstimate]
@[simp] theorem State.setEstimate_around (s : State) (n : Nat) : (s.setEstimate n).pba.around = s.pba.around := by
  simp [State.setEstimate]
@[simp] theorem State.pulseExpired_out (s : State) (i : BankId) (l : LaneId) : ((s.pulseExpired i).pba.lane l).out = (s.pba.lane l).out := by
  simp [State.pulseExpired]
@[simp] theorem State.pulseExpired_pressure (s : State) (i : BankId) (l : LaneId) : (s.pulseExpired i).pba.pressure l = s.pba.pressure l := by
  simp [State.pulseExpired]
@[simp] theorem State.pulseExpired_ambient (s : State) (i : BankId) : (s.pulseExpired i).pba.ambient = s.pba.ambient := by
  simp [State.pulseExpired]
@[simp] theorem State.pulseExpired_freshness (s : State) (i : BankId) : (s.pulseExpired i).pba.freshness = s.pba.freshness := by
  simp [State.pulseExpired]
@[simp] theorem State.pulseExpired_allocTimer (s : State) (i : BankId) : (s.pulseExpired i).pba.allocTimer = s.pba.allocTimer := by
  simp [State.pulseExpired]
@[simp] theorem State.pulseExpired_around (s : State) (i : BankId) : (s.pulseExpired i).pba.around = s.pba.around := by
  simp [State.pulseExpired]
@[simp] theorem State.putArm_out (s : State) (side : Side) (x : Arm) (l : LaneId) : ((s.putArm side x).pba.lane l).out = (s.pba.lane l).out := by
  simp [State.putArm]
@[simp] theorem State.putArm_pressure (s : State) (side : Side) (x : Arm) (l : LaneId) : (s.putArm side x).pba.pressure l = s.pba.pressure l := by
  simp [State.putArm]
@[simp] theorem State.putArm_ambient (s : State) (side : Side) (x : Arm) : (s.putArm side x).pba.ambient = s.pba.ambient := by
  simp [State.putArm]
@[simp] theorem State.putArm_freshness (s : State) (side : Side) (x : Arm) : (s.putArm side x).pba.freshness = s.pba.freshness := by
  simp [State.putArm]
@[simp] theorem State.putArm_allocTimer (s : State) (side : Side) (x : Arm) : (s.putArm side x).pba.allocTimer = s.pba.allocTimer := by
  simp [State.putArm]
@[simp] theorem State.putArm_around (s : State) (side : Side) (x : Arm) : (s.putArm side x).pba.around = s.pba.around := by
  simp [State.putArm]
@[simp] theorem State.putPickup_out (s : State) (x : Pickup) (l : LaneId) : ((s.putPickup x).pba.lane l).out = (s.pba.lane l).out := by
  simp [State.putPickup]
@[simp] theorem State.putPickup_pressure (s : State) (x : Pickup) (l : LaneId) : (s.putPickup x).pba.pressure l = s.pba.pressure l := by
  simp [State.putPickup]
@[simp] theorem State.putPickup_ambient (s : State) (x : Pickup) : (s.putPickup x).pba.ambient = s.pba.ambient := by
  simp [State.putPickup]
@[simp] theorem State.putPickup_freshness (s : State) (x : Pickup) : (s.putPickup x).pba.freshness = s.pba.freshness := by
  simp [State.putPickup]
@[simp] theorem State.putPickup_allocTimer (s : State) (x : Pickup) : (s.putPickup x).pba.allocTimer = s.pba.allocTimer := by
  simp [State.putPickup]
@[simp] theorem State.putPickup_around (s : State) (x : Pickup) : (s.putPickup x).pba.around = s.pba.around := by
  simp [State.putPickup]
@[simp] theorem State.liftArm_out (s : State) (side : Side) (c : Cause) (l : LaneId) : ((s.liftArm side c).pba.lane l).out = (s.pba.lane l).out := by
  simp [State.liftArm]
@[simp] theorem State.liftArm_pressure (s : State) (side : Side) (c : Cause) (l : LaneId) : (s.liftArm side c).pba.pressure l = s.pba.pressure l := by
  simp [State.liftArm]
@[simp] theorem State.liftArm_ambient (s : State) (side : Side) (c : Cause) : (s.liftArm side c).pba.ambient = s.pba.ambient := by
  simp [State.liftArm]
@[simp] theorem State.liftArm_freshness (s : State) (side : Side) (c : Cause) : (s.liftArm side c).pba.freshness = s.pba.freshness := by
  simp [State.liftArm]
@[simp] theorem State.liftArm_allocTimer (s : State) (side : Side) (c : Cause) : (s.liftArm side c).pba.allocTimer = s.pba.allocTimer := by
  simp [State.liftArm]
@[simp] theorem State.liftArm_around (s : State) (side : Side) (c : Cause) : (s.liftArm side c).pba.around = s.pba.around := by
  simp [State.liftArm]
@[simp] theorem State.faultArm_out (s : State) (side : Side) (c : Cause) (l : LaneId) : ((s.faultArm side c).pba.lane l).out = (s.pba.lane l).out := by
  simp [State.faultArm]
@[simp] theorem State.faultArm_pressure (s : State) (side : Side) (c : Cause) (l : LaneId) : (s.faultArm side c).pba.pressure l = s.pba.pressure l := by
  simp [State.faultArm]
@[simp] theorem State.faultArm_ambient (s : State) (side : Side) (c : Cause) : (s.faultArm side c).pba.ambient = s.pba.ambient := by
  simp [State.faultArm]
@[simp] theorem State.faultArm_freshness (s : State) (side : Side) (c : Cause) : (s.faultArm side c).pba.freshness = s.pba.freshness := by
  simp [State.faultArm]
@[simp] theorem State.faultArm_allocTimer (s : State) (side : Side) (c : Cause) : (s.faultArm side c).pba.allocTimer = s.pba.allocTimer := by
  simp [State.faultArm]
@[simp] theorem State.faultArm_around (s : State) (side : Side) (c : Cause) : (s.faultArm side c).pba.around = s.pba.around := by
  simp [State.faultArm]
@[simp] theorem State.raisePickup_out (s : State) (c : Cause) (l : LaneId) : ((s.raisePickup c).pba.lane l).out = (s.pba.lane l).out := by
  simp [State.raisePickup]
@[simp] theorem State.raisePickup_pressure (s : State) (c : Cause) (l : LaneId) : (s.raisePickup c).pba.pressure l = s.pba.pressure l := by
  simp [State.raisePickup]
@[simp] theorem State.raisePickup_ambient (s : State) (c : Cause) : (s.raisePickup c).pba.ambient = s.pba.ambient := by
  simp [State.raisePickup]
@[simp] theorem State.raisePickup_freshness (s : State) (c : Cause) : (s.raisePickup c).pba.freshness = s.pba.freshness := by
  simp [State.raisePickup]
@[simp] theorem State.raisePickup_allocTimer (s : State) (c : Cause) : (s.raisePickup c).pba.allocTimer = s.pba.allocTimer := by
  simp [State.raisePickup]
@[simp] theorem State.raisePickup_around (s : State) (c : Cause) : (s.raisePickup c).pba.around = s.pba.around := by
  simp [State.raisePickup]
@[simp] theorem State.faultPickup_out (s : State) (c : Cause) (l : LaneId) : ((s.faultPickup c).pba.lane l).out = (s.pba.lane l).out := by
  simp [State.faultPickup]
@[simp] theorem State.faultPickup_pressure (s : State) (c : Cause) (l : LaneId) : (s.faultPickup c).pba.pressure l = s.pba.pressure l := by
  simp [State.faultPickup]
@[simp] theorem State.faultPickup_ambient (s : State) (c : Cause) : (s.faultPickup c).pba.ambient = s.pba.ambient := by
  simp [State.faultPickup]
@[simp] theorem State.faultPickup_freshness (s : State) (c : Cause) : (s.faultPickup c).pba.freshness = s.pba.freshness := by
  simp [State.faultPickup]
@[simp] theorem State.faultPickup_allocTimer (s : State) (c : Cause) : (s.faultPickup c).pba.allocTimer = s.pba.allocTimer := by
  simp [State.faultPickup]
@[simp] theorem State.faultPickup_around (s : State) (c : Cause) : (s.faultPickup c).pba.around = s.pba.around := by
  simp [State.faultPickup]
@[simp] theorem State.armRetarget_out (s : State) (side : Side) (x : Int) (l : LaneId) : (((s.armRetarget side x).1).pba.lane l).out = (s.pba.lane l).out := by
  simp only [State.armRetarget]; (repeat' split) <;> simp
@[simp] theorem State.armRetarget_pressure (s : State) (side : Side) (x : Int) (l : LaneId) : ((s.armRetarget side x).1).pba.pressure l = s.pba.pressure l := by
  simp only [State.armRetarget]; (repeat' split) <;> simp
@[simp] theorem State.armRetarget_ambient (s : State) (side : Side) (x : Int) : ((s.armRetarget side x).1).pba.ambient = s.pba.ambient := by
  simp only [State.armRetarget]; (repeat' split) <;> simp
@[simp] theorem State.armRetarget_freshness (s : State) (side : Side) (x : Int) : ((s.armRetarget side x).1).pba.freshness = s.pba.freshness := by
  simp only [State.armRetarget]; (repeat' split) <;> simp
@[simp] theorem State.armRetarget_allocTimer (s : State) (side : Side) (x : Int) : ((s.armRetarget side x).1).pba.allocTimer = s.pba.allocTimer := by
  simp only [State.armRetarget]; (repeat' split) <;> simp
@[simp] theorem State.armRetarget_around (s : State) (side : Side) (x : Int) : ((s.armRetarget side x).1).pba.around = s.pba.around := by
  simp only [State.armRetarget]; (repeat' split) <;> simp
@[simp] theorem State.armDeploy_out (s : State) (side : Side) (x : Option Int) (l : LaneId) : (((s.armDeploy side x).1).pba.lane l).out = (s.pba.lane l).out := by
  simp only [State.armDeploy]; (repeat' split) <;> simp
@[simp] theorem State.armDeploy_pressure (s : State) (side : Side) (x : Option Int) (l : LaneId) : ((s.armDeploy side x).1).pba.pressure l = s.pba.pressure l := by
  simp only [State.armDeploy]; (repeat' split) <;> simp
@[simp] theorem State.armDeploy_ambient (s : State) (side : Side) (x : Option Int) : ((s.armDeploy side x).1).pba.ambient = s.pba.ambient := by
  simp only [State.armDeploy]; (repeat' split) <;> simp
@[simp] theorem State.armDeploy_freshness (s : State) (side : Side) (x : Option Int) : ((s.armDeploy side x).1).pba.freshness = s.pba.freshness := by
  simp only [State.armDeploy]; (repeat' split) <;> simp
@[simp] theorem State.armDeploy_allocTimer (s : State) (side : Side) (x : Option Int) : ((s.armDeploy side x).1).pba.allocTimer = s.pba.allocTimer := by
  simp only [State.armDeploy]; (repeat' split) <;> simp
@[simp] theorem State.armDeploy_around (s : State) (side : Side) (x : Option Int) : ((s.armDeploy side x).1).pba.around = s.pba.around := by
  simp only [State.armDeploy]; (repeat' split) <;> simp
@[simp] theorem State.armStow_out (s : State) (side : Side) (c : Cause) (l : LaneId) : (((s.armStow side c).1).pba.lane l).out = (s.pba.lane l).out := by
  simp only [State.armStow]; (repeat' split) <;> simp
@[simp] theorem State.armStow_pressure (s : State) (side : Side) (c : Cause) (l : LaneId) : ((s.armStow side c).1).pba.pressure l = s.pba.pressure l := by
  simp only [State.armStow]; (repeat' split) <;> simp
@[simp] theorem State.armStow_ambient (s : State) (side : Side) (c : Cause) : ((s.armStow side c).1).pba.ambient = s.pba.ambient := by
  simp only [State.armStow]; (repeat' split) <;> simp
@[simp] theorem State.armStow_freshness (s : State) (side : Side) (c : Cause) : ((s.armStow side c).1).pba.freshness = s.pba.freshness := by
  simp only [State.armStow]; (repeat' split) <;> simp
@[simp] theorem State.armStow_allocTimer (s : State) (side : Side) (c : Cause) : ((s.armStow side c).1).pba.allocTimer = s.pba.allocTimer := by
  simp only [State.armStow]; (repeat' split) <;> simp
@[simp] theorem State.armStow_around (s : State) (side : Side) (c : Cause) : ((s.armStow side c).1).pba.around = s.pba.around := by
  simp only [State.armStow]; (repeat' split) <;> simp
@[simp] theorem State.armClear_out (s : State) (side : Side) (l : LaneId) : (((s.armClear side).1).pba.lane l).out = (s.pba.lane l).out := by
  simp only [State.armClear]; (repeat' split) <;> simp
@[simp] theorem State.armClear_pressure (s : State) (side : Side) (l : LaneId) : ((s.armClear side).1).pba.pressure l = s.pba.pressure l := by
  simp only [State.armClear]; (repeat' split) <;> simp
@[simp] theorem State.armClear_ambient (s : State) (side : Side) : ((s.armClear side).1).pba.ambient = s.pba.ambient := by
  simp only [State.armClear]; (repeat' split) <;> simp
@[simp] theorem State.armClear_freshness (s : State) (side : Side) : ((s.armClear side).1).pba.freshness = s.pba.freshness := by
  simp only [State.armClear]; (repeat' split) <;> simp
@[simp] theorem State.armClear_allocTimer (s : State) (side : Side) : ((s.armClear side).1).pba.allocTimer = s.pba.allocTimer := by
  simp only [State.armClear]; (repeat' split) <;> simp
@[simp] theorem State.armClear_around (s : State) (side : Side) : ((s.armClear side).1).pba.around = s.pba.around := by
  simp only [State.armClear]; (repeat' split) <;> simp
@[simp] theorem State.pickupWork_out (s : State) (l : LaneId) : ((s.pickupWork.1).pba.lane l).out = (s.pba.lane l).out := by
  simp only [State.pickupWork]; (repeat' split) <;> simp
@[simp] theorem State.pickupWork_pressure (s : State) (l : LaneId) : (s.pickupWork.1).pba.pressure l = s.pba.pressure l := by
  simp only [State.pickupWork]; (repeat' split) <;> simp
@[simp] theorem State.pickupWork_ambient (s : State) : (s.pickupWork.1).pba.ambient = s.pba.ambient := by
  simp only [State.pickupWork]; (repeat' split) <;> simp
@[simp] theorem State.pickupWork_freshness (s : State) : (s.pickupWork.1).pba.freshness = s.pba.freshness := by
  simp only [State.pickupWork]; (repeat' split) <;> simp
@[simp] theorem State.pickupWork_allocTimer (s : State) : (s.pickupWork.1).pba.allocTimer = s.pba.allocTimer := by
  simp only [State.pickupWork]; (repeat' split) <;> simp
@[simp] theorem State.pickupWork_around (s : State) : (s.pickupWork.1).pba.around = s.pba.around := by
  simp only [State.pickupWork]; (repeat' split) <;> simp
@[simp] theorem State.pickupUp_out (s : State) (l : LaneId) : ((s.pickupUp.1).pba.lane l).out = (s.pba.lane l).out := by
  simp only [State.pickupUp]; (repeat' split) <;> simp
@[simp] theorem State.pickupUp_pressure (s : State) (l : LaneId) : (s.pickupUp.1).pba.pressure l = s.pba.pressure l := by
  simp only [State.pickupUp]; (repeat' split) <;> simp
@[simp] theorem State.pickupUp_ambient (s : State) : (s.pickupUp.1).pba.ambient = s.pba.ambient := by
  simp only [State.pickupUp]; (repeat' split) <;> simp
@[simp] theorem State.pickupUp_freshness (s : State) : (s.pickupUp.1).pba.freshness = s.pba.freshness := by
  simp only [State.pickupUp]; (repeat' split) <;> simp
@[simp] theorem State.pickupUp_allocTimer (s : State) : (s.pickupUp.1).pba.allocTimer = s.pba.allocTimer := by
  simp only [State.pickupUp]; (repeat' split) <;> simp
@[simp] theorem State.pickupUp_around (s : State) : (s.pickupUp.1).pba.around = s.pba.around := by
  simp only [State.pickupUp]; (repeat' split) <;> simp
@[simp] theorem State.pickupClaimLoss_out (s : State) (l : LaneId) : ((s.pickupClaimLoss).pba.lane l).out = (s.pba.lane l).out := by
  simp only [State.pickupClaimLoss]; (repeat' split) <;> simp
@[simp] theorem State.pickupClaimLoss_pressure (s : State) (l : LaneId) : (s.pickupClaimLoss).pba.pressure l = s.pba.pressure l := by
  simp only [State.pickupClaimLoss]; (repeat' split) <;> simp
@[simp] theorem State.pickupClaimLoss_ambient (s : State) : (s.pickupClaimLoss).pba.ambient = s.pba.ambient := by
  simp only [State.pickupClaimLoss]; (repeat' split) <;> simp
@[simp] theorem State.pickupClaimLoss_freshness (s : State) : (s.pickupClaimLoss).pba.freshness = s.pba.freshness := by
  simp only [State.pickupClaimLoss]; (repeat' split) <;> simp
@[simp] theorem State.pickupClaimLoss_allocTimer (s : State) : (s.pickupClaimLoss).pba.allocTimer = s.pba.allocTimer := by
  simp only [State.pickupClaimLoss]; (repeat' split) <;> simp
@[simp] theorem State.pickupClaimLoss_around (s : State) : (s.pickupClaimLoss).pba.around = s.pba.around := by
  simp only [State.pickupClaimLoss]; (repeat' split) <;> simp
@[simp] theorem State.indexEvent_out (s : State) (side : Side) (l : LaneId) : ((s.indexEvent side).pba.lane l).out = (s.pba.lane l).out := by
  simp only [State.indexEvent]; (repeat' split) <;> simp
@[simp] theorem State.indexEvent_pressure (s : State) (side : Side) (l : LaneId) : (s.indexEvent side).pba.pressure l = s.pba.pressure l := by
  simp only [State.indexEvent]; (repeat' split) <;> simp
@[simp] theorem State.indexEvent_ambient (s : State) (side : Side) : (s.indexEvent side).pba.ambient = s.pba.ambient := by
  simp only [State.indexEvent]; (repeat' split) <;> simp
@[simp] theorem State.indexEvent_freshness (s : State) (side : Side) : (s.indexEvent side).pba.freshness = s.pba.freshness := by
  simp only [State.indexEvent]; (repeat' split) <;> simp
@[simp] theorem State.indexEvent_allocTimer (s : State) (side : Side) : (s.indexEvent side).pba.allocTimer = s.pba.allocTimer := by
  simp only [State.indexEvent]; (repeat' split) <;> simp
@[simp] theorem State.indexEvent_around (s : State) (side : Side) : (s.indexEvent side).pba.around = s.pba.around := by
  simp only [State.indexEvent]; (repeat' split) <;> simp
@[simp] theorem State.armTimeout_out (s : State) (side : Side) (l : LaneId) : ((s.armTimeout side).pba.lane l).out = (s.pba.lane l).out := by
  simp only [State.armTimeout]; (repeat' split) <;> simp
@[simp] theorem State.armTimeout_pressure (s : State) (side : Side) (l : LaneId) : (s.armTimeout side).pba.pressure l = s.pba.pressure l := by
  simp only [State.armTimeout]; (repeat' split) <;> simp
@[simp] theorem State.armTimeout_ambient (s : State) (side : Side) : (s.armTimeout side).pba.ambient = s.pba.ambient := by
  simp only [State.armTimeout]; (repeat' split) <;> simp
@[simp] theorem State.armTimeout_freshness (s : State) (side : Side) : (s.armTimeout side).pba.freshness = s.pba.freshness := by
  simp only [State.armTimeout]; (repeat' split) <;> simp
@[simp] theorem State.armTimeout_allocTimer (s : State) (side : Side) : (s.armTimeout side).pba.allocTimer = s.pba.allocTimer := by
  simp only [State.armTimeout]; (repeat' split) <;> simp
@[simp] theorem State.armTimeout_around (s : State) (side : Side) : (s.armTimeout side).pba.around = s.pba.around := by
  simp only [State.armTimeout]; (repeat' split) <;> simp
@[simp] theorem State.pickupTimeout_out (s : State) (l : LaneId) : ((s.pickupTimeout).pba.lane l).out = (s.pba.lane l).out := by
  simp only [State.pickupTimeout]; (repeat' split) <;> simp
@[simp] theorem State.pickupTimeout_pressure (s : State) (l : LaneId) : (s.pickupTimeout).pba.pressure l = s.pba.pressure l := by
  simp only [State.pickupTimeout]; (repeat' split) <;> simp
@[simp] theorem State.pickupTimeout_ambient (s : State) : (s.pickupTimeout).pba.ambient = s.pba.ambient := by
  simp only [State.pickupTimeout]; (repeat' split) <;> simp
@[simp] theorem State.pickupTimeout_freshness (s : State) : (s.pickupTimeout).pba.freshness = s.pba.freshness := by
  simp only [State.pickupTimeout]; (repeat' split) <;> simp
@[simp] theorem State.pickupTimeout_allocTimer (s : State) : (s.pickupTimeout).pba.allocTimer = s.pba.allocTimer := by
  simp only [State.pickupTimeout]; (repeat' split) <;> simp
@[simp] theorem State.pickupTimeout_around (s : State) : (s.pickupTimeout).pba.around = s.pba.around := by
  simp only [State.pickupTimeout]; (repeat' split) <;> simp
@[simp] theorem State.armSwitch_out (s : State) (side : Side) (sw : SwitchEnd) (b : Bool) (l : LaneId) : ((s.armSwitch side sw b).pba.lane l).out = (s.pba.lane l).out := by
  simp only [State.armSwitch]; (repeat' split) <;> simp
@[simp] theorem State.armSwitch_pressure (s : State) (side : Side) (sw : SwitchEnd) (b : Bool) (l : LaneId) : (s.armSwitch side sw b).pba.pressure l = s.pba.pressure l := by
  simp only [State.armSwitch]; (repeat' split) <;> simp
@[simp] theorem State.armSwitch_ambient (s : State) (side : Side) (sw : SwitchEnd) (b : Bool) : (s.armSwitch side sw b).pba.ambient = s.pba.ambient := by
  simp only [State.armSwitch]; (repeat' split) <;> simp
@[simp] theorem State.armSwitch_freshness (s : State) (side : Side) (sw : SwitchEnd) (b : Bool) : (s.armSwitch side sw b).pba.freshness = s.pba.freshness := by
  simp only [State.armSwitch]; (repeat' split) <;> simp
@[simp] theorem State.armSwitch_allocTimer (s : State) (side : Side) (sw : SwitchEnd) (b : Bool) : (s.armSwitch side sw b).pba.allocTimer = s.pba.allocTimer := by
  simp only [State.armSwitch]; (repeat' split) <;> simp
@[simp] theorem State.armSwitch_around (s : State) (side : Side) (sw : SwitchEnd) (b : Bool) : (s.armSwitch side sw b).pba.around = s.pba.around := by
  simp only [State.armSwitch]; (repeat' split) <;> simp
@[simp] theorem State.pickupSwitch_out (s : State) (sw : SwitchEnd) (b : Bool) (l : LaneId) : ((s.pickupSwitch sw b).pba.lane l).out = (s.pba.lane l).out := by
  simp only [State.pickupSwitch]; (repeat' split) <;> simp
@[simp] theorem State.pickupSwitch_pressure (s : State) (sw : SwitchEnd) (b : Bool) (l : LaneId) : (s.pickupSwitch sw b).pba.pressure l = s.pba.pressure l := by
  simp only [State.pickupSwitch]; (repeat' split) <;> simp
@[simp] theorem State.pickupSwitch_ambient (s : State) (sw : SwitchEnd) (b : Bool) : (s.pickupSwitch sw b).pba.ambient = s.pba.ambient := by
  simp only [State.pickupSwitch]; (repeat' split) <;> simp
@[simp] theorem State.pickupSwitch_freshness (s : State) (sw : SwitchEnd) (b : Bool) : (s.pickupSwitch sw b).pba.freshness = s.pba.freshness := by
  simp only [State.pickupSwitch]; (repeat' split) <;> simp
@[simp] theorem State.pickupSwitch_allocTimer (s : State) (sw : SwitchEnd) (b : Bool) : (s.pickupSwitch sw b).pba.allocTimer = s.pba.allocTimer := by
  simp only [State.pickupSwitch]; (repeat' split) <;> simp
@[simp] theorem State.pickupSwitch_around (s : State) (sw : SwitchEnd) (b : Bool) : (s.pickupSwitch sw b).pba.around = s.pba.around := by
  simp only [State.pickupSwitch]; (repeat' split) <;> simp
@[simp] theorem State.stopArm_out (s : State) (side : Side) (l : LaneId) : ((s.stopArm side).pba.lane l).out = (s.pba.lane l).out := by
  simp only [State.stopArm]; (repeat' split) <;> simp
@[simp] theorem State.stopArm_pressure (s : State) (side : Side) (l : LaneId) : (s.stopArm side).pba.pressure l = s.pba.pressure l := by
  simp only [State.stopArm]; (repeat' split) <;> simp
@[simp] theorem State.stopArm_ambient (s : State) (side : Side) : (s.stopArm side).pba.ambient = s.pba.ambient := by
  simp only [State.stopArm]; (repeat' split) <;> simp
@[simp] theorem State.stopArm_freshness (s : State) (side : Side) : (s.stopArm side).pba.freshness = s.pba.freshness := by
  simp only [State.stopArm]; (repeat' split) <;> simp
@[simp] theorem State.stopArm_allocTimer (s : State) (side : Side) : (s.stopArm side).pba.allocTimer = s.pba.allocTimer := by
  simp only [State.stopArm]; (repeat' split) <;> simp
@[simp] theorem State.stopArm_around (s : State) (side : Side) : (s.stopArm side).pba.around = s.pba.around := by
  simp only [State.stopArm]; (repeat' split) <;> simp
@[simp] theorem State.stopPickup_out (s : State) (l : LaneId) : ((s.stopPickup).pba.lane l).out = (s.pba.lane l).out := by
  simp only [State.stopPickup]; (repeat' split) <;> simp
@[simp] theorem State.stopPickup_pressure (s : State) (l : LaneId) : (s.stopPickup).pba.pressure l = s.pba.pressure l := by
  simp only [State.stopPickup]; (repeat' split) <;> simp
@[simp] theorem State.stopPickup_ambient (s : State) : (s.stopPickup).pba.ambient = s.pba.ambient := by
  simp only [State.stopPickup]; (repeat' split) <;> simp
@[simp] theorem State.stopPickup_freshness (s : State) : (s.stopPickup).pba.freshness = s.pba.freshness := by
  simp only [State.stopPickup]; (repeat' split) <;> simp
@[simp] theorem State.stopPickup_allocTimer (s : State) : (s.stopPickup).pba.allocTimer = s.pba.allocTimer := by
  simp only [State.stopPickup]; (repeat' split) <;> simp
@[simp] theorem State.stopPickup_around (s : State) : (s.stopPickup).pba.around = s.pba.around := by
  simp only [State.stopPickup]; (repeat' split) <;> simp
@[simp] theorem State.starveArm_out (s : State) (side : Side) (l : LaneId) : ((s.starveArm side).pba.lane l).out = (s.pba.lane l).out := by
  simp only [State.starveArm]; (repeat' split) <;> simp
@[simp] theorem State.starveArm_pressure (s : State) (side : Side) (l : LaneId) : (s.starveArm side).pba.pressure l = s.pba.pressure l := by
  simp only [State.starveArm]; (repeat' split) <;> simp
@[simp] theorem State.starveArm_ambient (s : State) (side : Side) : (s.starveArm side).pba.ambient = s.pba.ambient := by
  simp only [State.starveArm]; (repeat' split) <;> simp
@[simp] theorem State.starveArm_freshness (s : State) (side : Side) : (s.starveArm side).pba.freshness = s.pba.freshness := by
  simp only [State.starveArm]; (repeat' split) <;> simp
@[simp] theorem State.starveArm_allocTimer (s : State) (side : Side) : (s.starveArm side).pba.allocTimer = s.pba.allocTimer := by
  simp only [State.starveArm]; (repeat' split) <;> simp
@[simp] theorem State.starveArm_around (s : State) (side : Side) : (s.starveArm side).pba.around = s.pba.around := by
  simp only [State.starveArm]; (repeat' split) <;> simp
@[simp] theorem State.starvePickup_out (s : State) (l : LaneId) : ((s.starvePickup).pba.lane l).out = (s.pba.lane l).out := by
  simp only [State.starvePickup]; (repeat' split) <;> simp
@[simp] theorem State.starvePickup_pressure (s : State) (l : LaneId) : (s.starvePickup).pba.pressure l = s.pba.pressure l := by
  simp only [State.starvePickup]; (repeat' split) <;> simp
@[simp] theorem State.starvePickup_ambient (s : State) : (s.starvePickup).pba.ambient = s.pba.ambient := by
  simp only [State.starvePickup]; (repeat' split) <;> simp
@[simp] theorem State.starvePickup_freshness (s : State) : (s.starvePickup).pba.freshness = s.pba.freshness := by
  simp only [State.starvePickup]; (repeat' split) <;> simp
@[simp] theorem State.starvePickup_allocTimer (s : State) : (s.starvePickup).pba.allocTimer = s.pba.allocTimer := by
  simp only [State.starvePickup]; (repeat' split) <;> simp
@[simp] theorem State.starvePickup_around (s : State) : (s.starvePickup).pba.around = s.pba.around := by
  simp only [State.starvePickup]; (repeat' split) <;> simp
@[simp] theorem State.stallArm_out (s : State) (side : Side) (l : LaneId) : ((s.stallArm side).pba.lane l).out = (s.pba.lane l).out := by
  simp only [State.stallArm]; (repeat' split) <;> simp
@[simp] theorem State.stallArm_pressure (s : State) (side : Side) (l : LaneId) : (s.stallArm side).pba.pressure l = s.pba.pressure l := by
  simp only [State.stallArm]; (repeat' split) <;> simp
@[simp] theorem State.stallArm_ambient (s : State) (side : Side) : (s.stallArm side).pba.ambient = s.pba.ambient := by
  simp only [State.stallArm]; (repeat' split) <;> simp
@[simp] theorem State.stallArm_freshness (s : State) (side : Side) : (s.stallArm side).pba.freshness = s.pba.freshness := by
  simp only [State.stallArm]; (repeat' split) <;> simp
@[simp] theorem State.stallArm_allocTimer (s : State) (side : Side) : (s.stallArm side).pba.allocTimer = s.pba.allocTimer := by
  simp only [State.stallArm]; (repeat' split) <;> simp
@[simp] theorem State.stallArm_around (s : State) (side : Side) : (s.stallArm side).pba.around = s.pba.around := by
  simp only [State.stallArm]; (repeat' split) <;> simp
@[simp] theorem State.stallPickup_out (s : State) (l : LaneId) : ((s.stallPickup).pba.lane l).out = (s.pba.lane l).out := by
  simp only [State.stallPickup]; (repeat' split) <;> simp
@[simp] theorem State.stallPickup_pressure (s : State) (l : LaneId) : (s.stallPickup).pba.pressure l = s.pba.pressure l := by
  simp only [State.stallPickup]; (repeat' split) <;> simp
@[simp] theorem State.stallPickup_ambient (s : State) : (s.stallPickup).pba.ambient = s.pba.ambient := by
  simp only [State.stallPickup]; (repeat' split) <;> simp
@[simp] theorem State.stallPickup_freshness (s : State) : (s.stallPickup).pba.freshness = s.pba.freshness := by
  simp only [State.stallPickup]; (repeat' split) <;> simp
@[simp] theorem State.stallPickup_allocTimer (s : State) : (s.stallPickup).pba.allocTimer = s.pba.allocTimer := by
  simp only [State.stallPickup]; (repeat' split) <;> simp
@[simp] theorem State.stallPickup_around (s : State) : (s.stallPickup).pba.around = s.pba.around := by
  simp only [State.stallPickup]; (repeat' split) <;> simp
@[simp] theorem State.progressArm_out (s : State) (side : Side) (l : LaneId) : ((s.progressArm side).pba.lane l).out = (s.pba.lane l).out := by
  simp only [State.progressArm]; (repeat' split) <;> simp
@[simp] theorem State.progressArm_pressure (s : State) (side : Side) (l : LaneId) : (s.progressArm side).pba.pressure l = s.pba.pressure l := by
  simp only [State.progressArm]; (repeat' split) <;> simp
@[simp] theorem State.progressArm_ambient (s : State) (side : Side) : (s.progressArm side).pba.ambient = s.pba.ambient := by
  simp only [State.progressArm]; (repeat' split) <;> simp
@[simp] theorem State.progressArm_freshness (s : State) (side : Side) : (s.progressArm side).pba.freshness = s.pba.freshness := by
  simp only [State.progressArm]; (repeat' split) <;> simp
@[simp] theorem State.progressArm_allocTimer (s : State) (side : Side) : (s.progressArm side).pba.allocTimer = s.pba.allocTimer := by
  simp only [State.progressArm]; (repeat' split) <;> simp
@[simp] theorem State.progressArm_around (s : State) (side : Side) : (s.progressArm side).pba.around = s.pba.around := by
  simp only [State.progressArm]; (repeat' split) <;> simp
@[simp] theorem State.armSafety_out (s : State) (l : LaneId) : ((s.armSafety).pba.lane l).out = (s.pba.lane l).out := by
  simp [State.armSafety]
@[simp] theorem State.armSafety_pressure (s : State) (l : LaneId) : (s.armSafety).pba.pressure l = s.pba.pressure l := by
  simp [State.armSafety]
@[simp] theorem State.armSafety_ambient (s : State) : (s.armSafety).pba.ambient = s.pba.ambient := by
  simp [State.armSafety]
@[simp] theorem State.armSafety_freshness (s : State) : (s.armSafety).pba.freshness = s.pba.freshness := by
  simp [State.armSafety]
@[simp] theorem State.armSafety_allocTimer (s : State) : (s.armSafety).pba.allocTimer = s.pba.allocTimer := by
  simp [State.armSafety]
@[simp] theorem State.armSafety_around (s : State) : (s.armSafety).pba.around = s.pba.around := by
  simp [State.armSafety]
@[simp] theorem State.armMotion_out (s : State) (l : LaneId) : ((s.armMotion).pba.lane l).out = (s.pba.lane l).out := by
  simp [State.armMotion]
@[simp] theorem State.armMotion_pressure (s : State) (l : LaneId) : (s.armMotion).pba.pressure l = s.pba.pressure l := by
  simp [State.armMotion]
@[simp] theorem State.armMotion_ambient (s : State) : (s.armMotion).pba.ambient = s.pba.ambient := by
  simp [State.armMotion]
@[simp] theorem State.armMotion_freshness (s : State) : (s.armMotion).pba.freshness = s.pba.freshness := by
  simp [State.armMotion]
@[simp] theorem State.armMotion_allocTimer (s : State) : (s.armMotion).pba.allocTimer = s.pba.allocTimer := by
  simp [State.armMotion]
@[simp] theorem State.armMotion_around (s : State) : (s.armMotion).pba.around = s.pba.around := by
  simp [State.armMotion]
@[simp] theorem State.armDrives_out (s : State) (l : LaneId) : ((s.armDrives).pba.lane l).out = (s.pba.lane l).out := by
  simp [State.armDrives]
@[simp] theorem State.armDrives_pressure (s : State) (l : LaneId) : (s.armDrives).pba.pressure l = s.pba.pressure l := by
  simp [State.armDrives]
@[simp] theorem State.armDrives_ambient (s : State) : (s.armDrives).pba.ambient = s.pba.ambient := by
  simp [State.armDrives]
@[simp] theorem State.armDrives_freshness (s : State) : (s.armDrives).pba.freshness = s.pba.freshness := by
  simp [State.armDrives]
@[simp] theorem State.armDrives_allocTimer (s : State) : (s.armDrives).pba.allocTimer = s.pba.allocTimer := by
  simp [State.armDrives]
@[simp] theorem State.armDrives_around (s : State) : (s.armDrives).pba.around = s.pba.around := by
  simp [State.armDrives]
@[simp] theorem State.armPublish_out (s : State) (l : LaneId) : ((s.armPublish).pba.lane l).out = (s.pba.lane l).out := by
  simp [State.armPublish]
@[simp] theorem State.armPublish_pressure (s : State) (l : LaneId) : (s.armPublish).pba.pressure l = s.pba.pressure l := by
  simp [State.armPublish]
@[simp] theorem State.armPublish_ambient (s : State) : (s.armPublish).pba.ambient = s.pba.ambient := by
  simp [State.armPublish]
@[simp] theorem State.armPublish_freshness (s : State) : (s.armPublish).pba.freshness = s.pba.freshness := by
  simp [State.armPublish]
@[simp] theorem State.armPublish_allocTimer (s : State) : (s.armPublish).pba.allocTimer = s.pba.allocTimer := by
  simp [State.armPublish]
@[simp] theorem State.armPublish_around (s : State) : (s.armPublish).pba.around = s.pba.around := by
  simp [State.armPublish]
@[simp] theorem State.armUpdate_out (s : State) (l : LaneId) : ((s.armUpdate).pba.lane l).out = (s.pba.lane l).out := by
  simp [State.armUpdate]
@[simp] theorem State.armUpdate_pressure (s : State) (l : LaneId) : (s.armUpdate).pba.pressure l = s.pba.pressure l := by
  simp [State.armUpdate]
@[simp] theorem State.armUpdate_ambient (s : State) : (s.armUpdate).pba.ambient = s.pba.ambient := by
  simp [State.armUpdate]
@[simp] theorem State.armUpdate_freshness (s : State) : (s.armUpdate).pba.freshness = s.pba.freshness := by
  simp [State.armUpdate]
@[simp] theorem State.armUpdate_allocTimer (s : State) : (s.armUpdate).pba.allocTimer = s.pba.allocTimer := by
  simp [State.armUpdate]
@[simp] theorem State.armUpdate_around (s : State) : (s.armUpdate).pba.around = s.pba.around := by
  simp [State.armUpdate]
@[simp] theorem State.applyArm_out (s : State) (side : Side) (m : ArmSetting) (x : Option Int) (l : LaneId) : ((s.applyArm side m x).pba.lane l).out = (s.pba.lane l).out := by
  simp only [State.applyArm]; (repeat' split) <;> simp
@[simp] theorem State.applyArm_pressure (s : State) (side : Side) (m : ArmSetting) (x : Option Int) (l : LaneId) : (s.applyArm side m x).pba.pressure l = s.pba.pressure l := by
  simp only [State.applyArm]; (repeat' split) <;> simp
@[simp] theorem State.applyArm_ambient (s : State) (side : Side) (m : ArmSetting) (x : Option Int) : (s.applyArm side m x).pba.ambient = s.pba.ambient := by
  simp only [State.applyArm]; (repeat' split) <;> simp
@[simp] theorem State.applyArm_freshness (s : State) (side : Side) (m : ArmSetting) (x : Option Int) : (s.applyArm side m x).pba.freshness = s.pba.freshness := by
  simp only [State.applyArm]; (repeat' split) <;> simp
@[simp] theorem State.applyArm_allocTimer (s : State) (side : Side) (m : ArmSetting) (x : Option Int) : (s.applyArm side m x).pba.allocTimer = s.pba.allocTimer := by
  simp only [State.applyArm]; (repeat' split) <;> simp
@[simp] theorem State.applyArm_around (s : State) (side : Side) (m : ArmSetting) (x : Option Int) : (s.applyArm side m x).pba.around = s.pba.around := by
  simp only [State.applyArm]; (repeat' split) <;> simp
@[simp] theorem State.applyPickup_out (s : State) (m : PickupSetting) (l : LaneId) : ((s.applyPickup m).pba.lane l).out = (s.pba.lane l).out := by
  simp only [State.applyPickup]; (repeat' split) <;> simp
@[simp] theorem State.applyPickup_pressure (s : State) (m : PickupSetting) (l : LaneId) : (s.applyPickup m).pba.pressure l = s.pba.pressure l := by
  simp only [State.applyPickup]; (repeat' split) <;> simp
@[simp] theorem State.applyPickup_ambient (s : State) (m : PickupSetting) : (s.applyPickup m).pba.ambient = s.pba.ambient := by
  simp only [State.applyPickup]; (repeat' split) <;> simp
@[simp] theorem State.applyPickup_freshness (s : State) (m : PickupSetting) : (s.applyPickup m).pba.freshness = s.pba.freshness := by
  simp only [State.applyPickup]; (repeat' split) <;> simp
@[simp] theorem State.applyPickup_allocTimer (s : State) (m : PickupSetting) : (s.applyPickup m).pba.allocTimer = s.pba.allocTimer := by
  simp only [State.applyPickup]; (repeat' split) <;> simp
@[simp] theorem State.applyPickup_around (s : State) (m : PickupSetting) : (s.applyPickup m).pba.around = s.pba.around := by
  simp only [State.applyPickup]; (repeat' split) <;> simp
@[simp] theorem State.applySetting_out (s : State) (r : Resource) (st : Settings) (l : LaneId) : ((s.applySetting r st).pba.lane l).out = (s.pba.lane l).out := by
  simp only [State.applySetting]; (repeat' split) <;> simp
@[simp] theorem State.applySetting_pressure (s : State) (r : Resource) (st : Settings) (l : LaneId) : (s.applySetting r st).pba.pressure l = s.pba.pressure l := by
  simp only [State.applySetting]; (repeat' split) <;> simp
@[simp] theorem State.applySetting_ambient (s : State) (r : Resource) (st : Settings) : (s.applySetting r st).pba.ambient = s.pba.ambient := by
  simp only [State.applySetting]; (repeat' split) <;> simp
@[simp] theorem State.applySetting_freshness (s : State) (r : Resource) (st : Settings) : (s.applySetting r st).pba.freshness = s.pba.freshness := by
  simp only [State.applySetting]; (repeat' split) <;> simp
@[simp] theorem State.applySetting_allocTimer (s : State) (r : Resource) (st : Settings) : (s.applySetting r st).pba.allocTimer = s.pba.allocTimer := by
  simp only [State.applySetting]; (repeat' split) <;> simp
@[simp] theorem State.applySetting_around (s : State) (r : Resource) (st : Settings) : (s.applySetting r st).pba.around = s.pba.around := by
  simp only [State.applySetting]; (repeat' split) <;> simp
@[simp] theorem State.applyHeld_out (s : State) (st : Settings) (r : Resource) (l : LaneId) : ((s.applyHeld st r).pba.lane l).out = (s.pba.lane l).out := by
  simp only [State.applyHeld]; (repeat' split) <;> simp
@[simp] theorem State.applyHeld_pressure (s : State) (st : Settings) (r : Resource) (l : LaneId) : (s.applyHeld st r).pba.pressure l = s.pba.pressure l := by
  simp only [State.applyHeld]; (repeat' split) <;> simp
@[simp] theorem State.applyHeld_ambient (s : State) (st : Settings) (r : Resource) : (s.applyHeld st r).pba.ambient = s.pba.ambient := by
  simp only [State.applyHeld]; (repeat' split) <;> simp
@[simp] theorem State.applyHeld_freshness (s : State) (st : Settings) (r : Resource) : (s.applyHeld st r).pba.freshness = s.pba.freshness := by
  simp only [State.applyHeld]; (repeat' split) <;> simp
@[simp] theorem State.applyHeld_allocTimer (s : State) (st : Settings) (r : Resource) : (s.applyHeld st r).pba.allocTimer = s.pba.allocTimer := by
  simp only [State.applyHeld]; (repeat' split) <;> simp
@[simp] theorem State.applyHeld_around (s : State) (st : Settings) (r : Resource) : (s.applyHeld st r).pba.around = s.pba.around := by
  simp only [State.applyHeld]; (repeat' split) <;> simp
@[simp] theorem State.stopResource_out (s : State) (r : Resource) (l : LaneId) : ((s.stopResource r).pba.lane l).out = (s.pba.lane l).out := by
  simp only [State.stopResource]; (repeat' split) <;> simp
@[simp] theorem State.stopResource_pressure (s : State) (r : Resource) (l : LaneId) : (s.stopResource r).pba.pressure l = s.pba.pressure l := by
  simp only [State.stopResource]; (repeat' split) <;> simp
@[simp] theorem State.stopResource_ambient (s : State) (r : Resource) : (s.stopResource r).pba.ambient = s.pba.ambient := by
  simp only [State.stopResource]; (repeat' split) <;> simp
@[simp] theorem State.stopResource_freshness (s : State) (r : Resource) : (s.stopResource r).pba.freshness = s.pba.freshness := by
  simp only [State.stopResource]; (repeat' split) <;> simp
@[simp] theorem State.stopResource_allocTimer (s : State) (r : Resource) : (s.stopResource r).pba.allocTimer = s.pba.allocTimer := by
  simp only [State.stopResource]; (repeat' split) <;> simp
@[simp] theorem State.stopResource_around (s : State) (r : Resource) : (s.stopResource r).pba.around = s.pba.around := by
  simp only [State.stopResource]; (repeat' split) <;> simp
@[simp] theorem State.stopHeld_out (s : State) (r : Resource) (l : LaneId) : ((s.stopHeld r).pba.lane l).out = (s.pba.lane l).out := by
  simp only [State.stopHeld]; (repeat' split) <;> simp
@[simp] theorem State.stopHeld_pressure (s : State) (r : Resource) (l : LaneId) : (s.stopHeld r).pba.pressure l = s.pba.pressure l := by
  simp only [State.stopHeld]; (repeat' split) <;> simp
@[simp] theorem State.stopHeld_ambient (s : State) (r : Resource) : (s.stopHeld r).pba.ambient = s.pba.ambient := by
  simp only [State.stopHeld]; (repeat' split) <;> simp
@[simp] theorem State.stopHeld_freshness (s : State) (r : Resource) : (s.stopHeld r).pba.freshness = s.pba.freshness := by
  simp only [State.stopHeld]; (repeat' split) <;> simp
@[simp] theorem State.stopHeld_allocTimer (s : State) (r : Resource) : (s.stopHeld r).pba.allocTimer = s.pba.allocTimer := by
  simp only [State.stopHeld]; (repeat' split) <;> simp
@[simp] theorem State.stopHeld_around (s : State) (r : Resource) : (s.stopHeld r).pba.around = s.pba.around := by
  simp only [State.stopHeld]; (repeat' split) <;> simp
@[simp] theorem State.stopAllHeld_out (s : State) (l : LaneId) : ((s.stopAllHeld).pba.lane l).out = (s.pba.lane l).out := by
  simp [State.stopAllHeld]
@[simp] theorem State.stopAllHeld_pressure (s : State) (l : LaneId) : (s.stopAllHeld).pba.pressure l = s.pba.pressure l := by
  simp [State.stopAllHeld]
@[simp] theorem State.stopAllHeld_ambient (s : State) : (s.stopAllHeld).pba.ambient = s.pba.ambient := by
  simp [State.stopAllHeld]
@[simp] theorem State.stopAllHeld_freshness (s : State) : (s.stopAllHeld).pba.freshness = s.pba.freshness := by
  simp [State.stopAllHeld]
@[simp] theorem State.stopAllHeld_allocTimer (s : State) : (s.stopAllHeld).pba.allocTimer = s.pba.allocTimer := by
  simp [State.stopAllHeld]
@[simp] theorem State.stopAllHeld_around (s : State) : (s.stopAllHeld).pba.around = s.pba.around := by
  simp [State.stopAllHeld]
@[simp] theorem State.applyAllHeld_out (s : State) (st : Settings) (l : LaneId) : ((s.applyAllHeld st).pba.lane l).out = (s.pba.lane l).out := by
  simp [State.applyAllHeld]
@[simp] theorem State.applyAllHeld_pressure (s : State) (st : Settings) (l : LaneId) : (s.applyAllHeld st).pba.pressure l = s.pba.pressure l := by
  simp [State.applyAllHeld]
@[simp] theorem State.applyAllHeld_ambient (s : State) (st : Settings) : (s.applyAllHeld st).pba.ambient = s.pba.ambient := by
  simp [State.applyAllHeld]
@[simp] theorem State.applyAllHeld_freshness (s : State) (st : Settings) : (s.applyAllHeld st).pba.freshness = s.pba.freshness := by
  simp [State.applyAllHeld]
@[simp] theorem State.applyAllHeld_allocTimer (s : State) (st : Settings) : (s.applyAllHeld st).pba.allocTimer = s.pba.allocTimer := by
  simp [State.applyAllHeld]
@[simp] theorem State.applyAllHeld_around (s : State) (st : Settings) : (s.applyAllHeld st).pba.around = s.pba.around := by
  simp [State.applyAllHeld]
@[simp] theorem State.segmentStart_out (s : State) (l : LaneId) : ((s.segmentStart).pba.lane l).out = (s.pba.lane l).out := by
  simp [State.segmentStart]
@[simp] theorem State.segmentStart_pressure (s : State) (l : LaneId) : (s.segmentStart).pba.pressure l = s.pba.pressure l := by
  simp [State.segmentStart]
@[simp] theorem State.segmentStart_ambient (s : State) : (s.segmentStart).pba.ambient = s.pba.ambient := by
  simp [State.segmentStart]
@[simp] theorem State.segmentStart_freshness (s : State) : (s.segmentStart).pba.freshness = s.pba.freshness := by
  simp [State.segmentStart]
@[simp] theorem State.segmentStart_allocTimer (s : State) : (s.segmentStart).pba.allocTimer = s.pba.allocTimer := by
  simp [State.segmentStart]
@[simp] theorem State.segmentStart_around (s : State) : (s.segmentStart).pba.around = s.pba.around := by
  simp [State.segmentStart]
@[simp] theorem State.fetch_out (s : State) (l : LaneId) : ((s.fetch).pba.lane l).out = (s.pba.lane l).out := by
  simp only [State.fetch]; (repeat' split) <;> simp
@[simp] theorem State.fetch_pressure (s : State) (l : LaneId) : (s.fetch).pba.pressure l = s.pba.pressure l := by
  simp only [State.fetch]; (repeat' split) <;> simp
@[simp] theorem State.fetch_ambient (s : State) : (s.fetch).pba.ambient = s.pba.ambient := by
  simp only [State.fetch]; (repeat' split) <;> simp
@[simp] theorem State.fetch_freshness (s : State) : (s.fetch).pba.freshness = s.pba.freshness := by
  simp only [State.fetch]; (repeat' split) <;> simp
@[simp] theorem State.fetch_allocTimer (s : State) : (s.fetch).pba.allocTimer = s.pba.allocTimer := by
  simp only [State.fetch]; (repeat' split) <;> simp
@[simp] theorem State.fetch_around (s : State) : (s.fetch).pba.around = s.pba.around := by
  simp only [State.fetch]; (repeat' split) <;> simp
@[simp] theorem State.beginStopping_out (s : State) (l : LaneId) : ((s.beginStopping).pba.lane l).out = (s.pba.lane l).out := by
  simp [State.beginStopping]
@[simp] theorem State.beginStopping_pressure (s : State) (l : LaneId) : (s.beginStopping).pba.pressure l = s.pba.pressure l := by
  simp [State.beginStopping]
@[simp] theorem State.beginStopping_ambient (s : State) : (s.beginStopping).pba.ambient = s.pba.ambient := by
  simp [State.beginStopping]
@[simp] theorem State.beginStopping_freshness (s : State) : (s.beginStopping).pba.freshness = s.pba.freshness := by
  simp [State.beginStopping]
@[simp] theorem State.beginStopping_allocTimer (s : State) : (s.beginStopping).pba.allocTimer = s.pba.allocTimer := by
  simp [State.beginStopping]
@[simp] theorem State.beginStopping_around (s : State) : (s.beginStopping).pba.around = s.pba.around := by
  simp [State.beginStopping]
@[simp] theorem State.segmentEnd_out (s : State) (l : LaneId) : ((s.segmentEnd).pba.lane l).out = (s.pba.lane l).out := by
  simp only [State.segmentEnd]; (repeat' split) <;> simp
@[simp] theorem State.segmentEnd_pressure (s : State) (l : LaneId) : (s.segmentEnd).pba.pressure l = s.pba.pressure l := by
  simp only [State.segmentEnd]; (repeat' split) <;> simp
@[simp] theorem State.segmentEnd_ambient (s : State) : (s.segmentEnd).pba.ambient = s.pba.ambient := by
  simp only [State.segmentEnd]; (repeat' split) <;> simp
@[simp] theorem State.segmentEnd_freshness (s : State) : (s.segmentEnd).pba.freshness = s.pba.freshness := by
  simp only [State.segmentEnd]; (repeat' split) <;> simp
@[simp] theorem State.segmentEnd_allocTimer (s : State) : (s.segmentEnd).pba.allocTimer = s.pba.allocTimer := by
  simp only [State.segmentEnd]; (repeat' split) <;> simp
@[simp] theorem State.segmentEnd_around (s : State) : (s.segmentEnd).pba.around = s.pba.around := by
  simp only [State.segmentEnd]; (repeat' split) <;> simp
@[simp] theorem State.engineMm_out (s : State) (l : LaneId) : ((s.engineMm).pba.lane l).out = (s.pba.lane l).out := by
  simp only [State.engineMm]; (repeat' split) <;> simp
@[simp] theorem State.engineMm_pressure (s : State) (l : LaneId) : (s.engineMm).pba.pressure l = s.pba.pressure l := by
  simp only [State.engineMm]; (repeat' split) <;> simp
@[simp] theorem State.engineMm_ambient (s : State) : (s.engineMm).pba.ambient = s.pba.ambient := by
  simp only [State.engineMm]; (repeat' split) <;> simp
@[simp] theorem State.engineMm_freshness (s : State) : (s.engineMm).pba.freshness = s.pba.freshness := by
  simp only [State.engineMm]; (repeat' split) <;> simp
@[simp] theorem State.engineMm_allocTimer (s : State) : (s.engineMm).pba.allocTimer = s.pba.allocTimer := by
  simp only [State.engineMm]; (repeat' split) <;> simp
@[simp] theorem State.engineMm_around (s : State) : (s.engineMm).pba.around = s.pba.around := by
  simp only [State.engineMm]; (repeat' split) <;> simp
@[simp] theorem State.returnEvent_out (s : State) (r : Resource) (l : LaneId) : ((s.returnEvent r).pba.lane l).out = (s.pba.lane l).out := by
  simp only [State.returnEvent]; (repeat' split) <;> simp
@[simp] theorem State.returnEvent_pressure (s : State) (r : Resource) (l : LaneId) : (s.returnEvent r).pba.pressure l = s.pba.pressure l := by
  simp only [State.returnEvent]; (repeat' split) <;> simp
@[simp] theorem State.returnEvent_ambient (s : State) (r : Resource) : (s.returnEvent r).pba.ambient = s.pba.ambient := by
  simp only [State.returnEvent]; (repeat' split) <;> simp
@[simp] theorem State.returnEvent_freshness (s : State) (r : Resource) : (s.returnEvent r).pba.freshness = s.pba.freshness := by
  simp only [State.returnEvent]; (repeat' split) <;> simp
@[simp] theorem State.returnEvent_allocTimer (s : State) (r : Resource) : (s.returnEvent r).pba.allocTimer = s.pba.allocTimer := by
  simp only [State.returnEvent]; (repeat' split) <;> simp
@[simp] theorem State.returnEvent_around (s : State) (r : Resource) : (s.returnEvent r).pba.around = s.pba.around := by
  simp only [State.returnEvent]; (repeat' split) <;> simp
@[simp] theorem State.claimLossStow_out (s : State) (r : Resource) (l : LaneId) : ((s.claimLossStow r).pba.lane l).out = (s.pba.lane l).out := by
  simp only [State.claimLossStow]; (repeat' split) <;> simp
@[simp] theorem State.claimLossStow_pressure (s : State) (r : Resource) (l : LaneId) : (s.claimLossStow r).pba.pressure l = s.pba.pressure l := by
  simp only [State.claimLossStow]; (repeat' split) <;> simp
@[simp] theorem State.claimLossStow_ambient (s : State) (r : Resource) : (s.claimLossStow r).pba.ambient = s.pba.ambient := by
  simp only [State.claimLossStow]; (repeat' split) <;> simp
@[simp] theorem State.claimLossStow_freshness (s : State) (r : Resource) : (s.claimLossStow r).pba.freshness = s.pba.freshness := by
  simp only [State.claimLossStow]; (repeat' split) <;> simp
@[simp] theorem State.claimLossStow_allocTimer (s : State) (r : Resource) : (s.claimLossStow r).pba.allocTimer = s.pba.allocTimer := by
  simp only [State.claimLossStow]; (repeat' split) <;> simp
@[simp] theorem State.claimLossStow_around (s : State) (r : Resource) : (s.claimLossStow r).pba.around = s.pba.around := by
  simp only [State.claimLossStow]; (repeat' split) <;> simp
@[simp] theorem State.withdrawEffect_out (s : State) (e : Claim) (r : Resource) (l : LaneId) : ((s.withdrawEffect e r).pba.lane l).out = (s.pba.lane l).out := by
  simp only [State.withdrawEffect]; (repeat' split) <;> simp
@[simp] theorem State.withdrawEffect_pressure (s : State) (e : Claim) (r : Resource) (l : LaneId) : (s.withdrawEffect e r).pba.pressure l = s.pba.pressure l := by
  simp only [State.withdrawEffect]; (repeat' split) <;> simp
@[simp] theorem State.withdrawEffect_ambient (s : State) (e : Claim) (r : Resource) : (s.withdrawEffect e r).pba.ambient = s.pba.ambient := by
  simp only [State.withdrawEffect]; (repeat' split) <;> simp
@[simp] theorem State.withdrawEffect_freshness (s : State) (e : Claim) (r : Resource) : (s.withdrawEffect e r).pba.freshness = s.pba.freshness := by
  simp only [State.withdrawEffect]; (repeat' split) <;> simp
@[simp] theorem State.withdrawEffect_allocTimer (s : State) (e : Claim) (r : Resource) : (s.withdrawEffect e r).pba.allocTimer = s.pba.allocTimer := by
  simp only [State.withdrawEffect]; (repeat' split) <;> simp
@[simp] theorem State.withdrawEffect_around (s : State) (e : Claim) (r : Resource) : (s.withdrawEffect e r).pba.around = s.pba.around := by
  simp only [State.withdrawEffect]; (repeat' split) <;> simp
@[simp] theorem State.withdrawCab_out (s : State) (l : LaneId) : ((s.withdrawCab).pba.lane l).out = (s.pba.lane l).out := by
  simp [State.withdrawCab]
@[simp] theorem State.withdrawCab_pressure (s : State) (l : LaneId) : (s.withdrawCab).pba.pressure l = s.pba.pressure l := by
  simp [State.withdrawCab]
@[simp] theorem State.withdrawCab_ambient (s : State) : (s.withdrawCab).pba.ambient = s.pba.ambient := by
  simp [State.withdrawCab]
@[simp] theorem State.withdrawCab_freshness (s : State) : (s.withdrawCab).pba.freshness = s.pba.freshness := by
  simp [State.withdrawCab]
@[simp] theorem State.withdrawCab_allocTimer (s : State) : (s.withdrawCab).pba.allocTimer = s.pba.allocTimer := by
  simp [State.withdrawCab]
@[simp] theorem State.withdrawCab_around (s : State) : (s.withdrawCab).pba.around = s.pba.around := by
  simp [State.withdrawCab]
@[simp] theorem State.cabLost_out (s : State) (l : LaneId) : ((s.cabLost).pba.lane l).out = (s.pba.lane l).out := by
  simp [State.cabLost]
@[simp] theorem State.cabLost_pressure (s : State) (l : LaneId) : (s.cabLost).pba.pressure l = s.pba.pressure l := by
  simp [State.cabLost]
@[simp] theorem State.cabLost_ambient (s : State) : (s.cabLost).pba.ambient = s.pba.ambient := by
  simp [State.cabLost]
@[simp] theorem State.cabLost_freshness (s : State) : (s.cabLost).pba.freshness = s.pba.freshness := by
  simp [State.cabLost]
@[simp] theorem State.cabLost_allocTimer (s : State) : (s.cabLost).pba.allocTimer = s.pba.allocTimer := by
  simp [State.cabLost]
@[simp] theorem State.cabLost_around (s : State) : (s.cabLost).pba.around = s.pba.around := by
  simp [State.cabLost]
@[simp] theorem State.travelStages_out (s : State) (l : LaneId) : ((s.travelStages).pba.lane l).out = (s.pba.lane l).out := by
  simp [State.travelStages]
@[simp] theorem State.travelStages_pressure (s : State) (l : LaneId) : (s.travelStages).pba.pressure l = s.pba.pressure l := by
  simp [State.travelStages]
@[simp] theorem State.travelStages_ambient (s : State) : (s.travelStages).pba.ambient = s.pba.ambient := by
  simp [State.travelStages]
@[simp] theorem State.travelStages_freshness (s : State) : (s.travelStages).pba.freshness = s.pba.freshness := by
  simp [State.travelStages]
@[simp] theorem State.travelStages_allocTimer (s : State) : (s.travelStages).pba.allocTimer = s.pba.allocTimer := by
  simp [State.travelStages]
@[simp] theorem State.travelStages_around (s : State) : (s.travelStages).pba.around = s.pba.around := by
  simp [State.travelStages]
@[simp] theorem State.travelTick_out (s : State) (l : LaneId) : ((s.travelTick).pba.lane l).out = (s.pba.lane l).out := by
  simp only [State.travelTick]; (repeat' split) <;> simp
@[simp] theorem State.travelTick_pressure (s : State) (l : LaneId) : (s.travelTick).pba.pressure l = s.pba.pressure l := by
  simp only [State.travelTick]; (repeat' split) <;> simp
@[simp] theorem State.travelTick_ambient (s : State) : (s.travelTick).pba.ambient = s.pba.ambient := by
  simp only [State.travelTick]; (repeat' split) <;> simp
@[simp] theorem State.travelTick_freshness (s : State) : (s.travelTick).pba.freshness = s.pba.freshness := by
  simp only [State.travelTick]; (repeat' split) <;> simp
@[simp] theorem State.travelTick_allocTimer (s : State) : (s.travelTick).pba.allocTimer = s.pba.allocTimer := by
  simp only [State.travelTick]; (repeat' split) <;> simp
@[simp] theorem State.travelTick_around (s : State) : (s.travelTick).pba.around = s.pba.around := by
  simp only [State.travelTick]; (repeat' split) <;> simp

end Sys2Proof.Machine
end

