-- ==== Sys2Proof/Laws/Ports.lean ====
section
/-! SUPPORT. What a transaction does, said once: the port's tests, the answers, the parts of a long read. -/

namespace Sys2Proof.Machine

/-! ## Answers -/

/-- A block's answer without a content. -/
@[simp] theorem done_answer (t : State) (st : Status) (f : Frame) (c : Cmd) :
    ((t.done st).answer f.port c.code) = t.replied f c st := rfl

/-- The answer of a request that returns a state with a status. -/
@[simp] theorem doneOf_answer (r : State × Status) (f : Frame) (c : Cmd) :
    ((doneOf r).answer f.port c.code) = r.1.replied f c r.2 := rfl

/-- The answer of an accepted read. -/
@[simp] theorem readOk_answer (t : State) (content : List Byte) (f : Frame) (c : Cmd) :
    ((t.readOk content).answer f.port c.code) = t.readReplied f c content := rfl

@[simp] theorem State.replied_port (t : State) (f : Frame) (c : Cmd) (st : Status) (q : PortId) :
    (t.replied f c st).port q =
      if q = f.port then { t.port q with response := { status := st, code := c.code, payload := [] } } else t.port q := by
  unfold State.replied State.respond
  rw [State.port_setPort]; split <;> simp_all

/-! ## The tests of a transaction -/

/-- A SELN low period on a port that takes no transaction: zeros on the data-out line under PRSTN, nothing under RSTN alone. -/
theorem State.ignored_cases (s : State) (p : PortId) (n : Nat) :
    ((s.port p).inReset = true ∧ s.ignored p n = s.setPort p { s.port p with shifted := List.replicate n 0 }) ∨
      ((s.port p).inReset = false ∧ s.ignored p n = s) := by
  cases h : (s.port p).inReset <;> simp [State.ignored, h]

@[simp] theorem State.ignored_rstnHeld (s : State) (p : PortId) (n : Nat) : (s.ignored p n).rstnHeld = s.rstnHeld := by
  unfold State.ignored; split <;> rfl
@[simp] theorem State.ignored_stopin (s : State) (p : PortId) (n : Nat) : (s.ignored p n).stopin = s.stopin := by
  unfold State.ignored; split <;> rfl
@[simp] theorem State.ignored_ctu (s : State) (p : PortId) (n : Nat) : (s.ignored p n).ctu = s.ctu := by
  unfold State.ignored; split <;> rfl
@[simp] theorem State.ignored_pba (s : State) (p : PortId) (n : Nat) : (s.ignored p n).pba = s.pba := by
  unfold State.ignored; split <;> rfl
@[simp] theorem State.ignored_pft (s : State) (p : PortId) (n : Nat) : (s.ignored p n).pft = s.pft := by
  unfold State.ignored; split <;> rfl
@[simp] theorem State.ignored_tgv (s : State) (p : PortId) (n : Nat) : (s.ignored p n).tgv = s.tgv := by
  unfold State.ignored; split <;> rfl
@[simp] theorem State.ignored_arc (s : State) (p : PortId) (n : Nat) : (s.ignored p n).arc = s.arc := by
  unfold State.ignored; split <;> rfl
@[simp] theorem State.ignored_clt (s : State) (p : PortId) (n : Nat) : (s.ignored p n).clt = s.clt := by
  unfold State.ignored; split <;> rfl
@[simp] theorem State.ignored_spc (s : State) (p : PortId) (n : Nat) : (s.ignored p n).spc = s.spc := by
  unfold State.ignored; split <;> rfl
@[simp] theorem State.ignored_sge (s : State) (p : PortId) (n : Nat) : (s.ignored p n).sge = s.sge := by
  unfold State.ignored; split <;> rfl
@[simp] theorem State.ignored_cfs (s : State) (p : PortId) (n : Nat) : (s.ignored p n).cfs = s.cfs := by
  unfold State.ignored; split <;> rfl
@[simp] theorem State.ignored_raceCount (s : State) (p : PortId) (n : Nat) : (s.ignored p n).raceCount = s.raceCount := by
  unfold State.ignored; split <;> rfl
@[simp] theorem State.ignored_pending (s : State) (p : PortId) (n : Nat) : (s.ignored p n).pending = s.pending := by
  unfold State.ignored; split <;> rfl
@[simp] theorem State.ignored_params (s : State) (p : PortId) (n : Nat) : (s.ignored p n).params = s.params := by
  unfold State.ignored; split <;> rfl

/-- A port that takes no transaction ignores it. -/
theorem transact_of_deaf {s : State} {c : Cmd} {f : Frame} {body : State → Done} (h : s.deaf f.port = true) :
    s.transact c f body = s.ignored f.port f.size := by simp [State.transact, h]

/-- A request that passes the port's tests is handed to its block in the state `atBlock`. -/
theorem transact_of_hears {s : State} {c : Cmd} {f : Frame} (body : State → Done) (h : s.hears c f) :
    s.transact c f body = (body (s.atBlock f)).answer f.port c.code := by
  obtain ⟨h1, h2, h3, h4, h5⟩ := h
  have h6 : s.refusal c f = none := by
    simp only [State.refusal, h3, h4]
    cases hr : s.cfs.ready <;> cases hu : c.inUnconfigured <;> simp_all
  simp [State.transact, State.deaf, State.port, h1, h2, State.served, h6]

/-- A request that fails a test of the port is refused with the status of that test. -/
theorem transact_of_refusal {s : State} {c : Cmd} {f : Frame} {st : Status} (body : State → Done)
    (h1 : s.rstnHeld = false) (h2 : (s.ports.get f.port).inReset = false) (h : s.refusal c f = some st) :
    s.transact c f body = (s.atBlock f).replied f c st := by
  simp [State.transact, State.deaf, State.port, h1, h2, State.served, h]

/-- Everything a transaction can do: it is ignored, a refusal by the port, or what its block does. -/
theorem transact_cases (s : State) (c : Cmd) (f : Frame) (body : State → Done) :
    s.transact c f body = s.ignored f.port f.size ∨ (∃ st, s.transact c f body = (s.atBlock f).replied f c st) ∨
      s.transact c f body = (body (s.atBlock f)).answer f.port c.code := by
  unfold State.transact
  split
  · exact .inl rfl
  · unfold State.served
    split
    · exact .inr (.inl ⟨_, rfl⟩)
    · exact .inr (.inr rfl)

/-! ## Requests that name something in their first byte -/

theorem forChannel_of_some {f : Frame} {t : State} {act : ChanId → Done} {c : ChanId}
    (h : chanOf (f.payload.getD 0 0) = some c) : forChannel f t act = act c := by simp only [forChannel, h]

theorem forChannel_of_none {f : Frame} {t : State} {act : ChanId → Done} (h : chanOf (f.payload.getD 0 0) = none) :
    forChannel f t act = t.done .range := by simp only [forChannel, h]

theorem forResource_of_some {f : Frame} {t : State} {act : Resource → Done} {r : Resource}
    (h : resourceOf (f.payload.getD 0 0) = some r) : forResource f t act = act r := by simp only [forResource, h]

theorem forResource_of_none {f : Frame} {t : State} {act : Resource → Done} (h : resourceOf (f.payload.getD 0 0) = none) :
    forResource f t act = t.done .range := by simp only [forResource, h]

theorem forArm_of_some {f : Frame} {t : State} {act : Side → Done} {side : Side}
    (h : sideOf (f.payload.getD 0 0) = some side) : forArm f t act = gated t (armResource side) (act side) := by
  simp only [forArm, h]

theorem forArm_of_none {f : Frame} {t : State} {act : Side → Done} (h : sideOf (f.payload.getD 0 0) = none) :
    forArm f t act = t.done .range := by simp only [forArm, h]

theorem forDescriptor_of_some {f : Frame} {t : State} {act : Fin 32 → Done} {i : Fin 32}
    (h : descIndexOf (f.payload.getD 0 0) = some i) : forDescriptor f t act = act i := by simp only [forDescriptor, h]

theorem forDescriptor_of_none {f : Frame} {t : State} {act : Fin 32 → Done}
    (h : descIndexOf (f.payload.getD 0 0) = none) : forDescriptor f t act = t.done .range := by
  simp only [forDescriptor, h]

theorem gated_of_cab {t : State} {r : Resource} {act : Done} (h : (t.clt.get r).holder = .cab) : gated t r act = act := by
  simp only [gated, h, if_true]

theorem gated_of_not_cab {t : State} {r : Resource} {act : Done} (h : (t.clt.get r).holder ≠ .cab) :
    gated t r act = t.done .claimed := by simp only [gated, if_neg h]

theorem chanOf_eq_none (b : Byte) : chanOf b = none ↔ 8 ≤ b.toNat := by unfold chanOf; split <;> simp_all <;> omega

theorem sideOf_eq_none (b : Byte) : sideOf b = none ↔ 2 ≤ b.toNat := by unfold sideOf; split <;> simp_all <;> omega

theorem resourceOf_eq_none (b : Byte) : resourceOf b = none ↔ 4 ≤ b.toNat := by
  unfold resourceOf; split <;> simp_all <;> omega

theorem modeOf_eq_none (b : Byte) : modeOf b = none ↔ 3 ≤ b.toNat := by unfold modeOf; split <;> simp_all <;> omega

theorem directionOf_eq_none (b : Byte) : directionOf b = none ↔ 2 ≤ b.toNat := by
  unfold directionOf; split <;> simp_all <;> omega

theorem profileIndexOf_eq_none (b : Byte) : profileIndexOf b = none ↔ 8 ≤ b.toNat := by
  unfold profileIndexOf; split <;> simp_all

theorem profileIndexOf_eq_some (b : Byte) (i : Fin 8) : profileIndexOf b = some i ↔ b.toNat = i.val := by
  unfold profileIndexOf; split <;> simp [Fin.ext_iff]; omega

theorem descIndexOf_eq_none (b : Byte) : descIndexOf b = none ↔ 32 ≤ b.toNat := by
  unfold descIndexOf; split <;> simp_all

theorem descIndexOf_eq_some (b : Byte) (i : Fin 32) : descIndexOf b = some i ↔ b.toNat = i.val := by
  unfold descIndexOf; split <;> simp [Fin.ext_iff]; omega

theorem paramIdOf_eq_none (b : Byte) : paramIdOf b = none ↔ 64 ≤ b.toNat := by unfold paramIdOf; split <;> simp_all

theorem paramIdOf_eq_some (b : Byte) (i : Fin 64) : paramIdOf b = some i ↔ b.toNat = i.val := by
  unfold paramIdOf; split <;> simp [Fin.ext_iff]; omega

end Sys2Proof.Machine
end

