-- ==== Sys2Proof/Laws/Allocation.lean ====
section
/-! SUPPORT. The arithmetic of one allocation: the set that admission leaves fits the budget, a class never takes more than
the remainder it finds, and grants and slack together are the budget. -/

namespace Sys2Proof.Machine

variable (a : AllocIn)

/-! ## Sums over lists of lanes -/

theorem floors_filter_le (p : LaneId → Bool) (A : List LaneId) : a.floors (A.filter p) ≤ a.floors A := by
  induction A with
  | nil => simp
  | cons x A ih =>
    simp only [AllocIn.floors, List.filter_cons, List.map_cons, List.sum_cons] at *
    split
    · simp only [List.map_cons, List.sum_cons]; omega
    · omega

theorem floors_cons (l : LaneId) (A : List LaneId) : a.floors (l :: A) = a.floor l + a.floors A := by
  simp [AllocIn.floors]

theorem floors_eq_zero {A : List LaneId} (h : ∀ l ∈ A, a.floor l = 0) : a.floors A = 0 := by
  induction A with
  | nil => rfl
  | cons x A ih => rw [floors_cons, h x (by simp), ih fun l hl => h l (by simp [hl])]

/-! ## Admission (R31 to R33) -/

theorem mem_shedOrder (l : LaneId) (h : a.cls l ≤ 3) : l ∈ a.shedOrder := by
  have hl : l ∈ lanesDown := by cases l <;> decide
  simp only [AllocIn.shedOrder, List.mem_flatMap, List.mem_filter, beq_iff_eq]
  exact ⟨a.cls l, by simp; omega, hl, rfl⟩

/-- Shedding only takes lanes away. -/
theorem shed_subset (order A : List LaneId) : a.shed order A ⊆ A := by
  induction order generalizing A with
  | nil => simp [AllocIn.shed]
  | cons l rest ih =>
    unfold AllocIn.shed
    split
    · exact fun x hx => List.filter_subset_self _ (ih _ hx)
    · exact ih _

/-- A lane without a floor is never shed. -/
theorem mem_shed_of_floor_zero {l : LaneId} (order : List LaneId) {A : List LaneId} (hl : l ∈ A) (h0 : a.floor l = 0) :
    l ∈ a.shed order A := by
  induction order generalizing A with
  | nil => simpa [AllocIn.shed]
  | cons x rest ih =>
    unfold AllocIn.shed
    split
    · next h => exact ih (List.mem_filter.2 ⟨hl, by simp; rintro rfl; exact h.2.2 h0⟩)
    · exact ih hl

/-- After shedding through an order, the floors fit the budget or every lane left that the order names has floor 0. -/
theorem shed_fits (order A : List LaneId) :
    a.floors (a.shed order A) ≤ a.budget ∨ ∀ l ∈ order, l ∈ a.shed order A → a.floor l = 0 := by
  induction order generalizing A with
  | nil => right; simp
  | cons x rest ih =>
    by_cases hc : a.budget < a.floors A ∧ x ∈ A ∧ a.floor x ≠ 0
    · have e : a.shed (x :: rest) A = a.shed rest (A.filter fun y => y ≠ x) := by
        rw [AllocIn.shed, if_pos hc]
      rw [e]
      rcases ih (A.filter fun y => y ≠ x) with h | h
      · exact .inl h
      · right
        intro l hl hm
        rcases List.mem_cons.1 hl with rfl | hl
        · have := List.mem_filter.1 (shed_subset a rest _ hm)
          simp at this
        · exact h l hl hm
    · have e : a.shed (x :: rest) A = a.shed rest A := by rw [AllocIn.shed, if_neg hc]
      rw [e]
      rcases ih A with h | h
      · exact .inl h
      · by_cases hb : a.floors A ≤ a.budget
        · left
          refine le_trans ?_ hb
          clear ih h hc e hb
          induction rest generalizing A with
          | nil => simp [AllocIn.shed]
          | cons y ys ihy =>
            unfold AllocIn.shed
            split
            · exact (ihy _).trans (floors_filter_le a _ A)
            · exact ihy _
        · right
          intro l hl hm
          rcases List.mem_cons.1 hl with rfl | hl
          · by_contra h0
            exact hc ⟨by omega, shed_subset a rest _ hm, h0⟩
          · exact h l hl hm

/-- After shedding the floors fit the budget (R32). -/
theorem afterShed_fits (h : ∀ l, a.cls l ≤ 3) : a.floors a.afterShed ≤ a.budget := by
  rcases shed_fits a a.shedOrder a.admitted with hf | hf
  · exact hf
  · rw [AllocIn.afterShed, floors_eq_zero a fun l hl => hf l (mem_shedOrder a l (h l)) hl]
    exact Nat.zero_le _

/-- Re-admission keeps the floors within the budget (R33). -/
theorem readmit_fits (order A : List LaneId) (h : a.floors A ≤ a.budget) : a.floors (a.readmit order A) ≤ a.budget := by
  induction order generalizing A with
  | nil => simpa [AllocIn.readmit]
  | cons l rest ih =>
    unfold AllocIn.readmit
    split
    · next hc => exact ih _ (by rw [floors_cons]; omega)
    · exact ih _ h

/-- The floors of the admitted lanes fit the budget. -/
theorem finalSet_fits (h : ∀ l, a.cls l ≤ 3) : a.floors a.finalSet ≤ a.budget :=
  readmit_fits a _ _ (afterShed_fits a h)

/-- The lanes that re-admission leaves are the lanes it began with and candidates. -/
theorem readmit_subset (order A : List LaneId) {l : LaneId} (h : l ∈ a.readmit order A) :
    l ∈ A ∨ a.candidate l = true := by
  induction order generalizing A with
  | nil => exact .inl (by simpa [AllocIn.readmit] using h)
  | cons x rest ih =>
    unfold AllocIn.readmit at h
    split at h
    · next hc =>
      rcases ih _ h with h | h
      · rcases List.mem_cons.1 h with rfl | h
        · exact .inr hc.1
        · exact .inl h
      · exact .inr h
    · exact ih _ h

theorem mem_readmit_of_mem (order : List LaneId) {A : List LaneId} {l : LaneId} (h : l ∈ A) : l ∈ a.readmit order A := by
  induction order generalizing A with
  | nil => simpa [AllocIn.readmit]
  | cons x rest ih =>
    unfold AllocIn.readmit
    split
    · exact ih (List.mem_cons_of_mem _ h)
    · exact ih h

theorem mem_afterShed_admitted {l : LaneId} (h : l ∈ a.afterShed) : a.active l = true ∧ a.wasStarved l = false := by
  have := shed_subset a _ _ h
  simp [AllocIn.admitted] at this
  exact this.2

/-- Only active lanes are admitted. -/
theorem finalSet_active {l : LaneId} (h : l ∈ a.finalSet) : a.active l = true := by
  rcases readmit_subset a _ _ h with h | h
  · exact (mem_afterShed_admitted a h).1
  · simp [AllocIn.candidate] at h; exact h.1

theorem readmitOrder_nodup : a.readmitOrder.Nodup := by
  have hu : lanesUp.Nodup := by decide
  unfold AllocIn.readmitOrder
  refine List.nodup_flatMap.2 ⟨fun k _ => hu.filter _, ?_⟩
  refine List.Pairwise.imp ?_ (show List.Pairwise (fun x y : Nat => x ≠ y) [0, 1, 2, 3] by decide)
  intro x y hxy l h1 h2
  simp at h1 h2
  omega

/-- No lane is admitted twice. -/
theorem finalSet_nodup : a.finalSet.Nodup := by
  have hs : ∀ order A, A.Nodup → (a.shed order A).Nodup := by
    intro order
    induction order with
    | nil => intro A h; simpa [AllocIn.shed]
    | cons x rest ih =>
      intro A h
      unfold AllocIn.shed
      split
      · exact ih _ (h.filter _)
      · exact ih _ h
  have hr : ∀ order A, order.Nodup → A.Nodup → (∀ l ∈ order, a.candidate l = true → l ∉ A) →
      (a.readmit order A).Nodup := by
    intro order
    induction order with
    | nil => intro A _ h _; simpa [AllocIn.readmit]
    | cons x rest ih =>
      intro A ho h hd
      obtain ⟨hx, ho⟩ := List.nodup_cons.1 ho
      unfold AllocIn.readmit
      split
      · next hc =>
        refine ih _ ho (List.nodup_cons.2 ⟨hd x (by simp) hc.1, h⟩) ?_
        intro l hl hc' hm
        rcases List.mem_cons.1 hm with rfl | hm
        · exact hx hl
        · exact hd l (by simp [hl]) hc' hm
      · exact ih _ ho h fun l hl => hd l (by simp [hl])
  refine hr _ _ (readmitOrder_nodup a) (hs _ _ ((show lanesUp.Nodup by decide).filter _)) ?_
  intro l _ hc hm
  have := mem_afterShed_admitted a hm
  simp [AllocIn.candidate, this] at hc

/-! ## Distribution (R34) -/

theorem share_le_extra (r : Nat) (l : LaneId) : a.share r l ≤ a.extra l := by
  unfold AllocIn.share
  split
  · exact le_refl _
  · next h => exact Nat.div_le_of_le_mul (by nlinarith)

theorem sum_share_le (r e : Nat) (ls : List LaneId) :
    ((ls.map fun l => a.extra l * r / e).sum) * e ≤ (ls.map a.extra).sum * r := by
  induction ls with
  | nil => simp
  | cons l ls ih =>
    simp only [List.map_cons, List.sum_cons, Nat.add_mul]
    exact Nat.add_le_add (Nat.div_mul_le_self _ _) ih

/-- A class never takes more than the remainder it finds. -/
theorem taken_le (k r : Nat) : a.taken k r ≤ r := by
  unfold AllocIn.taken
  have hcls : ∀ l ∈ a.inClass k, a.cls l = k := by
    intro l hl; simpa using (List.mem_filter.1 hl).2
  by_cases h : a.classExtra k ≤ r
  · rw [List.map_congr_left (g := a.extra) fun l hl => by rw [AllocIn.share, hcls l hl, if_pos h]]
    exact h
  · rw [List.map_congr_left (g := fun l => a.extra l * r / a.classExtra k) fun l hl => by
      rw [AllocIn.share, hcls l hl, if_neg h]]
    have hp : 0 < a.classExtra k := by omega
    refine Nat.le_of_mul_le_mul_right (?_ : _ * a.classExtra k ≤ r * a.classExtra k) hp
    rw [Nat.mul_comm r]
    exact sum_share_le a r _ _

/-- What the four classes take and the slack are together what the floors leave. -/
theorem slack_eq (h : ∀ l, a.cls l ≤ 3) :
    a.floors a.finalSet + (a.taken 0 (a.remainder 0) + a.taken 1 (a.remainder 1) + a.taken 2 (a.remainder 2) +
      a.taken 3 (a.remainder 3)) + a.slack = a.budget := by
  have h0 := finalSet_fits a h
  have e0 : a.remainder 0 = a.budget - a.floors a.finalSet := rfl
  have e1 : a.remainder 1 = a.remainder 0 - a.taken 0 (a.remainder 0) := rfl
  have e2 : a.remainder 2 = a.remainder 1 - a.taken 1 (a.remainder 1) := rfl
  have e3 : a.remainder 3 = a.remainder 2 - a.taken 2 (a.remainder 2) := rfl
  have e4 : a.slack = a.remainder 3 - a.taken 3 (a.remainder 3) := rfl
  have t0 := taken_le a 0 (a.remainder 0)
  have t1 := taken_le a 1 (a.remainder 1)
  have t2 := taken_le a 2 (a.remainder 2)
  have t3 := taken_le a 3 (a.remainder 3)
  omega

/-- The shares of the admitted lanes are what the classes take. -/
theorem sum_shares (h : ∀ l, a.cls l ≤ 3) (ls : List LaneId) :
    (ls.map fun l => a.share (a.remainder (a.cls l)) l).sum =
      ((ls.filter fun l => a.cls l == 0).map (a.share (a.remainder 0))).sum +
      ((ls.filter fun l => a.cls l == 1).map (a.share (a.remainder 1))).sum +
      ((ls.filter fun l => a.cls l == 2).map (a.share (a.remainder 2))).sum +
      ((ls.filter fun l => a.cls l == 3).map (a.share (a.remainder 3))).sum := by
  induction ls with
  | nil => rfl
  | cons l ls ih =>
    have hl := h l
    have : a.cls l = 0 ∨ a.cls l = 1 ∨ a.cls l = 2 ∨ a.cls l = 3 := by omega
    rcases this with hk | hk | hk | hk <;> simp [hk, ih] <;> omega

/-- A lane's grant: its floor and its share, or 0 outside the admitted set. -/
theorem sum_over_lanes (g : LaneId → Nat) {A : List LaneId} (hA : A.Nodup) :
    (lanesUp.map fun l => if l ∈ A then g l else 0).sum = (A.map g).sum := by
  have hp : (lanesUp.filter fun l => decide (l ∈ A)).Perm A := by
    rw [List.perm_ext_iff_of_nodup ((show lanesUp.Nodup by decide).filter _) hA]
    intro l
    have : l ∈ lanesUp := by cases l <;> decide
    simp [this]
  rw [← (hp.map g).sum_eq]
  have : ∀ ls : List LaneId, (ls.map fun l => if l ∈ A then g l else 0).sum =
      ((ls.filter fun l => decide (l ∈ A)).map g).sum := by
    intro ls
    induction ls with
    | nil => rfl
    | cons x xs ih => by_cases hx : x ∈ A <;> simp [hx, ih]
  exact this _

/-- The grants of the six lanes and the slack are together the budget in effect (R34, R35). -/
theorem grants_and_slack (h : ∀ l, a.cls l ≤ 3) : (lanesUp.map a.grant).sum + a.slack = a.budget := by
  have hg : (lanesUp.map a.grant).sum = a.floors a.finalSet +
      (a.finalSet.map fun l => a.share (a.remainder (a.cls l)) l).sum := by
    unfold AllocIn.grant
    rw [sum_over_lanes (fun l => a.floor l + a.share (a.remainder (a.cls l)) l) (finalSet_nodup a)]
    rw [AllocIn.floors, ← List.sum_map_add]
  rw [hg, sum_shares a h, ← slack_eq a h]
  rfl

theorem grant_bounds (hf : ∀ l, a.floor l ≤ a.demand l) {l : LaneId} (h : l ∈ a.finalSet) :
    a.floor l ≤ a.grant l ∧ a.grant l ≤ a.demand l := by
  have := share_le_extra a (a.remainder (a.cls l)) l
  have h2 := hf l
  simp only [AllocIn.grant, if_pos h, AllocIn.extra] at *
  omega

/-- The classes of the machine are 0 to 3. -/
theorem State.allocIn_cls (s : State) (l : LaneId) : s.allocIn.cls l ≤ 3 := by
  cases l <;> simp [State.allocIn, Params.laneClass]

theorem State.allocIn_floor_le (s : State) (l : LaneId) : s.allocIn.floor l ≤ s.allocIn.demand l := Nat.min_le_right _ _

/-! ## What an allocation publishes -/

/-- The lanes as an allocation publishes them: what the consumers do on the publication changes no lane's result. -/
theorem State.allocate_out (s : State) (l : LaneId) :
    (s.allocate.pba.lane l).out = (s.allocatedLane l).out := by
  simp only [State.allocate, State.setPump_out, State.refreshIf_out]
  cases l <;> rfl

theorem State.allocate_around (s : State) : s.allocate.pba.around = s.publishGrants.pba.around := by
  simp [State.allocate]

theorem State.allocatedLane_out (s : State) (l : LaneId) :
    (s.allocatedLane l).out = { state := s.allocIn.laneState l, grant := s.allocIn.grant l,
                                flow := min (s.rawGrantFlow (s.allocIn.grant l) l) 65535 } := by
  simp [State.allocatedLane]

/-- A lane is admitted exactly where it is published FULL or PART. -/
theorem laneState_served (l : LaneId) : (a.laneState l).served = true ↔ l ∈ a.finalSet := by
  unfold AllocIn.laneState
  split
  · next h => simp only [h, iff_true]; split <;> rfl
  · next h => simp only [h, iff_false]; split <;> decide

end Sys2Proof.Machine
end

