-- ==== Sys2Proof/Laws/Operations.lean ====
section
/-! SUPPORT. What the shared operations of the arms, the engine and the distance do, said once: the record each one writes,
and the ways each one can go. -/

namespace Sys2Proof.Machine

/-! ## Timers -/

@[simp] theorem Timer.ranOut_iff (t : Timer) : t.ranOut = true ↔ t = some 0 := by simp [Timer.ranOut]

@[simp] theorem Timer.ranOut_eq_false (t : Timer) : t.ranOut = false ↔ t ≠ some 0 := by simp [Timer.ranOut]

/-! ## Arms and pickup -/

theorem State.putArm_arc (s : State) (side : Side) (x : Arm) : (s.putArm side x).arc = s.arc.setArm side x := by
  simp [State.putArm, State.setArm]

theorem State.putPickup_arc (s : State) (x : Pickup) : (s.putPickup x).arc = { s.arc with pickup := x } := by
  simp [State.putPickup]

/-- Entry into LIFTING writes the one arm. -/
theorem State.liftArm_arc (s : State) (side : Side) (cause : Cause) :
    (s.liftArm side cause).arc = s.arc.setArm side ((s.arm side).lifted cause s.params.moveTimeout) := by
  simp [State.liftArm, State.putArm_arc]

/-- Entry into FAULT writes the one arm. -/
theorem State.faultArm_arc (s : State) (side : Side) (cause : Cause) :
    (s.faultArm side cause).arc = s.arc.setArm side ((s.arm side).faulted cause) := by
  simp [State.faultArm, State.putArm_arc]

/-- Entry into RAISING writes the pickup. -/
theorem State.raisePickup_arc (s : State) (cause : Cause) :
    (s.raisePickup cause).arc = { s.arc with pickup := s.arc.pickup.raised cause s.params.moveTimeout } := by
  simp [State.raisePickup, State.putPickup_arc, State.pickupLanesOff]

theorem State.faultPickup_arc (s : State) (cause : Cause) :
    (s.faultPickup cause).arc = { s.arc with pickup := s.arc.pickup.faulted cause } := by
  simp [State.faultPickup, State.putPickup_arc, State.pickupLanesOff]

/-- STOW lifts an arm that is out, and otherwise does nothing. -/
theorem State.armStow_cases (s : State) (side : Side) (cause : Cause) :
    (((s.arm side).state = .homing ∨ (s.arm side).state = .deploying ∨ (s.arm side).state = .working) ∧
      s.armStow side cause = (s.liftArm side cause, .ok)) ∨
    (((s.arm side).state = .stowed ∨ (s.arm side).state = .lifting) ∧ s.armStow side cause = (s, .ok)) ∨
    ((s.arm side).state = .fault ∧ s.armStow side cause = (s, .state)) := by
  unfold State.armStow; split <;> simp_all

/-- The pickup's UP raises one that is down or on its way, clears a FAULT with the switch up, and otherwise does nothing. -/
theorem State.pickupUp_cases (s : State) :
    s.pickupUp = (s, .ok) ∨ s.pickupUp = (s, .state) ∨ s.pickupUp = (s.raisePickup .command, .ok) ∨
      (s.arc.pickup.state = .fault ∧ s.pickupUp = (s.putPickup { s.arc.pickup with state := .up }, .ok)) := by
  unfold State.pickupUp; dsimp only; split
  · exact .inl rfl
  · exact .inl rfl
  · exact .inr (.inr (.inl rfl))
  · exact .inr (.inr (.inl rfl))
  · split
    · exact .inr (.inl rfl)
    · split
      · exact .inr (.inr (.inr ⟨by assumption, rfl⟩))
      · exact .inr (.inr (.inl rfl))

theorem State.starveArm_cases (s : State) (side : Side) :
    (((s.arm side).state = .working ∨ (s.arm side).state = .deploying ∧ (s.arm side).phase = .spinup) ∧
      (s.pba.lane (armLane side)).out.state = .starved ∧ s.starveArm side = s.liftArm side .starved) ∨
    (¬(((s.arm side).state = .working ∨ (s.arm side).state = .deploying ∧ (s.arm side).phase = .spinup) ∧
      (s.pba.lane (armLane side)).out.state = .starved) ∧ s.starveArm side = s) := by
  unfold State.starveArm; dsimp only; split
  · next h => exact .inl ⟨h.1, h.2, rfl⟩
  · next h => exact .inr ⟨h, rfl⟩

/-- Stall detection counts and lifts a stalled arm at the stall time, and otherwise sets the stall timer alone. -/
theorem State.stallArm_cases (s : State) (side : Side) :
    (s.armInStall side = true ∧ s.params.stallTime ≤ (s.arm side).stallTimer + 10 ∧ s.stallArm side =
      ((s.setArm side { s.arm side with stallCount := min 255 ((s.arm side).stallCount + 1) }).stallEvent).liftArm side
        .stall) ∨
    ((s.armInStall side = true → (s.arm side).stallTimer + 10 < s.params.stallTime) ∧ s.stallArm side =
      s.setArm side { s.arm side with stallTimer := if s.armInStall side then (s.arm side).stallTimer + 10 else 0 }) := by
  by_cases hs : s.armInStall side = true <;>
    by_cases ht : s.params.stallTime ≤ (s.arm side).stallTimer + 10 <;>
    simp [State.stallArm, hs, ht] <;> omega

/-- Progress of a movement either lifts the arm for want of its reference or writes the one arm. -/
theorem State.progressArm_cases (s : State) (side : Side) :
    (s.armHomed side = false ∧ ((s.arm side).state = .deploying ∨ (s.arm side).state = .working) ∧
      s.progressArm side = (s.setArm side (s.aimed side)).liftArm side .reference) ∨
    ∃ x, s.progressArm side = s.setArm side x ∨
      ((s.arm side).state = .deploying ∧ (s.arm side).phase = .spinup ∧
        (s.pba.lane (armLane side)).out.state.served = true ∧ s.progressArm side = s.putArm side x) := by
  have hs : (s.aimed side).state = (s.arm side).state := by unfold State.aimed; dsimp only; split <;> rfl
  have hp : (s.aimed side).phase = (s.arm side).phase := by unfold State.aimed; dsimp only; split <;> rfl
  unfold State.progressArm; dsimp only
  split
  · next h =>
    rw [hs] at h
    split
    · next hh => exact .inl ⟨by simpa using hh, .inl h, rfl⟩
    · split
      · split <;> exact .inr ⟨_, .inl rfl⟩
      · exact .inr ⟨_, .inl rfl⟩
      · next hq =>
        rw [hp] at hq
        split
        · next hv => exact .inr ⟨_, .inr ⟨h, hq, hv, rfl⟩⟩
        · exact .inr ⟨_, .inl rfl⟩
  · next h =>
    rw [hs] at h
    split
    · next hh => exact .inl ⟨by simpa using hh, .inr h, rfl⟩
    · exact .inr ⟨_, .inl rfl⟩
  · split <;> exact .inr ⟨_, .inl rfl⟩
  all_goals exact .inr ⟨_, .inl rfl⟩

/-! ## The order of the events of a STOPIN assertion -/

/-- The Spray Controller takes no event before itself. -/
@[simp] theorem takenBefore_self (rank : Config.StopEvent → Nat) (x : Config.StopEvent) : takenBefore rank x x = false := by
  simp [takenBefore]

/-- Of two events one is taken before the other. -/
theorem takenBefore_total (rank : Config.StopEvent → Nat) {x y : Config.StopEvent} (h : x ≠ y) :
    takenBefore rank x y = !takenBefore rank y x := by
  have hn : eventNum x ≠ eventNum y := by cases x <;> cases y <;> simp_all [eventNum]
  rcases Nat.lt_trichotomy (rank x) (rank y) with hr | hr | hr
  · simp [takenBefore, hr]; omega
  · rcases Nat.lt_or_gt_of_ne hn with he | he <;> simp [takenBefore, hr, he] <;> omega
  · simp [takenBefore, hr]; omega

/-- A bank whose equipment is the same as bank i's closes no valve before an event has reached bank i. -/
theorem closedBefore_same {rank : Config.StopEvent → Nat} {s t : State} {i j : BankId} {b : Bank}
    (h : equipEvent j = equipEvent i) : closedBefore rank s t i j b = false := by
  unfold closedBefore firstEvent
  rw [h]
  by_cases hb : takenBefore rank (equipEvent i) .stopin = true <;> simp [hb]

/-- The latch that the order of the events leaves writes the first failing term alone, and only where the order matters. -/
theorem latchOf_cases (s t : State) (i : BankId) (b : Bank) :
    (raced s t i = false ∧ latchOf s t i b = b) ∨
    (raced s t i = true ∧ latchOf s t i b =
      { b with firstFailing := some (latchedTerm (Config.stopRank s.raceCount) s t i) }) := by
  cases h : raced s t i <;> simp [latchOf, h]

/-- The latched term is T2, T4 or T7; T2 only where closings before the bank's first event took the estimate to the reserve. -/
theorem latchedTerm_cases (rank : Config.StopEvent → Nat) (s t : State) (i : BankId) :
    (latchedTerm rank s t i = .t2 ∧
      crossesReserve s.params.reserve s.spc.estimate (s.spc.estimate - s.closingMl (closedBefore rank s t i)) = true) ∨
    latchedTerm rank s t i = .t4 ∨ latchedTerm rank s t i = .t7 := by
  unfold latchedTerm
  split
  · next h => exact .inl ⟨rfl, h⟩
  · split
    · exact .inr (.inr rfl)
    · exact .inr (.inl rfl)

/-! ## Engine -/

/-- The end of a segment: held in STOPPING, or written back and followed by program end, by a pause, by the next descriptor or
by STARVED. -/
theorem State.segmentEnd_cases (s : State) :
    (s.sge.atCursor.request.endAction = .stop ∧ s.segmentEnd = s.beginStopping) ∨
    (s.sge.atCursor.request.endAction ≠ .stop ∧ s.sge.atCursor.request.last = true ∧
      s.segmentEnd = (s.writeback .done).programEnd .last) ∨
    (s.sge.atCursor.request.endAction = .pause ∧ s.sge.atCursor.request.last = false ∧
      s.segmentEnd = ((s.writeback .done).advanceCursor).suspend .pauseEnd .none) ∨
    (s.sge.atCursor.request.endAction = .cont ∧ s.sge.atCursor.request.last = false ∧
      s.segmentEnd = ((s.writeback .done).advanceCursor).fetch) := by
  unfold State.segmentEnd; dsimp only; split <;> first | (split <;> simp_all) | simp_all

/-- A millimetre at the engine: nothing, the unplanned distance, the distance of the segment, or its end. -/
theorem State.engineMm_cases (s : State) :
    ((s.sge.state = .idle ∨ s.sge.state = .suspended ∨ s.sge.state = .stopping) ∧ s.engineMm = s) ∨
    (s.sge.state = .starved ∧
      s.engineMm = { s with sge := { s.sge with unplanned := min maxU32 (s.sge.unplanned + 1) } }) ∨
    ∃ t : State, s.sge.state = .running ∧
      t = { s with sge := { s.sge with figures := { s.sge.figures with distance := s.sge.figures.distance + 1 } } } ∧
      ((s.sge.figures.distance + 1 ≠ s.sge.atCursor.request.lengthMm ∧ s.engineMm = t) ∨
        (s.sge.figures.distance + 1 = s.sge.atCursor.request.lengthMm ∧ s.engineMm = t.segmentEnd)) := by
  unfold State.engineMm; split
  · next h =>
    refine .inr (.inr ⟨_, h, rfl, ?_⟩)
    dsimp only; split
    · next hl => exact .inr ⟨hl, rfl⟩
    · next hl => exact .inl ⟨hl, rfl⟩
  · next h => exact .inr (.inl ⟨h, rfl⟩)
  all_goals exact .inl ⟨by simp_all, rfl⟩

/-! ## Distance -/

/-- A millimetre moves the mark progress on, back to 0 at the spray interval. -/
theorem State.markMm_ctu (s : State) (h : s.ctu.markProgress < s.params.sprayInterval) :
    s.markMm.ctu = { s.ctu with markProgress := (s.ctu.markProgress + 1) % s.params.sprayInterval } := by
  unfold State.markMm; split
  · next h2 =>
    have : s.ctu.markProgress + 1 = s.params.sprayInterval := by omega
    simp [this]
  · simp; rw [Nat.mod_eq_of_lt (by omega)]

/-- One whole millimetre at the Counter Unit. -/
theorem State.forwardMm_ctu (s : State) (h : s.ctu.markProgress < s.params.sprayInterval) :
    s.forwardMm.ctu = { s.ctu with
      remainder := s.ctu.remainder - 1000
      accumulator := s.ctu.accumulator + 1
      markProgress := (s.ctu.markProgress + 1) % s.params.sprayInterval } := by
  unfold State.forwardMm
  rw [State.markMm_ctu]
  · simp [State.params]
  · simpa [State.params] using h

end Sys2Proof.Machine
end

