-- ==== Sys2Proof/Tests/Slice0.lean ====
section
/-! SUPPORT. Our own tests: terms that `Instr.wf` refuses, bytes written out from the manual's formats, the manual's worked
examples one step at a time, and a witness for the hypotheses of every statement that has some. -/

namespace Sys2Proof.Tests

open Sys2Proof.Machine

-- One theorem at a time: a hundred kernel evaluations waiting on each other, each on a thread of its own, exhaust memory.
set_option Elab.async false

/-! ## Helpers -/

/-- A frame from a port with this payload and no padding. -/
def fr (p : PortId) (payload : List Byte) : Frame := ⟨p, payload, 0⟩

/-- The state after a command. -/
def after (c : Instr) (s : State) : State :=
  match exec c s with
  | .next t => t
  | .fault _ => s
  | .refused _ => s

/-- Does a command answer a next state? -/
def goesOn (c : Instr) (s : State) : Bool :=
  match exec c s with
  | .next _ => true
  | .fault _ => false
  | .refused _ => false

/-- The refusal a command answers, if it answers one. -/
def refusalOf (c : Instr) (s : State) : Option Refusal :=
  match exec c s with
  | .refused r => some r
  | .next _ => none
  | .fault _ => none

/-- The response that waits on a port, as status and code. -/
def answer (p : PortId) (s : State) : Status × Byte := ((s.port p).response.status, (s.port p).response.code)

/-- The part right after a commit of the defaults, no timer running, no channel enabled. -/
def ready : State :=
  { State.reset with cfs := { State.reset.cfs with ready := true, activeSet := some Params.defaults } }

def withTgv (g : Tgv) (s : State) : State := { s with tgv := g }

def withSge (e : Sge) (s : State) : State := { s with sge := e }

def withClt (c : Claim) (s : State) : State := { s with clt := .ofFn fun _ => c }

def withPickup (u : Pickup) (s : State) : State := { s with arc := { s.arc with pickup := u } }

def withOut (l : LaneId) (o : LaneOut) (s : State) : State :=
  { s with pba := s.pba.setLane l { s.pba.lane l with out := o } }

def withReq (l : LaneId) (r : LaneReq) (s : State) : State :=
  { s with pba := s.pba.setLane l { s.pba.lane l with req := r } }

/-- A lane that asks with these figures. -/
def ask (demand floor flow : Nat) : LaneReq := { active := true, demand := demand, floor := floor, flow := flow }

/-- Profile 2 of section 3.6. -/
def profile2 : Profile :=
  { valid := true, s0 := 300, s1 := 800, s2 := 1500, s3 := 2500, m0 := 60, m1 := 90, m2 := 120, m3 := 130, a0 := 80,
    a1 := 100, a2 := 100, a3 := 140, maxSweep := 3000, fanRpm := 2500, dose := .ofFn fun _ => 40 }

/-- `ready` with profile 2 of the manual as profile 0, active. -/
def swept (s : State) : State := { s with pft := { s.pft with profiles := s.pft.profiles.set 0 profile2 } }

/-! ## Terms that spell no command -/

theorem test_wf_bad_frame_with_good_frame : (Instr.badFrame .cab [0, 0, 0]).wf = false := by decide +kernel

theorem test_wf_bad_frame_without_bytes : (Instr.badFrame .cab []).wf = false := by decide +kernel

theorem test_wf_unknown_of_a_known_code : (Instr.unknownCommand 0x38 (fr .cab [])).wf = false := by decide +kernel

theorem test_wf_payload_above_28 : (Instr.nop (fr .cab (List.replicate 29 0))).wf = false := by decide +kernel

theorem test_wf_stow_in_the_row_of_deploy : (Instr.armSetDeploy (fr .cab [0, 2, 0, 0])).wf = false := by decide +kernel

theorem test_wf_up_in_the_row_of_work : (Instr.pickupSetWork (fr .cab [0])).wf = false := by decide +kernel

theorem test_wf_good_terms :
    (Instr.nop (fr .cab (List.replicate 28 0))).wf = true ∧ (Instr.badFrame .cab [0]).wf = true ∧
      (Instr.unknownCommand 0x03 (fr .cab [])).wf = true ∧ (Instr.armSetStow (fr .cab [0, 2, 0, 0])).wf = true ∧
      Instr.uptimeTick.wf = true := by decide +kernel

theorem test_ill_formed_is_refused :
    refusalOf (.badFrame .cab [0, 0, 0]) ready = some .illFormed ∧
      refusalOf (.unknownCommand 0x38 (fr .cab [])) ready = some .illFormed := by decide +kernel

/-! ## Bytes written out from Chapters 9 and 11 -/

/-- Section 11.5: 600 pu, 210, 140 and 120 bar, 11 °C. -/
theorem test_budget_frame_of_section_11_5 :
    decodeTransaction .chassis ([0x38, 0x09, 0x02, 0x58, 0x00, 0xD2, 0x00, 0x8C, 0x00, 0x78, 0x0B] ++
      [crc [0x38, 0x09, 0x02, 0x58, 0x00, 0xD2, 0x00, 0x8C, 0x00, 0x78, 0x0B]]) =
      some (.budget (fr .chassis [0x02, 0x58, 0x00, 0xD2, 0x00, 0x8C, 0x00, 0x78, 0x0B])) := by decide +kernel

/-- R158: a transaction of zeros is a NOP; a wrong CRC byte, a short frame and a length above 28 are BAD_FRAME. -/
theorem test_frames_of_R158 :
    decodeTransaction .cab [0, 0, 0] = some (.nop (fr .cab [])) ∧
      decodeTransaction .cab [0, 0, 1] = some (.badFrame .cab [0, 0, 1]) ∧
      decodeTransaction .cab [0, 0] = some (.badFrame .cab [0, 0]) ∧
      decodeTransaction .cab (0 :: 29 :: List.replicate 30 0) = some (.badFrame .cab (0 :: 29 :: List.replicate 30 0)) ∧
      decodeTransaction .cab [] = none := by decide +kernel

/-- R159: a register of one bit set, stepped: 01 gives 2F after the eighth step, and the polynomial is not reflected. -/
theorem test_crc_of_one_byte : crc [0x01] = 0x2F ∧ crc [0x00, 0x00] = 0x00 ∧ crc [0x02] = 0x5E := by decide +kernel

/-- R183, R184: ARM_SET LEFT DEPLOY 450 and TRAVEL_REQ SWEEP FWD 4500 by their bytes. -/
theorem test_requests_by_their_bytes :
    decodeTransaction .cab ([0x44, 4, 0, 0, 0x01, 0xC2] ++ [crc [0x44, 4, 0, 0, 0x01, 0xC2]]) =
      some (.armSetDeploy (fr .cab [0, 0, 0x01, 0xC2])) ∧
    decodeTransaction .cab ([0x40, 4, 1, 0, 0x11, 0x94] ++ [crc [0x40, 4, 1, 0, 0x11, 0x94]] ++ [0, 0]) =
      some (.travelReq ⟨.cab, [1, 0, 0x11, 0x94], 2⟩) ∧
    decodeTransaction .route ([0x53, 1, 4] ++ [crc [0x53, 1, 4]]) = some (.pgmStart (fr .route [4])) := by decide +kernel

/-! ## The queue -/

theorem test_step_takes_the_front : step { ready with pending := [.uptimeTick, .travelUpdate] } =
    exec .uptimeTick { ready with pending := [.travelUpdate] } := rfl

theorem test_step_idles : step State.reset = .next State.reset := rfl

/-! ## Ports: section 9.8 -/

/-- Transactions 1 and 2: a NOP after EMPTY leaves OK with code 0; NOTICE_READ empties the set. -/
theorem test_nop_leaves_ok : answer .cab (after (.nop (fr .cab [])) ready) = (.ok, 0) ∧
    (after (.nop (fr .cab [])) ready).ports.cab.shifted = [0x02, 0, 0] := by decide +kernel

theorem test_notice_read_empties : (after (.noticeRead (fr .cab [])) (ready.post .cfgDone)).ports.cab.notices = 0 ∧
    (after (.noticeRead (fr .cab [])) (ready.post .cfgDone)).ports.route.notices ≠ 0 := by decide +kernel

/-- Transaction 4: a frame damaged in transit is answered CRC with the code of CLAIM. -/
theorem test_damaged_claim : answer .cab (after (.badFrame .cab [0x41, 1, 0, 0]) ready) = (.crc, 0x41) := by decide +kernel

/-- Transactions 6 and 7: the parts of READ_LANES. -/
theorem test_read_lanes_is_held : ((after (.readLanes (fr .cab [])) ready).ports.cab.held.map (·.next)) = some 1 ∧
    ((after (.readLanes (fr .cab [])) ready).ports.cab.response.payload.take 2) = [0, 4] := by decide +kernel

/-! ## Counter Unit: section 1.6 -/

def gateCase (ch : ChanId) (x : Channel) (s : State) : State :=
  s.setChan ch { x with enabled := true, gateTimer := some 0 }

/-- 1.6.1: 250 counts of the GND pitch in 50 ms across a wrap; 1.6.3: −3 counts of SLEWL in 50 ms give −60 counts/s. -/
theorem test_gates :
    ((after (.gateExpiry .gnd) (gateCase .gnd { Channel.reset with hw := 114, ext := 1, gateRef := 65400 } ready)).chan
      .gnd).speed = 250 * (ready.params.pitchGnd : Int) / 50 ∧
    ((after (.gateExpiry .slewl) (gateCase .slewl { Channel.reset with hw := 65533, ext := 65535 } ready)).chan
      .slewl).speed = -60 := by decide +kernel

/-- 1.6.2: the fourth count down from 3 reads −1. -/
theorem test_quadrature_down_wraps :
    ((after (.quadratureChange .gnd false true) (ready.setChan .gnd { Channel.reset with enabled := true })).chan
      .gnd).count = -1 := by decide +kernel

/-- 1.6.4: the index clears the count at −40 and homes the channel. -/
theorem test_index_homes :
    ((after (.indexActive .left) (ready.setChan .slewl
      { Channel.reset with enabled := true, hw := 65496, ext := 65535 })).chan .slewl) =
      { Channel.reset with enabled := true, homed := true, index := true, gateTimer := some 50 } := by decide +kernel

/-- 1.6.5: the twentieth expiry sets the fault and turns the source to TMOT. -/
theorem test_ground_fault_at_the_twentieth_expiry :
    ((after (.gateExpiry .gnd) { (gateCase .gnd Channel.reset (ready.setChan .tmot { Channel.reset with speed := 1800 }))
      with ctu := { (gateCase .gnd Channel.reset (ready.setChan .tmot { Channel.reset with speed := 1800 })).ctu with
        persistence := 950 } }).ctu.groundFault,
     (after (.gateExpiry .gnd) { (gateCase .gnd Channel.reset (ready.setChan .tmot { Channel.reset with speed := 1800 }))
      with ctu := { (gateCase .gnd Channel.reset (ready.setChan .tmot { Channel.reset with speed := 1800 })).ctu with
        persistence := 950 } }).measured) = (true, 1800) := by decide +kernel

/-! ## Power Budget Allocator: sections 2.7 and 2.8 -/

/-- The publications and pressures of section 2.7, with a budget of 600 pu. -/
def section27 : State :=
  let s := { ready with pba := { ready.pba with
    available := 600, pressTraction := 210, pressImplement := 140, pressFan := 120, freshness := .fresh
    allocTimer := some 0 } }
  withReq .trac (ask 350 80 0) (withReq .main (ask 120 60 512) (withReq .fan (ask 200 150 1000)
    (withReq .arml (ask 60 30 256) (withReq .spry (ask 20 10 85) (withPickup { Pickup.reset with state := .working }
      { s with spc := { s.spc with banks := { s.spc.banks with b2 := { Bank.reset with enabled := true } } } })))))

theorem test_worked_allocation :
    (lanesUp.map fun l => ((after .allocationPeriodExpiry section27).pba.lane l).out) =
      [⟨.part, 240, 685⟩, ⟨.full, 120, 514⟩, ⟨.full, 200, 1000⟩, ⟨.part, 30, 128⟩, ⟨.idle, 0, 0⟩, ⟨.part, 10, 42⟩] ∧
    (after .allocationPeriodExpiry section27).pba.slack = 0 ∧
    (after .allocationPeriodExpiry section27).spc.pumpLevel = 860 := by decide +kernel

/-- 2.8: on the fallback SPRY and ARML are shed. -/
theorem test_shedding_on_the_fallback :
    let t := after .allocationPeriodExpiry { section27 with pba := { section27.pba with freshness := .stale } }
    (lanesUp.map fun l => (t.pba.lane l).out.grant) = [81, 65, 154, 0, 0, 0] ∧ (t.pba.lane .spry).out.state = .starved ∧
      t.pba.shedCount = 2 := by decide +kernel

theorem test_budget_is_limited :
    (after (.budget (fr .chassis [0x0B, 0xB8, 0, 210, 0, 140, 0, 120, 0x80])) ready).pba.available = 2500 ∧
      (after (.budget (fr .chassis [0x0B, 0xB8, 0, 210, 0, 140, 0, 120, 0x80])) ready).pba.ambient = none ∧
      answer .chassis (after (.budget (fr .chassis [0x0B, 0xB8, 0, 210, 0, 140, 0, 120, 0x80])) ready) =
        (.clamped, 0x38) := by decide +kernel

/-! ## Profiles: section 3.6 -/

theorem test_forward_curve : [200, 300, 799, 800, 1200, 2000, 2500, 3000].map profile2.mainCurve.forward =
    [60, 60, 89, 90, 107, 125, 130, 130] := by decide +kernel

theorem test_inverse_curves : [59, 60, 100, 125, 129, 130].map profile2.mainCurve.inverse =
      [some 300, some 300, some 1033, some 2000, some 2400, none] ∧
    [79, 80, 95, 100, 120, 140].map profile2.armCurve.inverse =
      [some 300, some 300, some 675, some 1500, some 2000, none] := by decide +kernel

/-- 3.6.3: selecting an invalid profile is refused with RANGE. -/
theorem test_select_invalid : answer .cab (after (.profileSelect (fr .cab [1])) ready) = (.range, 0x48) := by
  decide +kernel

/-! ## An event before the expiry it forestalls -/

/-- A FRESH budget whose freshness timer has run out. -/
def aged : State := { ready with pba := { ready.pba with freshness := .fresh, freshTimer := some 0 } }

/-- R25: with the BUDGET first, the freshness expiry does not happen; without it, the budget is STALE. -/
theorem test_budget_before_its_expiry :
    (after .freshnessExpiry (after (.budget (fr .chassis [2, 0x58, 0, 210, 0, 140, 0, 120, 11])) aged)).pba.freshness =
        .fresh ∧
      (after .freshnessExpiry aged).pba.freshness = .stale := by decide +kernel

/-- R168: with the frame first, the silence expiry does not happen; without it, the port is SILENT. -/
theorem test_frame_before_its_expiry :
    let s := ready.setPort .cab { ready.port .cab with silenceTimer := some 0 }
    ((after (.silenceTimerExpiry .cab) (after (.nop (fr .cab [])) s)).ports.cab.link,
      (after (.silenceTimerExpiry .cab) s).ports.cab.link) = (.active, .silent) := by decide +kernel

/-- R170: a port in port reset answers zeros. -/
theorem test_port_reset_answers_zeros :
    let s := ready.setPort .cab { ready.port .cab with response := { status := .ok, code := 7, payload := [1] } }
    ((after (.nop (fr .cab [])) (after (.prstnAsserted .cab) s)).ports.cab.shifted,
      (after (.prstnAsserted .cab) (after (.nop (fr .cab [])) s)).ports.cab.shifted) = ([0, 0, 0], []) := by decide +kernel

/-! ## Travel Governor: section 4.9 -/

def sweeping (requested commanded : Nat) (s : State) : State :=
  swept (withTgv { Tgv.reset with
    mode := .sweep, reqSpeed := requested, commandedSpeed := commanded, updateTimer := some 0 } s)

/-- 4.9.1: a request above the segment cap is limited. -/
theorem test_travel_request_limited :
    (after (.travelReq (fr .cab [1, 0, 0x11, 0x94]))
      (withTgv { (sweeping 0 0 ready).tgv with segCap := some 2500 } (sweeping 0 0 ready))).tgv.reqSpeed = 2500 := by
  decide +kernel

/-- 4.9.3: after the release a request above zero is refused. -/
theorem test_travel_request_awaiting_zero :
    answer .cab (after (.travelReq (fr .cab [1, 0, 0x05, 0xDC]))
      (withTgv { (sweeping 0 1192 ready).tgv with awaitingZero := true } (sweeping 0 1192 ready))) = (.state, 0x40) := by
  decide +kernel

/-- 4.9.2, update 202: PART with 100 pu caps at 833, the speed falls to 992, the level is 1016 and the demand 126. -/
theorem test_travel_update_on_a_short_grant :
    let t := after .travelUpdate (withOut .trac ⟨.part, 100, 0⟩ (sweeping 1500 1000 ready))
    (t.tgv.tractionCap, t.tgv.targetSpeed, t.tgv.commandedSpeed, t.tgv.pumpFwd, (t.pba.lane .trac).req.demand) =
      (some 833, 833, 992, 1016, 126) := by decide +kernel

/-- 4.9.3, update 1: under STOPIN the step is 20. -/
theorem test_travel_update_under_stopin :
    let t := after .travelUpdate { sweeping 2000 2000 ready with stopin := true }
    (t.tgv.targetSpeed, t.tgv.commandedSpeed, t.tgv.pumpFwd) = (0, 1980, 2027) := by decide +kernel

/-! ## Arm Controller: section 5.10 -/

def armSt (st : ArmState) : Arm := { Arm.reset with state := st }

/-- 5.10.1: DEPLOY 450 of an arm that is not homed. -/
theorem test_deploy_not_homed :
    let t := after (.armSetDeploy (fr .cab [0, 0, 0x01, 0xC2])) (withClt .cab ready)
    (t.arc.left.state, t.arc.left.slewTarget, t.arc.left.deployPending, answer .cab t) =
      (.homing, 1800, true, (.ok, 0x44)) := by decide +kernel

/-- 5.10.1: the update at position 1700 slews at 1600. -/
theorem test_arm_update_slews :
    let s := (swept ready).setArm .left { armSt .deploying with slewTarget := 1800 }
    let s := s.setChan .slewl { Channel.reset with enabled := true, homed := true, hw := 1700 }
    let t := after .armUpdate { s with arc := { s.arc with updateTimer := some 0 } }
    (t.arc.left.slewPlus, t.arc.left.slewMinus, t.arc.left.onTarget) = (1600, 0, false) := by decide +kernel

/-- 5.10.2, update n: 37 pu for ARML give 98 rpm, level 1618 and a cap of 750. -/
theorem test_arm_update_on_a_short_grant :
    let s := swept (withTgv { Tgv.reset with mode := .sweep, targetSpeed := 2000 } ready)
    let s := (s.setArm .left (armSt .working)).setChan .slewl { Channel.reset with enabled := true, homed := true }
    let s := withOut .arml ⟨.part, 37, 158⟩ { s with pba := { s.pba with pressImplement := 140 } }
    let t := after .armUpdate { s with arc := { s.arc with updateTimer := some 0 } }
    (t.arc.left.rpm, t.arc.left.brushLevel, t.arc.cap, (t.pba.lane .arml).req) =
      (98, 1618, some 750, ask 45 30 192) := by decide +kernel

/-- R90: both switches of a unit active outside FAULT. -/
theorem test_both_switches :
    let t := after (.positionSwitchChange .left .down true) (ready.setArm .left { armSt .working with upSw := true })
    (t.arc.left.state, t.arc.left.cause) = (.fault, .switch) := by decide +kernel

/-- R96: the down switch takes the pickup into WORKING. -/
theorem test_pickup_lowered :
    (after (.positionSwitchChange .pickup .down true) (withPickup { Pickup.reset with state := .lowering }
      ready)).arc.pickup.state = .working := by decide +kernel

/-! ## Claims: section 6.8.1 -/

theorem test_take_lends : (after (.take (fr .cab [2])) (withClt .program ready)).clt.pickup = .lent := by decide +kernel

theorem test_claim_of_a_program_entry :
    answer .cab (after (.claim (fr .cab [2])) (withClt .program ready)) = (.claimed, 0x41) := by decide +kernel

/-! ## Spray Controller: section 7.9 -/

/-- A bank in its pulse, every term true. -/
def openBank (openTime remainder : Nat) : Bank :=
  { Bank.reset with
    enabled := true, dose := some 40, doseInEffect := 40, width := 100, valve := true, pulseTimer := some 0
    openTime := openTime, remainder := remainder
    terms := { t1 := true, t2 := true, t3 := true, t4 := true, t5 := true, t6 := true, t7 := true } }

/-- Bank 0 and bank 2 spraying, at the reserve but for 4 mL. -/
def section793 : State :=
  let s := (ready.setChan .gnd { Channel.reset with speed := 2000 }).setArm .left (armSt .working)
  let s := withOut .spry ⟨.full, 20, 85⟩ (withPickup { Pickup.reset with state := .working } s)
  { s with
    pba := { s.pba with ambient := some 11 }
    spc := { s.spc with
      estimate := 100004
      banks := { s.spc.banks with b0 := openBank 40 700, b2 := openBank 63 0 } } }

/-- 7.9.3: the expiry at bank 0 takes the estimate to the reserve, and bank 2 closes with it. (Both nozzle flows at the
default here.) -/
theorem test_reaching_the_reserve :
    let t := after (.pulseTimerExpiry .b0) section793
    (t.spc.banks.b0.valve, t.spc.banks.b0.remainder, t.spc.banks.b0.firstFailing, t.spc.banks.b2.valve,
      t.spc.banks.b2.firstFailing) = (false, 700, some .t2, false, some .t2) := by decide +kernel

/-- R122: with the distance mark first, the pulse expiry of the retriggered bank does not happen. -/
theorem test_mark_before_the_expiry :
    (after (.pulseTimerExpiry .b0) section793.distanceMark).spc.banks.b0.valve = true := by decide +kernel

/-- 7.9.2: STOPIN closes the valves and keeps the enables. -/
theorem test_stopin_closes :
    let t := after .stopinAsserted section793
    (t.spc.banks.b0.valve, t.spc.banks.b2.valve, t.spc.banks.b2.enabled, t.arc.pickup.state) =
      (false, false, true, .raising) := by decide +kernel

theorem test_tank_is_limited : (after (.tank (fr .chassis [0x00, 0x4C, 0x4B, 0x40])) ready).spc.estimate = 4000000 := by
  decide +kernel

/-- 7.9: a dose of 40 at 250 mm and 100 mL/s is a pulse of 100 ms. -/
theorem test_pulse_width : widthOf 40 250 100 = 100 := by decide +kernel

/-! ## Segment Engine: section 8.12, and the plan -/

def runSettings : Settings :=
  { speedCap := none, profile := 0, left := .work, leftAngle := some 450, right := .work, rightAngle := some 450,
    pickup := .work, spray := some 15, dose := none }

def planned (e : EndAction) (last : Bool) : Descriptor :=
  { owner := .engine, request := { lengthMm := 50000, settings := runSettings, endAction := e, last := last },
    result := none }

/-- A program in a state, its descriptor 0 current. -/
def program (st : EngineState) (d next : Descriptor) : State :=
  withClt .program (swept (withSge { Sge.reset with
    ring := (Sge.reset.ring.set 0 d).set 1 next, state := st, present := true, settings := some runSettings } ready))

/-- 8.12.1: STOPIN suspends a running program and marks its segment. -/
theorem test_stopin_suspends :
    let t := after .stopinAsserted (program .running (planned .cont false) (planned .cont false))
    (t.sge.state, t.sge.suspendCause, t.sge.returnState, t.sge.figures.flags.stoppedByInput) =
      (.suspended, .stopInput, .running, true) := by decide +kernel

/-- 8.12.2: an abort in STOPPING writes the descriptor back ABORTED and frees the entries. -/
theorem test_abort_of_a_stop :
    let t := after (.pgmAbort (fr .route [])) (program .stopping (planned .stop false) Descriptor.reset)
    ((t.sge.ring.get 0).owner, (t.sge.ring.get 0).result.map (·.status), t.sge.endKind, t.clt.armL, t.tgv.awaitingZero) =
      (.master, some .aborted, .abort, .free, false) := by decide +kernel

/-- 6.8.1: PGM_START of a plan takes the free entries and lends the cab's. -/
theorem test_start_takes_the_entries :
    let s := swept (withSge { Sge.reset with ring := Sge.reset.ring.set 4 (planned .cont true) } ready)
    (after (.pgmStart (fr .route [4])) { s with clt := { s.clt with armL := .cab } }).clt =
      { armL := .lent, armR := .program, pickup := .program, spray := .program } := by decide +kernel

/-! ## Configuration Store: section 10.6 -/

theorem test_cfg_write_47 : ((after (.cfgWrite (fr .chassis [47, 0, 0, 0x0B, 0xB8])) ready).cfs.pendingSet.val 47,
    (after (.cfgWrite (fr .chassis [47, 0, 0, 0x0B, 0xB8])) ready).params.val 47) = (3000, 2000) := by decide +kernel

/-- R130, R120: a commit computes the widths anew from the spray interval it brings in: 40 mL/m at 500 mm and 100 mL/s. -/
theorem test_commit_recomputes_the_widths :
    let s := { ready with spc := { ready.spc with banks := { ready.spc.banks with
      b3 := { Bank.reset with dose := some 40, doseInEffect := 40, width := 100 } } } }
    (after (.cfgCommit (fr .chassis [])) (after (.cfgWrite (fr .chassis [16, 0, 0, 1, 0xF4])) s)).spc.banks.b3.width = 200 := by
  decide +kernel

theorem test_commit_names_the_fallback :
    (after (.cfgCommit (fr .chassis [])) (after (.cfgWrite (fr .chassis [28, 0, 0, 0x0A, 0xF0]))
      ready)).cfs.commitResult = .fallback := by decide +kernel

/-! ## Witnesses: states and operands that meet the hypotheses of the statements

Where a hypothesis only names a value (`v = …`, `∀ i, f i = …`), the value itself is the witness and is not written out. -/

/-- `ready` with a port held in port reset. -/
def portDown (p : PortId) : State := ready.setPort p { ready.port p with inReset := true }

/-- `ready` with a slew channel homed. -/
def homed (side : Side) (s : State) : State := s.setChan (slewChan side) { Channel.reset with enabled := true, homed := true }

def stopped (s : State) : State := { s with stopin := true }

def held (s : State) : State := { s with rstnHeld := true }

def armClock (s : State) : State := { s with arc := { s.arc with updateTimer := some 0 } }

def allocClock (s : State) : State := { s with pba := { s.pba with allocTimer := some 0 } }

/-- The cab port's silence timer has run out and its expiry is due. -/
def unheard (s : State) : State := s.setPort .cab { s.port .cab with silenceTimer := some 0 }

theorem witness_StepTakesFront : ({ ready with pending := [.uptimeTick] } : State).pending = .uptimeTick :: [] := rfl

theorem witness_CommandsComplete : Instr.uptimeTick.wf = true ∧ (Instr.badFrame .cab [0]).wf = true ∧
    (Instr.descWrite (fr .cab (List.replicate 28 0))).wf = true ∧ goesOn (.badFrame .cab [0]) State.reset = true := by
  decide +kernel

theorem witness_FullResetAndRelease : (held ready).rstnHeld = true ∧ ready.rstnHeld = false := by decide +kernel

theorem witness_TransactionsRoundTrip :
    (Instr.noticeMask (fr .cab (List.replicate 28 255))).wf = true ∧
      (Instr.noticeMask (fr .cab (List.replicate 28 255))).request.isSome = true ∧
      (Instr.badFrame .route [0xFF]).wf = true ∧ 3 ≤ 3 := by decide +kernel

theorem witness_PortTests :
    (Instr.claim (fr .cab [0])).request = some (Cmd.claim.code, fr .cab [0]) ∧ (held ready).rstnHeld = true ∧
      ((portDown .cab).ports.get .cab).inReset = true ∧ (Instr.badFrame .cab [0]).wf = true ∧
      ready.rstnHeld = false ∧ (ready.ports.get .chassis).inReset = false ∧
      (fr .cab []).payload.length ≠ Cmd.claim.reqLen ∧ (fr .chassis [0]).payload.length = Cmd.claim.reqLen ∧
      Cmd.claim.allowed .chassis = false ∧ Cmd.claim.allowed .cab = true ∧ State.reset.cfs.ready = false ∧
      Cmd.claim.inUnconfigured = false := by decide +kernel

theorem witness_BadAndUnknownFrames :
    ready.rstnHeld = false ∧ (ready.ports.get .cab).inReset = false ∧ [0, 0].length < 3 ∧
      28 < (([0, 29, 0] : List Byte).getD 1 0).toNat ∧
      (0 :: 28 :: List.replicate 28 0 : List Byte).length < ((0 :: 28 :: List.replicate 28 0 : List Byte).getD 1 0).toNat + 3 ∧
      (([0, 0, 1] : List Byte).getD 1 0).toNat + 3 ≤ ([0, 0, 1] : List Byte).length ∧
      ([0, 0, 1] : List Byte).getD 2 0 ≠ crc ([0, 0, 1].take 2) ∧
      (0 :: 28 :: List.replicate 29 1 : List Byte).getD 30 0 ≠ crc ((0 :: 28 :: List.replicate 29 1).take 30) := by
  decide +kernel

theorem witness_UnknownFrames : ∀ c : Cmd, c.code ≠ 0x03 ∧ c.code ≠ 0xFF := by intro c; cases c <;> decide

theorem witness_LongReads : ready.hears .nop (fr .cab []) ∧ (ready.port .cab).held = none ∧
    (after (.readLanes (fr .cab [])) ready).hears .nop (fr .cab []) ∧
    ((after (.readLanes (fr .cab [])) ready).port .cab).held.isSome = true ∧
    28 < (List.replicate 29 0 : List Byte).length := by decide +kernel

theorem witness_ReadsAnswered :
    ready.hears .readCount (fr .cab [7]) ∧ chanOf 7 = some .fan ∧ chanOf 0 = some .gnd ∧
      ready.hears .readSnap (fr .route []) ∧ (ready.ctu.snaps.get .route).empty = true ∧
      (after (.snapshot (fr .route [])) ready).hears .readSnap (fr .route []) ∧
      ((after (.snapshot (fr .route [])) ready).ctu.snaps.get .route).empty = false ∧
      ready.hears .readLanes (fr .cab []) := by decide +kernel

theorem witness_OtherReadsAnswered :
    ready.hears .profileRead (fr .cab [7]) ∧ profileIndexOf 7 = some 7 ∧
      ready.hears .travelRead (fr .cab []) ∧ ready.hears .armRead (fr .cab []) ∧ ready.hears .claimRead (fr .cab []) ∧
      ready.hears .sprayRead (fr .cab []) ∧ ready.hears .descRead (fr .cab [31]) ∧ descIndexOf 31 = some 31 ∧
      ready.hears .pgmRead (fr .cab []) ∧ ready.hears .cfgRead (fr .cab [63]) ∧ paramIdOf 63 = some 63 ∧
      paramIdOf 0 = some 0 := by decide +kernel

theorem witness_ReadsRefused :
    ready.hears .readCount (fr .cab [8]) ∧ ready.hears .profileRead (fr .route [255]) ∧ 8 ≤ (8 : Byte).toNat ∧
      ready.hears .descRead (fr .cab [32]) ∧ 32 ≤ (32 : Byte).toNat ∧ ready.hears .cfgRead (fr .cab [64]) ∧
      64 ≤ (64 : Byte).toNat := by decide +kernel

theorem witness_ReadContentLayout :
    profile2.s1 < 4096 ∧ profile2.s3 < 4096 ∧ profile2.m1 < 4096 ∧ profile2.m3 < 4096 ∧ profile2.a1 < 4096 ∧
      profile2.a3 < 4096 ∧ profile2.fanRpm < 4096 ∧ profile2.dose.b1 < 4096 ∧ profile2.dose.b3 < 4096 ∧
      (ready.sge.ring.get 0).result = none ∧ ready.sge.settings = none ∧
      (program .running (planned .cont true) Descriptor.reset).sge.settings = some runSettings ∧
      ((after (.pgmAbort (fr .route [])) (program .stopping (planned .stop false) Descriptor.reset)).sge.ring.get 0).result =
        some { status := .aborted, figures := Sge.reset.figures } := by decide +kernel

theorem witness_Notices : ready.hears .noticeRead (fr .cab []) ∧ ready.hears .noticeMask (fr .cab [0x02, 0, 0]) ∧
    131072 ≤ u24 0x02 0x00 0x00 ∧ u24 0x01 0xFF 0xFF < 131072 ∧ ready.hears .noticeMask (fr .cab [1, 255, 255]) := by
  decide +kernel

theorem witness_SnapshotAndSetCount :
    ready.hears .snapshot (fr .cab []) ∧ ready.hears .setCount (fr .chassis [0, 0xFF, 0xFF, 0xFF, 0xFF]) ∧
      (0xFFFFFFFF : Word).toNat = u32 0xFF 0xFF 0xFF 0xFF ∧ (ready.chan .gnd).enabled = false ∧
      (homed .left ready).hears .setCount (fr .chassis [5, 0, 0, 0, 0]) ∧ (0 : Word).toNat = u32 0 0 0 0 ∧
      ((homed .left ready).chan .slewl).enabled = true := by decide +kernel

theorem witness_ChannelCommands :
    ready.hears .chEnable (fr .chassis [5]) ∧ (ready.chan .slewl).enabled = false ∧
      (homed .left ready).hears .chEnable (fr .chassis [5]) ∧ ((homed .left ready).chan .slewl).enabled = true ∧
      ready.hears .chDisable (fr .chassis [5]) ∧ (homed .left ready).hears .chDisable (fr .chassis [5]) ∧
      ready.hears .chClear (fr .chassis [7]) ∧ 8 ≤ (8 : Byte).toNat ∧ ready.hears .chEnable (fr .chassis [8]) ∧
      ready.hears .chDisable (fr .chassis [8]) ∧ ready.hears .setCount (fr .chassis [8, 0, 0, 0, 0]) ∧
      ready.hears .chClear (fr .chassis [255]) := by decide +kernel

/-- `ready` with a TMOT speed, a persistence and a ground fault. -/
def grounded (v : Int) (n : Nat) (fault cond : Bool) : State :=
  let s := ready.setChan .tmot { Channel.reset with speed := v }
  { s with ctu := { s.ctu with persistence := n, groundFault := fault, condition := cond } }

theorem witness_GroundFault :
    500 < ((grounded 501 950 false false).chan .tmot).speed.natAbs ∧
      500 < ((grounded (-501) 950 false false).chan .tmot).speed.natAbs ∧
      ¬500 < ((grounded 500 950 false false).chan .tmot).speed.natAbs ∧
      1000 ≤ (grounded 501 950 false false).ctu.persistence + ready.params.gate .gnd ∧
      (grounded 501 949 false false).ctu.persistence + ready.params.gate .gnd < 1000 ∧
      (grounded 501 950 true false).ctu.groundFault = true ∧ (grounded 501 950 true false).ctu.condition = false ∧
      (grounded 501 950 true true).ctu.condition = true ∧ (grounded 0 0 false false).ctu.groundFault = false ∧
      (grounded 0 0 true true).hears .gndFaultClear (fr .chassis []) := by decide +kernel

def counting : State := ready.setChan .gnd { Channel.reset with enabled := true }

theorem witness_EdgesCount :
    (held counting).rstnHeld = true ∧ (ready.chan .gnd).enabled = false ∧
      (({ Channel.reset with enabled := true, index := true } : Channel).levelA = true ↔ false = true) ∧
      ((homed .left ready).setChan .slewl { Channel.reset with enabled := true, index := true }).countHeld .slewl =
        true ∧
      counting.rstnHeld = false ∧ (counting.chan .gnd).enabled = true ∧ counting.countHeld .gnd = false ∧
      ((counting.chan .gnd).levelA ≠ true ∧ (counting.chan .gnd).levelB = false ∧ true = !false) ∧
      ((counting.chan .gnd).levelA = false ∧ (counting.chan .gnd).levelB ≠ true ∧ false = !true) ∧
      ((ready.setChan .fan { Channel.reset with enabled := true }).chan .fan).enabled = true ∧
      (ready.chan .fan).enabled = false := by decide +kernel

theorem witness_ForwardCount : ready.ctu.markProgress < ready.params.sprayInterval ∧
    ({ ready with ctu := { ready.ctu with markProgress := ready.params.sprayInterval - 1 } } : State).ctu.markProgress <
      ready.params.sprayInterval := by decide +kernel

theorem witness_Index :
    (homed .left ready).rstnHeld = false ∧ ((homed .left ready).chan .slewl).enabled = true ∧
      (homed .left ready).params.indexClear .left = true ∧ ((homed .left ready).chan .slewl).index = false ∧
      (ready.chan .slewl).enabled = false ∧ (held ready).rstnHeld = true ∧
      ((after (.indexActive .left) (homed .left ready)).chan .slewl).index = true := by decide +kernel

theorem witness_GateExpiry :
    ((gateCase .gnd Channel.reset ready).chan .gnd).enabled = true ∧
      ((gateCase .gnd Channel.reset ready).chan .gnd).gateTimer = some 0 ∧
      ((gateCase .fan Channel.reset ready).chan .fan).enabled = true ∧ (ready.chan .gnd).enabled = false ∧
      (counting.chan .gnd).gateTimer ≠ some 0 := by decide +kernel

theorem witness_UptimeTick : (held ready).rstnHeld = true ∧ ready.rstnHeld = false := by decide +kernel

theorem witness_Budget : ready.hears .budget (fr .chassis [0x09, 0xC4, 1, 0xF4, 1, 0xF4, 1, 0xF4, 85]) ∧
    ready.hears .budget (fr .chassis [0x09, 0xC5, 0, 0, 0, 0, 0, 0, 0x80]) ∧ ready.hears .lanesClear (fr .chassis []) ∧
    (aged.pba.freshness = .fresh ∧ aged.pba.freshTimer = some 0) ∧
    ¬(ready.pba.freshness = .fresh ∧ ready.pba.freshTimer = some 0) := by
  decide +kernel

theorem witness_Allocation : section27.pba.allocTimer = some 0 ∧ goesOn .allocationPeriodExpiry section27 = true ∧
    ready.pba.allocTimer ≠ some 0 ∧ (section27.pba.lane .armr).req.active = false ∧
    (section27.pba.lane .trac).req.active = true ∧
    ((after .allocationPeriodExpiry section27).pba.lane .trac).out.state = .part ∧
    ((after .allocationPeriodExpiry section27).pba.lane .main).out.state = .full ∧
    ((after .allocationPeriodExpiry section27).pba.lane .armr).out.state = .idle ∧
    ((after .allocationPeriodExpiry { section27 with pba := { section27.pba with freshness := .stale } }).pba.lane
      .spry).out.state = .starved := by decide +kernel

/-- A lane that was shed and asks again: the hypotheses on a STARVED lane, re-admitted at 600 pu. -/
theorem witness_Readmission :
    ((allocClock (withOut .spry ⟨.starved, 0, 0⟩ section27)).pba.lane .spry).out.state = .starved ∧
      ((after .allocationPeriodExpiry (allocClock (withOut .spry ⟨.starved, 0, 0⟩ section27))).pba.lane
        .spry).out.state ≠ .starved := by decide +kernel

/-- Section 2.7: TRAC is served, and the rest that its class finds is 160 against extras of 270. -/
theorem witness_Distribution :
    (section27.budgetInEffect, ([.trac, .main, .fan, .arml, .spry] : List LaneId)) = (160 + 330 + 110,
      lanesUp.filter fun l => ((after .allocationPeriodExpiry section27).pba.lane l).out.state.served) := by
  decide +kernel

theorem witness_Curves : profile2.mainCurve.s0 < profile2.mainCurve.s1 ∧ profile2.mainCurve.s1 < profile2.mainCurve.s2 ∧
    profile2.mainCurve.s2 < profile2.mainCurve.s3 ∧ profile2.mainCurve.r0 ≤ profile2.mainCurve.r1 ∧
    profile2.mainCurve.r1 ≤ profile2.mainCurve.r2 ∧ profile2.mainCurve.r2 ≤ profile2.mainCurve.r3 ∧
    profile2.armCurve.r1 = profile2.armCurve.r2 ∧ profile2.armCurve.r2 < profile2.armCurve.r3 := by decide +kernel

theorem witness_Divisions : (0 : Int) < 2 ∧ roundDiv 1 2 % 2 = 0 ∧ 2 * (roundDiv 1 2 * 2 - 1) = -2 ∧
    2 * (roundDiv 3 2 * 2 - 3) = 2 ∧ (0 : Nat) < 1 := by decide +kernel

theorem witness_Profiles :
    ready.hears .profileSelect (fr .cab [8]) ∧ 8 ≤ (8 : Byte).toNat ∧ ready.sge.state = .idle ∧
      (program .running (planned .cont true) Descriptor.reset).hears .profileSelect (fr .cab [0]) ∧
      (program .running (planned .cont true) Descriptor.reset).sge.state ≠ .idle ∧
      (ready.pft.profiles.get 7).valid = false ∧ (swept ready).hears .profileSelect (fr .cab [0]) ∧
      ((swept ready).pft.profiles.get 0).valid = true ∧ (swept ready).pft.active = 0 ∧
      ({ (swept ready).pft with active := 7 } : Pft).active ≠ 0 ∧
      ready.hears .profileWrite (fr .route (7 :: List.replicate 27 0)) ∧ (swept ready).profileInUse 0 = true ∧
      (swept ready).profileInUse 7 = false ∧ profile2.ok = true ∧ Profile.invalid.ok = false ∧
      (swept ready).spc.banks.b0.dose = none ∧ (swept ready).spc.banks.b0.doseInEffect ≠ (swept ready).profile.dose.b0 :=
  by decide +kernel

theorem witness_TravelRequests :
    ready.hears .travelReq (fr .cab [3, 0, 0, 0]) ∧ 3 ≤ (3 : Byte).toNat ∧ 2 ≤ (2 : Byte).toNat ∧
      modeOf 2 = some .transport ∧ modeOf 0 = some .parked ∧ directionOf 1 = some .rev ∧
      (sweeping 0 0 ready).hears .travelReq (fr .cab [1, 0, 0xFF, 0xFF]) := by decide +kernel

theorem witness_TravelUpdate :
    (sweeping 1500 0 ready).tgv.updateTimer = some 0 ∧ ready.tgv.updateTimer ≠ some 0 ∧
      (stopped (sweeping 1500 0 ready)).stopin = true ∧ (sweeping 1500 0 ready).tgv.stopRequest = false ∧
      (let s := program .stopping (planned .stop false) Descriptor.reset
       let g : Tgv := { Tgv.reset with stopRequest := true, updateTimer := some 0 }
       ((withTgv g s).tgv.stopRequest, (withTgv g s).tgv.stopReported, (withTgv g s).measured, s.sge.state)) =
        (true, false, 0, .stopping) := by decide +kernel

theorem witness_Claims :
    ready.hears .claim (fr .cab [3]) ∧ resourceOf 3 = some .spray ∧ resourceOf 0 = some .armL ∧
      ready.hears .take (fr .cab [0]) ∧ ready.hears .release (fr .cab [0]) ∧ 4 ≤ (4 : Byte).toNat ∧
      (withClt .lent (program .running (planned .cont true) Descriptor.reset)).sge.settings = some runSettings ∧
      (withClt .lent (program .stopping (planned .stop true) Descriptor.reset)).sge.state = .stopping ∧
      ready.hears .claim (fr .cab [4]) ∧ ready.hears .take (fr .cab [255]) ∧ ready.hears .release (fr .cab [4]) := by
  decide +kernel

theorem witness_Gated :
    sideOf 0 = some .left ∧ sideOf 1 = some .right ∧ (ready.clt.get .armL).holder ≠ .cab ∧
      ((withClt .program ready).clt.get .armR).holder ≠ .cab ∧ ready.hears .armSet (fr .cab [0, 0, 0, 0]) ∧
      ready.hears .armClear (fr .cab [1]) ∧ 2 ≤ (2 : Byte).toNat ∧ ready.hears .armSet (fr .cab [2, 0, 0, 0]) ∧
      ready.hears .armClear (fr .cab [2]) ∧ ready.clt.pickup.holder ≠ .cab ∧ ready.hears .pickupSet (fr .cab [0]) ∧
      ready.clt.spray.holder ≠ .cab ∧ ready.hears .spraySet (fr .cab [15, 0, 40]) := by decide +kernel

/-- The cab holds everything, and the left arm is in this state. -/
def cabArm (a : Arm) : State := (withClt .cab ready).setArm .left a

theorem witness_ArmRequests :
    (∀ st ∈ ([.stowed, .homing, .deploying, .working, .lifting, .fault] : List ArmState),
      (cabArm (armSt st)).hears .armSet (fr .cab [0, 0, 0x80, 0]) ∧ (cabArm (armSt st)).arm .left = armSt st ∧
        ((cabArm (armSt st)).clt.get .armL).holder = .cab ∧ (cabArm (armSt st)).hears .armClear (fr .cab [0])) ∧
      angleOf 0x80 0x00 = none ∧ angleOf 0x01 0xC2 = some 450 ∧ (stopped (cabArm Arm.reset)).stopin = true ∧
      (cabArm Arm.reset).tgv.mode ≠ .transport ∧ ((homed .left (cabArm Arm.reset)).chan .slewl).homed = true ∧
      ((cabArm Arm.reset).chan .slewl).homed = false ∧ ready.hears .armSet (fr .cab [0, 1, 0x80, 0]) ∧
      ready.hears .armSet (fr .cab [0, 2, 0, 0]) ∧ ready.hears .armSet (fr .cab [0, 3, 0, 0]) ∧ 3 ≤ (3 : Byte).toNat ∧
      ((cabArm { armSt .fault with upSw := true, downSw := true }).arm .left).downSw = true ∧
      ((cabArm { armSt .fault with upSw := true }).arm .left).downSw = false := by decide +kernel

theorem witness_PickupRequests :
    (∀ st ∈ ([.up, .lowering, .working, .raising, .fault] : List PickupState),
      (withPickup { Pickup.reset with state := st } (withClt .cab ready)).hears .pickupSet (fr .cab [1]) ∧
        (withPickup { Pickup.reset with state := st } (withClt .cab ready)).arc.pickup.state = st) ∧
      (withClt .cab ready).clt.pickup.holder = .cab ∧ (fr .cab [0]).payload.getD 0 0 = 0 ∧
      (withClt .cab ready).hears .pickupSet (fr .cab [2]) ∧ 2 ≤ ((fr .cab [2]).payload.getD 0 0).toNat := by decide +kernel

theorem witness_SwitchesAndTimeouts :
    (ready.switchLevel .left .up = false ∧ (held ready).switchLevel .pickup .down ≠ true ∧ (held ready).rstnHeld = true) ∧
      ready.rstnHeld = false ∧ ready.switchLevel .right .down ≠ true ∧
      ({ armSt .deploying with phase := .lower, downSw := true } : Arm).state = .deploying ∧
      ((ready.setArm .left { armSt .homing with moveTimer := some 0 }).arm .left).moveTimer = some 0 ∧
      ((ready.setArm .left { armSt .lifting with moveTimer := some 0 }).arm .left).state = .lifting ∧
      (ready.arm .left).moveTimer ≠ some 0 ∧
      (withPickup { Pickup.reset with state := .lowering, moveTimer := some 0 } ready).arc.pickup.moveTimer =
        some 0 ∧ ready.arc.pickup.moveTimer ≠ some 0 := by decide +kernel

theorem witness_ArmUpdate :
    (armClock ready).arc.updateTimer = some 0 ∧ ready.arc.updateTimer ≠ some 0 ∧
      goesOn .armUpdate (armClock ready) = true ∧
      (let s := withOut .arml ⟨.part, 37, 158⟩ (homed .left ((swept (withTgv { Tgv.reset with mode := .sweep } ready)).setArm
          .left (armSt .working)))
       ((after .armUpdate (armClock s)).arc.left.state, (after .armUpdate (armClock s)).arc.cap.isSome)) =
        (.working, true) ∧
      ((after .armUpdate (armClock (withPickup { Pickup.reset with state := .working } ready))).arc.pickup.state) =
        .working := by decide +kernel

/-- One state for each way an arm can go in an update: starved, stalled, unhomed, in each phase, lifting home. -/
theorem witness_ArmUpdateMoves :
    (let s := withOut .arml ⟨.starved, 0, 0⟩ (ready.setArm .left (armSt .working))
     ((s.pba.lane .arml).out.state, (s.arm .left).state)) = (.starved, .working) ∧
      (let s := (homed .left ready).setChan .barml { Channel.reset with enabled := true, speed := 39 }
       brushStalls (s.chan .barml) 80) = true ∧
      (let s := (homed .left ready).setChan .barml { Channel.reset with enabled := true, speed := 40 }
       brushStalls (s.chan .barml) 80) = false ∧
      ready.params.stallTime ≤ 1990 + 10 ∧ 1980 + 10 < ready.params.stallTime ∧
      ((homed .left ready).chan .slewl).homed = true ∧ (ready.chan .slewl).homed = false ∧
      (({ armSt .deploying with slewTarget := ready.params.deadband } : Arm).slewTarget -
        (homed .left ready).position .left).natAbs ≤ ready.params.deadband ∧
      ({ armSt .lifting with upSw := true } : Arm).upSw = true := by decide +kernel

/-- The pickup's ways: a lane that starves it, a broom that lags behind 100 rpm, the time before and at the stall. -/
theorem witness_PickupStalls :
    let u : Pickup := { Pickup.reset with state := .working, mainRpm := 100, stallTimer := 1990 }
    let s := armClock ((withPickup u ready).setChan .bmain { Channel.reset with enabled := true, speed := 49 })
    (s.arc.pickup.state, (s.pba.lane .main).out.state, (s.chan .bmain).enabled) = (.working, .idle, true) ∧
      0 < u.mainRpm ∧ (s.chan .bmain).speed * 2 < (u.mainRpm : Int) ∧ s.params.stallTime ≤ u.stallTimer + 10 ∧
      ((after .armUpdate s).arc.pickup.cause, (after .armUpdate s).arc.pickup.stallCount) = (.stall, 1) ∧
      ((withOut .fan ⟨.starved, 0, 0⟩ s).pba.lane .fan).out.state = .starved ∧
      (program .running (planned .cont true) Descriptor.reset).sge.present = true ∧ s.sge.present = false ∧
      s.arc.pickup.upSw = false ∧ ready.arc.pickup.state ≠ .working := by decide +kernel

theorem witness_Refresh : section793.params.pumpPower ≤ 2500 ∧ section793.params.pumpFloor ≤ 2500 ∧
    (section793.spc.banks.get .b0).valve = true ∧
    ((stopped section793).sprayRefresh.spc.banks.get .b0).valve = false := by decide +kernel

theorem witness_SpraySettings : (withClt .cab ready).hears .spraySet (fr .cab [15, 0x01, 0xF5]) ∧
    (withClt .lent ready).clt.spray.holder = .cab ∧ (withClt .cab ready).clt.spray.holder = .cab ∧
    (withClt .cab ready).hears .spraySet (fr .cab [1, 0xFF, 0xFF]) := by decide +kernel

theorem witness_TankPulsesAndMarks : ready.hears .tank (fr .chassis [0, 0x3D, 0x09, 0x01]) ∧
    (section793.spc.banks.get .b0).valve = true ∧ (section793.spc.banks.get .b0).pulseTimer = some 0 ∧
    (ready.spc.banks.get .b0).pulseTimer ≠ some 0 := by decide +kernel

/-- A DESC_WRITE payload: descriptor 31, 20000 m, no cap, profile 0, arms WORK at 450, pickup WORK, all banks, no dose. -/
def descPayload : List Byte :=
  [31, 0x4E, 0x20, 0, 0, 0, 1, 0x01, 0xC2, 1, 0x01, 0xC2, 1, 15, 0xFF, 0xFF, 0, 3]

theorem witness_Descriptors :
    (swept ready).hears .descWrite (fr .route descPayload) ∧ (descFields descPayload).length = 20000 ∧
      profileIndexOf (descFields descPayload).profile = some 0 ∧ ((swept ready).pft.profiles.get 0).valid = true ∧
      armSettingOf (descFields descPayload).left = some .work ∧ armSettingOf (descFields descPayload).right = some .work ∧
      pickupSettingOf (descFields descPayload).pickup = some .work ∧ sprayOf (descFields descPayload).spray = some (some 15) ∧
      endActionOf (descFields descPayload).endAction = some .cont ∧ (ready.sge.ring.get 31).owner = .master ∧
      ((program .running (planned .cont true) Descriptor.reset).sge.ring.get 0).owner = .engine ∧
      32 ≤ (32 : Byte).toNat ∧ ready.hears .descReturn (fr .route [32]) ∧
      (descFields (List.replicate 18 0)).length < 1 ∧ ready.sge.state = .idle ∧
      (program .running (planned .cont true) Descriptor.reset).hears .descReturn (fr .route [0]) := by decide +kernel

def planReady : State := swept (withSge { Sge.reset with ring := Sge.reset.ring.set 31 (planned .cont true) } ready)

theorem witness_ProgramStarts :
    ready.hears .pgmStart (fr .cab [32]) ∧ planReady.hears .pgmStart (fr .route [31]) ∧ planReady.sge.state = .idle ∧
      planReady.stopin = false ∧ planReady.tgv.mode ≠ .transport ∧ (planReady.sge.ring.get 31).owner = .engine ∧
      (planReady.sge.ring.get 0).owner = .master ∧ (stopped planReady).stopin = true ∧
      (withClt .cab planReady).clt.armL.holder = .cab ∧ planReady.clt.armL.holder ≠ .cab ∧
      (withClt .cab planReady).clt.spray.holder = .cab ∧ planReady.clt.spray.holder ≠ .cab ∧
      ((after (.pgmStart (fr .route [31])) planReady).spc.banks.get .b0).enabled = true ∧
      (after (.pgmStart (fr .route [31])) planReady).arc.pickup.state = .lowering := by decide +kernel

/-- A suspended program with this cause and return state. -/
def suspended (c : SuspendCause) (r : ReturnState) : State :=
  let s := program .suspended (planned .cont false) (planned .cont true)
  withSge { s.sge with suspendCause := c, returnState := r } s

theorem witness_ProgramControl :
    (∀ st ∈ ([.idle, .running, .suspended, .starved, .stopping] : List EngineState),
      (program st (planned .cont false) Descriptor.reset).sge.state = st ∧
        (program st (planned .cont false) Descriptor.reset).hears .pgmPoll (fr .route []) ∧
        (program st (planned .cont false) Descriptor.reset).hears .pgmSuspend (fr .cab []) ∧
        (program st (planned .cont false) Descriptor.reset).hears .pgmResume (fr .cab []) ∧
        (program st (planned .cont false) Descriptor.reset).hears .pgmAbort (fr .route [])) ∧
      (program .starved (planned .cont false) Descriptor.reset).sge.atCursor.owner = .engine ∧
      (program .starved Descriptor.reset Descriptor.reset).sge.atCursor.owner = .master ∧
      (suspended .command .starved).sge.suspendCause = .command ∧ (suspended .pauseEnd .none).sge.suspendCause = .pauseEnd ∧
      (stopped (suspended .stopInput .running)).stopin = true ∧
      (suspended .stopInput .running).sge.settings = some runSettings ∧ (suspended .stopInput .running).stopin = false := by
  decide +kernel

/-- A running program one millimetre before the end of its segment. -/
def nearEnd (d next : Descriptor) : State :=
  let s := program .running d next
  withSge { s.sge with figures := { s.sge.figures with distance := 49999 } } s

theorem witness_SegmentsAdvance :
    (nearEnd (planned .cont false) (planned .cont true)).sge.figures.distance + 1 = 50000 ∧
      (planned .cont false).request.lengthMm = 50000 ∧
      (nearEnd (planned .cont false) (planned .cont true)).engineMm.sge.cursor = 1 ∧
      (nearEnd (planned .cont false) Descriptor.reset).engineMm.sge.state = .starved ∧
      (nearEnd (planned .cont true) Descriptor.reset).engineMm.sge.endKind = .last ∧
      (nearEnd (planned .pause false) Descriptor.reset).engineMm.sge.state = .suspended ∧
      (nearEnd (planned .stop false) Descriptor.reset).engineMm.sge.state = .stopping ∧
      (nearEnd (planned .cont false) (planned .cont true)).clt.spray.holder = .program ∧
      (withClt .lent (nearEnd (planned .cont false) (planned .cont true))).clt.spray.holder ≠ .program ∧
      (nearEnd (planned .cont false) (planned .cont true)).engineMm.arc.pickup.state = .lowering := by decide +kernel

theorem witness_StopInput :
    (stopped ready).stopin = true ∧ section793.stopin = false ∧ section793.rstnHeld = false ∧
      (section793.spc.banks.get .b0).terms.all = true ∧ section793.termsOf .b0 = (section793.spc.banks.get .b0).terms ∧
      (section793.arm .left).state = .working ∧ ((ready.setArm .left (armSt .homing)).arm .left).state = .homing ∧
      section793.arc.pickup.state = .working ∧ ready.arc.pickup.state = .up ∧ (held (stopped ready)).rstnHeld = true ∧
      (suspended .command .running).sge.present = true ∧ (suspended .command .running).sge.suspendCause = .command ∧
      ((after .stopinAsserted (suspended .command .running)).sge.suspendCause,
        (after .stopinAsserted (suspended .command .running)).sge.figures.flags.stoppedByInput) = (.stopInput, true) := by
  decide +kernel

theorem witness_PortReset :
    ((portDown .cab).ports.get .cab).inReset = true ∧ (ready.ports.get .cab).inReset = false ∧
      (held ready).rstnHeld = true ∧ ((unheard ready).ports.get .cab).silenceTimer = some 0 ∧
      (ready.ports.get .cab).link = .active ∧
      ({ ready.ports.get .cab with link := .silent } : Port).link = .silent ∧
      ((after (.prstnAsserted .cab) ready).ports.get .cab).silenceTimer ≠ some 0 := by decide +kernel

theorem witness_CabClaims : (withClt .cab ready).clt.get .armL = .cab ∧ (withClt .lent ready).clt.get .armL = .lent ∧
    ready.clt.get .armL = .free ∧ (withClt .cab ready).clt.spray = .cab ∧ ready.clt.pickup = .free ∧
    (withClt .program ready).clt.spray = .program := by decide +kernel

/-- A single Lent entry, in each state in which a return event can find the engine. -/
theorem witness_ReturnEvents :
    (let s := program .running (planned .cont true) Descriptor.reset
     let s : State := { s with clt := { s.clt with pickup := .lent } }
     (s.clt.get .pickup, s.clt.get .armL, s.sge.settings, s.sge.state) = (.lent, .program, some runSettings, .running)) ∧
      (withClt .lent (program .stopping (planned .stop true) Descriptor.reset)).sge.state = .stopping ∧
      ((withClt .lent ready).clt.get .spray, (withClt .lent ready).sge.state) = (.lent, .idle) := by decide +kernel

theorem witness_CfgWrite :
    ready.rstnHeld = false ∧ (ready.ports.get .chassis).inReset = false ∧
      (fr .chassis [63, 0, 0, 0, 0]).payload.length = 5 ∧ 64 ≤ (64 : Byte).toNat ∧
      (paramTable.get 47).lo ≤ (paramTable.get 47).lo ∧ (paramTable.get 47).lo - 1 < (paramTable.get 47).lo ∧
      (paramTable.get 47).hi = s32 0x00 0x00 0x27 0x10 := by decide +kernel

theorem witness_CfgCommit :
    State.reset.hears .cfgCommit (fr .chassis []) ∧ State.reset.cfs.ready = false ∧ ready.cfs.ready = true ∧
      ready.tgv.mode = .parked ∧ ready.sge.state = .idle ∧ ready.arc.left.state = .stowed ∧ ready.arc.pickup.state = .up ∧
      (sweeping 0 0 ready).tgv.mode ≠ .parked ∧ Params.defaults.slewMin < Params.defaults.slewMax ∧
      4000 ≤ Params.defaults.transportMax ∧ Params.defaults.tractionFloor ≤ 2500 ∧ Params.defaults.fallback ≤ 2500 ∧
      2500 < (Params.defaults.write 28 2501).fallback ∧ (State.reset.spc.banks.get .b0).valve = false ∧
      (State.reset.spc.banks.get .b0).terms.all = false := by decide +kernel

/-! ## A state that meets every invariant, with a step to take -/

def started : State := { State.reset with pending := [.uptimeTick] }

theorem witness_step_of_invariants : (match step started with
    | .next t => t.ctu.uptime
    | .fault _ => 0
    | .refused _ => 0) = 1 := by decide +kernel

theorem witness_paramsRule : started.paramsRule :=
  ⟨by unfold Params.inRange; decide +kernel, by intro p h; simp [started, State.reset, Cfs.reset] at h, by decide +kernel⟩

theorem witness_quietRule : started.quietRule :=
  ⟨by intro _; rfl, fun _ => ⟨by intro c; cases c <;> exact ⟨rfl, rfl⟩, rfl, by intro l; cases l <;> exact ⟨rfl, rfl⟩, rfl,
    rfl, rfl, rfl, rfl, rfl, rfl, rfl, by intro r; cases r <;> rfl, by decide +kernel, by decide +kernel, by decide +kernel,
    by intro i; cases i <;> exact ⟨rfl, rfl, rfl⟩, rfl⟩⟩

theorem witness_stopRule : started.stopRule ∧ (stopped started).stopRule := by
  refine ⟨fun h => absurd h (by decide +kernel), fun _ => ⟨?_, by decide +kernel, by decide +kernel⟩⟩
  intro side; cases side <;> decide +kernel

theorem witness_valveRule : started.valveRule := by intro i; cases i <;> decide +kernel

theorem witness_engineRule : started.engineRule :=
  ⟨⟨rfl, rfl, rfl⟩, by decide +kernel, by decide +kernel, by intro r; exact ⟨fun _ => rfl, fun _ => .inl (by cases r <;> rfl)⟩⟩

theorem witness_planRule : started.planRule := by
  intro i h
  have : ∀ i : Fin 32, (started.sge.ring.get i).owner ≠ .engine := by decide +kernel
  exact absurd h (this i)

theorem witness_outputRule : started.outputRule := by
  simp only [State.outputRule, Arm.driveRule, Pickup.driveRule]
  decide +kernel

theorem witness_figureRule : started.figureRule :=
  ⟨by intro c; cases c <;> decide +kernel, by decide +kernel, by intro i; cases i <;> decide +kernel, by decide +kernel⟩

end Sys2Proof.Tests
end

/-! PROOF. What SET_COUNT does to the channel it names (R9): the halves of the 32-bit value it carries, the two outcomes of
the request, and O15. -/

namespace Sys2Proof.Machine

theorem exec_setCount (f : Frame) (s : State) :
    exec (.setCount f) s = .next (s.transact .setCount f (setCountBody f)) := rfl

/-! ## The value and its halves -/

/-- The value that SET_COUNT carries is the word with the number of its four bytes (R9, R180). -/
theorem countOf_eq {f : Frame} {v : Word}
    (hv : v.toNat = u32 (f.payload.getD 1 0) (f.payload.getD 2 0) (f.payload.getD 3 0) (f.payload.getD 4 0)) :
    countOf f = v := by
  rw [countOf, ← hv, BitVec.ofNat_toNat, BitVec.setWidth_eq]

/-- Loading writes the low half into the hw count and the high half into the extension (R9). -/
theorem Channel.load_eq (x : Channel) (w : Word) :
    x.load w = { x with hw := w.extractLsb' 0 16, ext := w.extractLsb' 16 16 } := by
  have low : w.setWidth 16 = w.extractLsb' 0 16 := BitVec.setWidth_eq_extractLsb' (by decide)
  have high : (w >>> 16).setWidth 16 = w.extractLsb' 16 16 := BitVec.setWidth_ushiftRight_eq_extractLsb
  rw [Channel.load, low, high]

/-- The extended count of a loaded channel is the word loaded (R3). -/
theorem Channel.load_count (x : Channel) (w : Word) : (x.load w).count = w := by
  rw [Channel.load_eq]
  exact BitVec.extractLsb'_append_extractLsb'

/-! ## The two outcomes (R9) -/

theorem setCountBody_of_enabled {f : Frame} {t : State} {c : ChanId} (hc : chanOf (f.payload.getD 0 0) = some c)
    (he : (t.chan c).enabled = true) : setCountBody f t = t.done .state := by
  rw [setCountBody, forChannel_of_some hc, if_pos he]

theorem setCountBody_of_disabled {f : Frame} {t : State} {c : ChanId} (hc : chanOf (f.payload.getD 0 0) = some c)
    (he : (t.chan c).enabled = false) :
    setCountBody f t = (t.setChan c { (t.chan c).load (countOf f) with homed := false }).done .ok := by
  rw [setCountBody, forChannel_of_some hc, if_neg (Bool.eq_false_iff.mp he)]

/-- Settles O15: the request reaches the block in the state `atBlock`, whose channels are those before it; there the two
outcomes of R9 are told apart by the channel's enable. -/
theorem setCountLoads : Obligations.SetCountLoads := by
  intro s f c v hears hc hv
  rw [exec_setCount, transact_of_hears _ hears]
  constructor
  · intro he
    rw [setCountBody_of_enabled hc (by simpa using he), done_answer]
  · intro he
    refine ⟨{ (s.chan c).load v with homed := false }, by rw [Channel.load_eq], Channel.load_count (s.chan c) v, ?_⟩
    rw [setCountBody_of_disabled hc (by simpa using he), countOf_eq hv, State.atBlock_chan, done_answer]

end Sys2Proof.Machine

/-! PROOF. The line that both directions of a brush curve draw between two breakpoints (R54, R55): its ends, its range, its
monotony, and the truncation lost by going along it and back. -/

namespace Sys2Proof.Machine

section Line

variable {x0 x1 y0 y1 x x' y : Nat}

theorem interpolate_left : interpolate x0 x1 y0 y1 x0 = y0 := by simp [interpolate]

theorem interpolate_right (hx : x0 < x1) (hy : y0 ≤ y1) : interpolate x0 x1 y0 y1 x1 = y1 := by
  rw [interpolate, Nat.mul_div_cancel_left _ (Nat.sub_pos_of_lt hx), Nat.add_sub_cancel' hy]

/-- A plateau gives its one value everywhere. -/
theorem interpolate_plateau : interpolate x0 x1 y y x = y := by simp [interpolate]

theorem le_interpolate : y0 ≤ interpolate x0 x1 y0 y1 x := Nat.le_add_right _ _

theorem interpolate_mono (h : x ≤ x') : interpolate x0 x1 y0 y1 x ≤ interpolate x0 x1 y0 y1 x' := by
  unfold interpolate
  gcongr

/-- Short of its right end a rising line stays below its last value. -/
theorem interpolate_lt (hy : y0 < y1) (hl : x0 ≤ x) (hr : x < x1) : interpolate x0 x1 y0 y1 x < y1 := by
  have rise_lt : (x - x0) * (y1 - y0) / (x1 - x0) < y1 - y0 :=
    Nat.div_lt_of_lt_mul (Nat.mul_lt_mul_of_pos_right (by omega) (by omega))
  unfold interpolate
  omega

/-- Back along the line and forth again: each division rounds down, so the way ends at `y` or below (R55). -/
theorem interpolate_back_le (h : y0 ≤ y) : interpolate x0 x1 y0 y1 (interpolate y0 y1 x0 x1 y) ≤ y := by
  have back : (y - y0) * (x1 - x0) / (y1 - y0) * (y1 - y0) ≤ (x1 - x0) * (y - y0) :=
    (Nat.div_mul_le_self _ _).trans_eq (Nat.mul_comm _ _)
  have forth := Nat.div_le_of_le_mul back
  simp only [interpolate, Nat.add_sub_cancel_left]
  omega

end Line

end Sys2Proof.Machine

/-! PROOF. The breakpoints of a curve by their number, as R54 and R55 write them (s_j, r_j), and the forward curve (R54,
O30). -/

namespace Sys2Proof.Machine

/-! ## Breakpoints -/

/-- The breakpoint s_j; past the last one the curve ends at s3. -/
def Curve.speedAt (c : Curve) : Nat → Nat
  | 0 => c.s0
  | 1 => c.s1
  | 2 => c.s2
  | _ => c.s3

/-- The brush speed r_j at the breakpoint s_j. -/
def Curve.rpmAt (c : Curve) : Nat → Nat
  | 0 => c.r0
  | 1 => c.r1
  | 2 => c.r2
  | _ => c.r3

/-- What R47 asks of the curves of a profile: the breakpoints rise and the brush speeds never fall. -/
structure Curve.Rising (c : Curve) : Prop where
  s01 : c.s0 < c.s1
  s12 : c.s1 < c.s2
  s23 : c.s2 < c.s3
  r01 : c.r0 ≤ c.r1
  r12 : c.r1 ≤ c.r2
  r23 : c.r2 ≤ c.r3

/-- Both curves of a record that PROFILE_WRITE may store are rising. -/
theorem Profile.curves_rising_of_ok {p : Profile} (h : p.ok = true) : p.mainCurve.Rising ∧ p.armCurve.Rising := by
  simp only [Profile.ok, curveOk, Bool.and_eq_true, decide_eq_true_eq, and_assoc] at h
  obtain ⟨-, s01, s12, s23, -, m01, m12, m23, -, a01, a12, a23, -⟩ := h
  exact ⟨⟨s01, s12, s23, m01, m12, m23⟩, ⟨s01, s12, s23, a01, a12, a23⟩⟩

/-- A value from the first point up to the `n`-th lies in one of the segments between them. -/
theorem exists_segment (f : Nat → Nat) {x : Nat} (h0 : f 0 ≤ x) :
    ∀ {n : Nat}, x < f n → ∃ j < n, f j ≤ x ∧ x < f (j + 1)
  | 0, hn => absurd hn (Nat.not_lt.mpr h0)
  | n + 1, hn => by
    obtain hlt | hge := Nat.lt_or_ge x (f n)
    · obtain ⟨j, hj, hseg⟩ := exists_segment f h0 hlt
      exact ⟨j, by omega, hseg⟩
    · exact ⟨n, by omega, hge, hn⟩

/-! ## Segments and the rows of the forward curve (R54) -/

theorem Curve.forward_below {c : Curve} {v : Nat} (h : v ≤ c.s0) : c.forward v = c.r0 := if_pos h

namespace Curve.Rising

variable {c : Curve} {j v : Nat}

theorem speedAt_lt (hc : c.Rising) : ∀ {j : Nat}, j < 3 → c.speedAt j < c.speedAt (j + 1)
  | 0, _ => hc.s01
  | 1, _ => hc.s12
  | 2, _ => hc.s23

theorem speedAt_mono (hc : c.Rising) : Monotone c.speedAt := by
  refine monotone_nat_of_le_succ fun j => ?_
  match j with
  | 0 | 1 | 2 => exact (hc.speedAt_lt (by decide)).le
  | _ + 3 => exact le_rfl

theorem rpmAt_mono (hc : c.Rising) : Monotone c.rpmAt := by
  refine monotone_nat_of_le_succ fun j => ?_
  match j with
  | 0 => exact hc.r01
  | 1 => exact hc.r12
  | 2 => exact hc.r23
  | _ + 3 => exact le_rfl

theorem forward_above (hc : c.Rising) (h : c.s3 ≤ v) : c.forward v = c.r3 := by
  obtain ⟨s01, s12, s23, -, -, -⟩ := hc
  rw [Curve.forward, if_neg (by omega), if_pos h]

/-- The third row. At s0, where the model takes the first row, both give r0. -/
theorem forward_of_lt (hc : c.Rising) (hj : j < 3) (hl : c.speedAt j ≤ v) (hr : v < c.speedAt (j + 1)) :
    c.forward v = interpolate (c.speedAt j) (c.speedAt (j + 1)) (c.rpmAt j) (c.rpmAt (j + 1)) v := by
  obtain ⟨s01, s12, s23, -, -, -⟩ := hc
  match j, hj with
  | 0, _ =>
    change c.s0 ≤ v at hl
    change v < c.s1 at hr
    obtain rfl | hl := hl.eq_or_lt
    · exact (forward_below le_rfl).trans interpolate_left.symm
    · rw [Curve.forward, if_neg (by omega), if_neg (by omega), if_pos hr]
      rfl
  | 1, _ =>
    change c.s1 ≤ v at hl
    change v < c.s2 at hr
    rw [Curve.forward, if_neg (by omega), if_neg (by omega), if_neg (by omega), if_pos hr]
    rfl
  | 2, _ =>
    change c.s2 ≤ v at hl
    change v < c.s3 at hr
    rw [Curve.forward, if_neg (by omega), if_neg (by omega), if_neg (by omega), if_neg (by omega)]
    rfl

theorem forward_speedAt (hc : c.Rising) (hj : j ≤ 3) : c.forward (c.speedAt j) = c.rpmAt j := by
  obtain rfl | hj := hj.eq_or_lt
  · exact hc.forward_above le_rfl
  · rw [hc.forward_of_lt hj le_rfl (hc.speedAt_lt hj), interpolate_left]

/-- On a segment with both its ends the forward curve is one line: at the right end the line arrives at the next value. -/
theorem forward_of_le (hc : c.Rising) (hj : j < 3) (hl : c.speedAt j ≤ v) (hr : v ≤ c.speedAt (j + 1)) :
    c.forward v = interpolate (c.speedAt j) (c.speedAt (j + 1)) (c.rpmAt j) (c.rpmAt (j + 1)) v := by
  obtain rfl | hr := hr.eq_or_lt
  · rw [hc.forward_speedAt hj, interpolate_right (hc.speedAt_lt hj) (hc.rpmAt_mono j.le_succ)]
  · exact hc.forward_of_lt hj hl hr

/-! ## Monotony, range, plateaus -/

/-- Two neighbouring speeds lie on one segment with its ends, or both outside the breakpoints. -/
theorem forward_mono (hc : c.Rising) : Monotone c.forward := by
  refine monotone_nat_of_le_succ fun v => ?_
  obtain below | from0 := Nat.lt_or_ge v c.s0
  · rw [forward_below below.le, forward_below below]
  obtain to3 | above := Nat.lt_or_ge v c.s3
  · obtain ⟨j, hj, hl, hr⟩ := exists_segment c.speedAt (n := 3) from0 to3
    rw [hc.forward_of_le hj hl hr.le, hc.forward_of_le hj (by omega) hr]
    exact interpolate_mono v.le_succ
  · rw [hc.forward_above above, hc.forward_above (by omega)]

theorem r0_le_forward (hc : c.Rising) (v : Nat) : c.r0 ≤ c.forward v :=
  calc c.r0 = c.forward 0 := (forward_below c.s0.zero_le).symm
    _ ≤ c.forward v := hc.forward_mono v.zero_le

theorem forward_le_r3 (hc : c.Rising) (v : Nat) : c.forward v ≤ c.r3 :=
  calc c.forward v ≤ c.forward (max v c.s3) := hc.forward_mono (le_max_left _ _)
    _ = c.r3 := hc.forward_above (le_max_right _ _)

theorem forward_plateau (hc : c.Rising) (hj : j < 3) (plateau : c.rpmAt j = c.rpmAt (j + 1)) (hl : c.speedAt j ≤ v)
    (hr : v ≤ c.speedAt (j + 1)) : c.forward v = c.rpmAt j := by
  rw [hc.forward_of_le hj hl hr, ← plateau, interpolate_plateau]

theorem forward_plateau_first (hc : c.Rising) (plateau : c.r0 = c.r1) (hr : v ≤ c.s1) : c.forward v = c.r0 := by
  obtain hl | hl := Nat.le_total v c.s0
  · exact forward_below hl
  · exact hc.forward_plateau (j := 0) (by decide) plateau hl hr

theorem forward_plateau_last (hc : c.Rising) (plateau : c.r2 = c.r3) (hl : c.s2 ≤ v) : c.forward v = c.r2 := by
  obtain hr | hr := Nat.le_total v c.s3
  · exact hc.forward_plateau (j := 2) (by decide) plateau hl hr
  · exact (hc.forward_above hr).trans plateau.symm

end Curve.Rising

/-- Settles O30: the rows, the breakpoints, the range, the monotony and the plateaus of the forward curve, each by a lemma
of its own. -/
theorem curveForward : Obligations.CurveForward := by
  intro c s01 s12 s23 r01 r12 r23
  have hc : c.Rising := ⟨s01, s12, s23, r01, r12, r23⟩
  refine ⟨fun _ => Curve.forward_below, fun _ => hc.forward_above, ?row0, ?row1, ?row2,
    hc.forward_speedAt (j := 0) (by decide), hc.forward_speedAt (j := 1) (by decide),
    hc.forward_speedAt (j := 2) (by decide), hc.forward_speedAt (j := 3) (by decide),
    fun v => ⟨hc.r0_le_forward v, hc.forward_le_r3 v⟩, fun _ _ h => hc.forward_mono h,
    fun h _ => hc.forward_plateau_first h, fun h _ => hc.forward_plateau (j := 1) (by decide) h,
    fun h _ => hc.forward_plateau_last h⟩
  case row0 => exact fun _ => hc.forward_of_lt (j := 0) (by decide)
  case row1 => exact fun _ => hc.forward_of_lt (j := 1) (by decide)
  case row2 => exact fun _ => hc.forward_of_lt (j := 2) (by decide)

end Sys2Proof.Machine

/-! PROOF. The inverse curve (R55, O31): its rows, the segment its result lies on, its bound by the forward curve and its
monotony. -/

namespace Sys2Proof.Machine

/-! ## The rows of the inverse curve (R55) -/

theorem Curve.inverse_eq_none_iff {c : Curve} {q : Nat} : c.inverse q = none ↔ c.r3 ≤ q := by
  unfold Curve.inverse
  split_ifs with h <;> simp [h]

namespace Curve.Rising

variable {c : Curve} {i j q q' v v' : Nat}

theorem inverse_below (hc : c.Rising) (h : q < c.r0) : c.inverse q = some c.s0 := by
  obtain ⟨-, -, -, r01, r12, r23⟩ := hc
  rw [Curve.inverse, if_neg (by omega), if_pos h]

/-- The third row: r_j ≤ q < r_(j+1) holds for the highest j with r_j ≤ q, whatever plateaus lie before it. -/
theorem inverse_of_lt (hc : c.Rising) (hj : j < 3) (hl : c.rpmAt j ≤ q) (hr : q < c.rpmAt (j + 1)) :
    c.inverse q = some (interpolate (c.rpmAt j) (c.rpmAt (j + 1)) (c.speedAt j) (c.speedAt (j + 1)) q) := by
  obtain ⟨-, -, -, r01, r12, r23⟩ := hc
  match j, hj with
  | 0, _ =>
    change c.r0 ≤ q at hl
    change q < c.r1 at hr
    rw [Curve.inverse, if_neg (by omega), if_neg (by omega), if_neg (by omega), if_neg (by omega)]
    rfl
  | 1, _ =>
    change c.r1 ≤ q at hl
    change q < c.r2 at hr
    rw [Curve.inverse, if_neg (by omega), if_neg (by omega), if_neg (by omega), if_pos hl]
    rfl
  | 2, _ =>
    change c.r2 ≤ q at hl
    change q < c.r3 at hr
    rw [Curve.inverse, if_neg (by omega), if_neg (by omega), if_pos hl]
    rfl

/-- A brush speed that is the value of a breakpoint is answered with that breakpoint: at a plateau, with its end. -/
theorem inverse_rpmAt (hc : c.Rising) (hj : j < 3) (h : c.rpmAt j < c.rpmAt (j + 1)) :
    c.inverse (c.rpmAt j) = some (c.speedAt j) := by
  rw [hc.inverse_of_lt hj le_rfl h, interpolate_left]

/-! ## The segment of a result -/

/-- A cap found from r0 on lies on the segment of the breakpoints whose brush speeds enclose `q`. -/
theorem inverse_on_segment (hc : c.Rising) (h0 : c.r0 ≤ q) (h : c.inverse q = some v) :
    ∃ j < 3, (c.rpmAt j ≤ q ∧ q < c.rpmAt (j + 1)) ∧ (c.speedAt j ≤ v ∧ v < c.speedAt (j + 1)) ∧
      v = interpolate (c.rpmAt j) (c.rpmAt (j + 1)) (c.speedAt j) (c.speedAt (j + 1)) q := by
  have h3 : q < c.r3 := by
    rw [← Nat.not_le, ← inverse_eq_none_iff, h]
    exact Option.some_ne_none v
  obtain ⟨j, hj, hl, hr⟩ := exists_segment c.rpmAt (n := 3) h0 h3
  obtain rfl := Option.some.inj (h.symm.trans (hc.inverse_of_lt hj hl hr))
  exact ⟨j, hj, ⟨hl, hr⟩, ⟨le_interpolate, interpolate_lt (hc.speedAt_lt hj) hl hr⟩, rfl⟩

theorem inverse_mem_range (hc : c.Rising) (h0 : c.r0 ≤ q) (h : c.inverse q = some v) : c.s0 ≤ v ∧ v < c.s3 := by
  obtain ⟨j, hj, -, ⟨hl, hr⟩, -⟩ := hc.inverse_on_segment h0 h
  exact ⟨(hc.speedAt_mono j.zero_le).trans hl, hr.trans_le (hc.speedAt_mono (show j + 1 ≤ 3 from hj))⟩

theorem forward_inverse_le (hc : c.Rising) (h0 : c.r0 ≤ q) (h : c.inverse q = some v) : c.forward v ≤ q := by
  obtain ⟨j, hj, ⟨hq, -⟩, ⟨hl, hr⟩, hv⟩ := hc.inverse_on_segment h0 h
  rw [hc.forward_of_lt hj hl hr, hv]
  exact interpolate_back_le hq

/-! ## Monotony -/

/-- The caps of two brush speeds from r0 on: on one segment by the line, on two by the breakpoint between them. -/
theorem inverse_mono_of_r0_le (hc : c.Rising) (h0 : c.r0 ≤ q) (hqq : q ≤ q') (h : c.inverse q = some v)
    (h' : c.inverse q' = some v') : v ≤ v' := by
  obtain ⟨i, -, ⟨hq, -⟩, ⟨-, hv⟩, line⟩ := hc.inverse_on_segment h0 h
  obtain ⟨j, -, ⟨-, hq'⟩, ⟨hv', -⟩, line'⟩ := hc.inverse_on_segment (h0.trans hqq) h'
  obtain hij | rfl | hji := Nat.lt_trichotomy i j
  · exact (hv.le.trans (hc.speedAt_mono hij)).trans hv'
  · rw [line, line']
    exact interpolate_mono hqq
  · have : c.rpmAt (j + 1) ≤ c.rpmAt i := hc.rpmAt_mono hji
    omega

theorem inverse_mono (hc : c.Rising) (hqq : q ≤ q') (h' : c.inverse q' = some v') :
    ∃ v, c.inverse q = some v ∧ v ≤ v' := by
  obtain below | h0 := Nat.lt_or_ge q c.r0
  · refine ⟨c.s0, hc.inverse_below below, ?_⟩
    obtain below' | h0' := Nat.lt_or_ge q' c.r0
    · exact (Option.some.inj ((hc.inverse_below below').symm.trans h')).le
    · exact (hc.inverse_mem_range h0' h').1
  · obtain ⟨v, h⟩ : ∃ v, c.inverse q = some v := by
      rw [← Option.ne_none_iff_exists', Ne, inverse_eq_none_iff]
      intro h3
      rw [inverse_eq_none_iff.mpr (h3.trans hqq)] at h'
      exact absurd h' (Option.some_ne_none v').symm
    exact ⟨v, h, hc.inverse_mono_of_r0_le h0 hqq h h'⟩

end Curve.Rising

/-- Settles O31: the rows, the plateau ends, the range, the bound and the monotony of the inverse curve, each by a lemma of
its own. -/
theorem curveInverse : Obligations.CurveInverse := by
  intro c s01 s12 s23 r01 r12 r23
  have hc : c.Rising := ⟨s01, s12, s23, r01, r12, r23⟩
  refine ⟨fun _ => Curve.inverse_eq_none_iff.symm, fun _ => hc.inverse_below, ?row2, ?row1, ?row0, ?plateau01,
    ?plateau12, ?bound, fun _ _ _ => hc.inverse_mono⟩
  case row2 => exact fun _ => hc.inverse_of_lt (j := 2) (by decide)
  case row1 => exact fun _ => hc.inverse_of_lt (j := 1) (by decide)
  case row0 => exact fun _ => hc.inverse_of_lt (j := 0) (by decide)
  case plateau01 =>
    intro plateau rise
    rw [plateau]
    exact hc.inverse_rpmAt (j := 1) (by decide) rise
  case plateau12 =>
    intro plateau rise
    rw [plateau]
    exact hc.inverse_rpmAt (j := 2) (by decide) rise
  case bound =>
    intro q v h0 h
    obtain ⟨hl, hr⟩ := hc.inverse_mem_range h0 h
    exact ⟨hl, hr, hc.forward_inverse_le h0 h⟩

end Sys2Proof.Machine

/-! PROOF. What CFG_WRITE does to the pending set (R175): the port's tests before the block, the outcomes of the block, and
O52. -/

namespace Sys2Proof.Machine

theorem exec_cfgWrite (f : Frame) (s : State) :
    exec (.cfgWrite f) s = .next (s.transact .cfgWrite f (cfgWriteBody f)) := rfl

/-! ## The port's tests (R160, R175) -/

/-- Test 3 of R160: a request of the right length from a port that may not send it. -/
theorem refusal_eq_denied {s : State} {c : Cmd} {f : Frame} (hlen : f.payload.length = c.reqLen)
    (hport : c.allowed f.port = false) : s.refusal c f = some .denied := by
  simp [State.refusal, hlen, hport]

theorem allowed_cfgWrite_eq_false {p : PortId} (h : p ≠ .chassis) : Cmd.cfgWrite.allowed p = false :=
  beq_eq_false_iff_ne.mpr h

/-- CFG_WRITE passes the port's tests whatever the device state. -/
theorem hears_cfgWrite {s : State} {f : Frame} (hrst : s.rstnHeld = false) (hup : (s.ports.get f.port).inReset = false)
    (hlen : f.payload.length = 5) (hport : f.port = .chassis) : s.hears .cfgWrite f :=
  ⟨hrst, hup, hlen, by rw [hport]; rfl, .inr rfl⟩

/-! ## The outcomes of the block (R175) -/

theorem paramInRange_iff {i : Fin 64} {v : Int} :
    paramInRange i v = true ↔ (paramTable.get i).lo ≤ v ∧ v ≤ (paramTable.get i).hi := by
  simp [paramInRange]

theorem cfgWriteBody_of_no_id {f : Frame} {t : State} (h : paramIdOf (f.payload.getD 0 0) = none) :
    cfgWriteBody f t = t.done .range := by
  simp only [cfgWriteBody, h]

theorem cfgWriteBody_of_out_of_range {f : Frame} {t : State} {i : Fin 64}
    (hi : paramIdOf (f.payload.getD 0 0) = some i) (hv : ¬ paramInRange i (valueOf f) = true) :
    cfgWriteBody f t = t.done .range := by
  simp only [cfgWriteBody, hi, if_neg hv]

theorem cfgWriteBody_of_in_range {f : Frame} {t : State} {i : Fin 64}
    (hi : paramIdOf (f.payload.getD 0 0) = some i) (hv : paramInRange i (valueOf f) = true) :
    cfgWriteBody f t =
      State.done { t with cfs := { t.cfs with pendingSet := t.cfs.pendingSet.write i (valueOf f) } } .ok := by
  simp only [cfgWriteBody, hi, if_pos hv]

/-- Settles O52: a port other than the chassis port fails test 3 of R160; from the chassis port the request reaches the block
in either device state, and there the id and the range of the value tell the three outcomes of R175 apart. -/
theorem cfgWriteReplacesPending : Obligations.CfgWriteReplacesPending := by
  intro s f hrst hup hlen
  refine ⟨fun st => by rw [State.replied_cfs, State.atBlock_cfs], fun hport => ?denied, fun hport => ?taken⟩
  case denied =>
    have refused : s.refusal .cfgWrite f = some .denied := refusal_eq_denied hlen (allowed_cfgWrite_eq_false hport)
    rw [exec_cfgWrite, transact_of_refusal _ hrst hup refused]
  case taken =>
    rw [exec_cfgWrite, transact_of_hears _ (hears_cfgWrite hrst hup hlen hport)]
    refine ⟨fun noId => ?_, fun i v hid hv => ?_⟩
    · rw [cfgWriteBody_of_no_id ((paramIdOf_eq_none _).mpr noId), done_answer]
    · have named : paramIdOf (f.payload.getD 0 0) = some i := (paramIdOf_eq_some _ i).mpr hid
      have carried : valueOf f = v := hv.symm
      refine ⟨fun outside => ?_, fun hlo hhi => ?_⟩
      · have hout : ¬ paramInRange i (valueOf f) = true := by rw [carried, paramInRange_iff]; omega
        rw [cfgWriteBody_of_out_of_range named hout, done_answer]
      · have hin : paramInRange i (valueOf f) = true := by rw [carried, paramInRange_iff]; exact ⟨hlo, hhi⟩
        rw [cfgWriteBody_of_in_range named hin, done_answer, carried, State.atBlock_cfs, Params.write]

end Sys2Proof.Machine

/-! PROOF. What a step can do, said once: every command either leaves the blocks as they are or does one of the acts of
`State.Does`, before and after which only the ports change; so an invariant that does not speak of the ports and the queue is
kept by every step when every act keeps it. -/

namespace Sys2Proof.Machine

/-! ## The acts -/

/-- What a request in READY does to the counters, the budget, the tank and the stored profiles. -/
inductive State.Asks (s : State) : State → Prop where
  | enable (c : ChanId) : s.Asks (s.setChan c ((s.chan c).enable (s.params.gate c)))
  | disable (c : ChanId) :
    s.Asks (State.speedRefresh { s with ctu := { s.ctu.setChan c (s.chan c).disable with
      persistence := s.ctu.persistenceAfterDisable c } } s)
  | load (c : ChanId) (w : Word) : s.Asks (s.setChan c { (s.chan c).load w with homed := false })
  | clear (c : ChanId) : s.Asks ((s.setChan c ((s.chan c).cleared (s.params.gate c))).speedRefresh s)
  | gndFaultClear :
    s.Asks (State.speedRefresh { s with ctu := { s.ctu with groundFault := false, persistence := 0, source := .gnd } } s)
  | budget (f : Frame) : s.Asks (budgetBody f s).state
  | tank (n : Nat) (le : n ≤ 4000000) : s.Asks (s.setEstimate n)
  | lanesClear : s.Asks { s with pba := s.pba.cleared }
  | storeProfile (i : Fin 8) (p : Profile) (valid : p.valid = true) : s.Asks (s.storeProfile i p)

/-- What a request in READY orders of travel, of the claims, of the equipment and of the program. -/
inductive State.Orders (s : State) : State → Prop where
  | travel (m : TravelMode) (d : Direction) (v : Nat) : s.Orders (s.acceptTravel m d v)
  | claim (r : Resource) : s.Orders (s.setClaim r (s.clt.get r).claimed.1)
  | take (r : Resource) :
    s.Orders { s.setClaim r (s.clt.get r).taken with
      sge := if s.clt.get r = .program then s.sge.noteTake r else s.sge }
  | release (r : Resource) (notLent : s.clt.get r ≠ .lent) : s.Orders (s.setClaim r (s.clt.get r).released.1)
  | giveBack (r : Resource) (lent : s.clt.get r = .lent) : s.Orders ((s.setClaim r .program).returnEvent r)
  | deploy (side : Side) (angle : Option Int) : s.Orders (s.armDeploy side angle).1
  | retarget (side : Side) (angle : Int) : s.Orders (s.armRetarget side angle).1
  | stow (side : Side) : s.Orders (s.armStow side .command).1
  | armClear (side : Side) : s.Orders (s.armClear side).1
  | pickupWork : s.Orders s.pickupWork.1
  | pickupUp : s.Orders s.pickupUp.1
  | spraySet (mask : Option (BitVec 4)) (dose : Option Nat) : s.Orders (s.spraySetting mask dose)
  | select (i : Fin 8) : s.Orders (s.activateProfile i)
  | descWrite (i : Fin 32) (d : Descriptor) (free : (s.sge.ring.get i).owner = .master)
      (low : 1000 ≤ d.request.lengthMm) (high : d.request.lengthMm ≤ 20000000)
      (valid : (s.pft.profiles.get d.request.settings.profile).valid = true) : s.Orders { s with sge := s.sge.setDesc i d }
  | descReturn (i : Fin 32) (idle : s.sge.state = .idle) :
    s.Orders { s with sge := s.sge.setDesc i (s.sge.ring.get i).returned }
  | start (p : PortId) (i : Fin 32) (idle : s.sge.state = .idle) (planned : (s.sge.ring.get i).owner = .engine) :
    s.Orders (s.startProgram p i)
  | poll (starved : s.sge.state = .starved) (planned : s.sge.atCursor.owner = .engine) : s.Orders s.segmentStart
  | suspendRunning (running : s.sge.state = .running) : s.Orders (s.suspend .command .running)
  | suspendStarved (starved : s.sge.state = .starved) : s.Orders (s.suspend .command .starved)
  | resume (suspended : s.sge.state = .suspended)
      (cause : s.sge.suspendCause = .command ∨ s.sge.suspendCause = .none) : s.Orders s.returned
  | resumePause (suspended : s.sge.state = .suspended) (cause : s.sge.suspendCause = .pauseEnd) : s.Orders s.resumePause
  | resumeStop (suspended : s.sge.state = .suspended) (cause : s.sge.suspendCause = .stopInput) :
    s.Orders s.remakeSettings.returned
  | abort (going : s.sge.state ≠ .idle) : s.Orders (s.abortSegment.stopAllHeld.programEnd .abort)

/-- What the pins and the timers of the counters, of the budget and of the pulses do. -/
inductive State.Senses (s : State) : State → Prop where
  | sampled (c : ChanId) (a b : Bool) : s.Senses (s.setChan c ((s.chan c).sampled a b))
  | pulse (c : ChanId) (enabled : (s.chan c).enabled = true) : s.Senses (s.setChan c (s.chan c).up)
  | index (c : ChanId) (level : Bool) : s.Senses (s.setChan c { s.chan c with index := level })
  | gate (c : ChanId) (enabled : (s.chan c).enabled = true) : s.Senses (s.publishSpeed c)
  | gateGnd (enabled : (s.chan .gnd).enabled = true) : s.Senses (s.publishSpeed .gnd).plausibility
  | staled (timer : s.pba.freshTimer = some 0) : s.Senses s.staled
  | pulseExpired (i : BankId) (timer : (s.spc.banks.get i).pulseTimer = some 0) : s.Senses (s.pulseExpired i)

/-- What a command does to the blocks, the ports aside, with the tests that it has passed. -/
inductive State.Does (s : State) : State → Prop where
  | nothing : s.Does s
  | snaps (b : PerPort SnapBuffer) : s.Does { s with ctu := { s.ctu with snaps := b } }
  | ask {t : State} (ready : s.cfs.ready = true) (h : s.Asks t) : s.Does t
  | order {t : State} (ready : s.cfs.ready = true) (h : s.Orders t) : s.Does t
  | sense {t : State} (h : s.Senses t) : s.Does t
  | cfgWrite (i : Fin 64) (v : Int) (inRange : paramInRange i v = true) :
    s.Does { s with cfs := { s.cfs with pendingSet := s.cfs.pendingSet.write i v } }
  | commitRefused (r : CommitResult) : s.Does { s with cfs := { s.cfs with commitResult := r } }
  | commit (released : s.rstnHeld = false) (rest : s.cfs.ready = true → s.atRest = true)
      (check : s.cfs.pendingSet.crossCheck = .none) : s.Does s.commit
  | edge (c : ChanId) (a b : Bool) (e : Edge) (enabled : (s.chan c).enabled = true) :
    s.Does ((s.setChan c ((s.chan c).sampled a b)).countEdge c e)
  | indexClear (side : Side) (enabled : (s.chan (slewChan side)).enabled = true) :
    s.Does ((s.setChan (slewChan side) (({ s.chan (slewChan side) with index := true } : Channel).indexCleared
      (s.params.gate (slewChan side)))).indexEvent side)
  | switchHeld (unit : Equip) (sw : SwitchEnd) (active : Bool) (held : s.rstnHeld = true) :
    s.Does (s.withSwitch unit sw active)
  | switch (unit : Equip) (sw : SwitchEnd) (active : Bool) : s.Does (s.switchChange unit sw active)
  | stopHeld (level : Bool) (held : s.rstnHeld = true) : s.Does { s with stopin := level, spc := s.spc.followStop level }
  | stopAsserted (off : s.stopin = false) : s.Does (resolveLatch s s.stopEffects)
  | stopReleased : s.Does ((({ s with stopin := false } : State).rearm.sprayRefresh).post .stopInput)
  | cabLost (b : PerPort SnapBuffer) : s.Does (State.cabLost { s with ctu := { s.ctu with snaps := b } })
  | fullReset (held : Bool) : s.Does (s.fullReset held)
  | rstnRelease : s.Does { s with rstnHeld := false }
  | tick : s.Does s.millisecond
  | allocate (timer : s.pba.allocTimer = some 0) : s.Does s.allocate
  | travelTick (timer : s.tgv.updateTimer = some 0) : s.Does s.travelTick
  | armUpdate (timer : s.arc.updateTimer = some 0) : s.Does s.armUpdate
  | armTimeout (side : Side) : s.Does (s.armTimeout side)
  | pickupTimeout : s.Does s.pickupTimeout

/-- An act, with whatever becomes of the ports before and after it. -/
def State.Acts (s t : State) : Prop := ∃ v ps ps', State.Does { s with ports := ps } v ∧ t = { v with ports := ps' }

/-! ## Every command is an act -/

theorem State.Does.acts {s t : State} (h : s.Does t) : s.Acts t := ⟨t, s.ports, t.ports, h, rfl⟩

/-- An act in the state in which a request reaches its block, answered there. -/
theorem State.Does.acts_answer {s : State} {f : Frame} {d : Done} {code : Byte} (h : (s.atBlock f).Does d.state) :
    s.Acts (d.answer f.port code) := by
  refine ⟨d.state, (s.atBlock f).ports, (d.answer f.port code).ports, h, ?_⟩
  unfold Done.answer
  split <;> rfl

theorem State.acts_ports (s : State) (ps : PerPort Port) : s.Acts { s with ports := ps } := ⟨s, s.ports, ps, .nothing, rfl⟩

theorem State.acts_ignored (s : State) (p : PortId) (n : Nat) : s.Acts (s.ignored p n) := by
  rcases s.ignored_cases p n with ⟨_, h⟩ | ⟨_, h⟩ <;> rw [h] <;> exact s.acts_ports _

/-- A transaction is an act when what its block does is one. -/
theorem acts_transact {s : State} {c : Cmd} {f : Frame} {body : State → Done}
    (h : s.hears c f → (s.atBlock f).Does (body (s.atBlock f)).state) : s.Acts (s.transact c f body) := by
  by_cases deaf : s.deaf f.port = true
  · rw [transact_of_deaf deaf]; exact s.acts_ignored _ _
  · obtain ⟨up, awake⟩ : s.rstnHeld = false ∧ (s.ports.get f.port).inReset = false := by
      simpa [State.deaf, State.port] using deaf
    cases hr : s.refusal c f with
    | some st => rw [transact_of_refusal body up awake hr]; exact s.acts_ports _
    | none =>
      have heard : s.hears c f := by
        simp only [State.refusal] at hr
        split at hr
        · contradiction
        · split at hr
          · contradiction
          · split at hr
            · contradiction
            · refine ⟨up, awake, ?_, ?_, ?_⟩ <;> grind
      rw [transact_of_hears body heard]
      exact (h heard).acts_answer

/-- A command that UNCONFIGURED does not take reaches its block in READY alone (R160, test 4). -/
theorem State.hears.ready {s : State} {c : Cmd} {f : Frame} (h : s.hears c f) (hc : c.inUnconfigured = false) :
    s.cfs.ready = true := by
  obtain ⟨_, _, _, _, h⟩ := h
  simpa [hc] using h

/-- What a block does for a request in READY. -/
theorem acts_transact_ready {s : State} {c : Cmd} {f : Frame} {body : State → Done} (hc : c.inUnconfigured = false)
    (h : (s.atBlock f).cfs.ready = true → (s.atBlock f).Does (body (s.atBlock f)).state) : s.Acts (s.transact c f body) :=
  acts_transact fun heard => h (heard.ready hc)

/-! ## The bodies of the requests -/

/-- The request part that a DESC_WRITE stores has the length of the request, in mm. -/
theorem DescFields.lengthMm_of_request {d : DescFields} {r : Request} (h : d.request = some r) :
    r.lengthMm = d.length * 1000 := by
  simp only [DescFields.request, Option.bind_eq_bind, Option.bind_eq_some_iff, Option.pure_def, Option.some.injEq] at h
  obtain ⟨_, _, _, _, _, _, _, _, _, _, _, _, rfl⟩ := h
  rfl

section Bodies

variable {f : Frame} {t : State}

theorem does_forChannel {act : ChanId → Done} (h : ∀ c, t.Does (act c).state) : t.Does (forChannel f t act).state := by
  unfold forChannel; split
  · exact .nothing
  · exact h _

theorem does_forResource {act : Resource → Done} (h : ∀ r, t.Does (act r).state) : t.Does (forResource f t act).state := by
  unfold forResource; split
  · exact .nothing
  · exact h _

theorem does_forDescriptor {act : Fin 32 → Done} (h : ∀ i, t.Does (act i).state) :
    t.Does (forDescriptor f t act).state := by
  unfold forDescriptor; split
  · exact .nothing
  · exact h _

theorem does_gated {r : Resource} {act : Done} (h : t.Does act.state) : t.Does (gated t r act).state := by
  unfold gated; split
  · exact h
  · exact .nothing

theorem does_forArm {act : Side → Done} (h : ∀ side, t.Does (act side).state) : t.Does (forArm f t act).state := by
  unfold forArm; split
  · exact .nothing
  · exact does_gated (h _)

variable (ready : t.cfs.ready = true)
include ready

theorem does_chEnable : t.Does (chEnableBody f t).state :=
  does_forChannel fun c => by
    split
    · exact .nothing
    · exact .ask ready (.enable c)

theorem does_chDisable : t.Does (chDisableBody f t).state :=
  does_forChannel fun c => by
    split
    · exact .ask ready (.disable c)
    · exact .nothing

theorem does_setCount : t.Does (setCountBody f t).state :=
  does_forChannel fun c => by
    split
    · exact .nothing
    · exact .ask ready (.load c _)

theorem does_gndFaultClear : t.Does (gndFaultClearBody t).state := by
  unfold gndFaultClearBody; split
  · split
    · exact .nothing
    · exact .ask ready (.gndFaultClear)
  · exact .nothing

theorem does_travelReq : t.Does (travelReqBody f t).state := by
  unfold travelReqBody; split
  · split
    · exact .nothing
    · exact .order ready (.travel _ _ _)
  · exact .nothing

theorem does_release : t.Does (releaseBody f t).state :=
  does_forResource fun r => by
    dsimp only; split
    · next lent =>
      rw [lent]
      exact .order ready (.giveBack r lent)
    · next notLent => exact .order ready (.release r notLent)

theorem does_armSet : t.Does (armSetBody f t).state :=
  does_forArm fun side => by
    split
    · exact .nothing
    · next action _ =>
      cases action with
      | deploy => exact .order ready (.deploy side _)
      | stow => exact .order ready (.stow side)
      | retarget =>
        unfold armAct; dsimp only; split
        · exact .nothing
        · exact .order ready (.retarget side _)

theorem does_pickupSet : t.Does (pickupSetBody f t).state :=
  does_gated (by
    split
    · exact .nothing
    · exact .order ready (.pickupWork)
    · exact .order ready (.pickupUp))

theorem does_profileSelect : t.Does (profileSelectBody f t).state := by
  unfold profileSelectBody; split
  · exact .nothing
  · split
    · exact .nothing
    · split
      · exact .order ready (.select _)
      · exact .nothing

theorem does_profileWrite : t.Does (profileWriteBody f t).state := by
  unfold profileWriteBody; split
  · exact .nothing
  · split
    · exact .nothing
    · split
      · exact .ask ready (.storeProfile _ _ rfl)
      · exact .nothing

theorem does_descWrite : t.Does (descWriteBody f t).state :=
  does_forDescriptor fun i => by
    dsimp only; split
    · exact .nothing
    · next notOwned =>
      split
      · exact .nothing
      · next inRange =>
        split
        · exact .nothing
        · next r stored =>
          split
          · next valid =>
            have length := DescFields.lengthMm_of_request stored
            refine .order ready (.descWrite i _ ?free ?low ?high valid)
            case free => cases h : (t.sge.ring.get i).owner <;> simp_all
            case low => show 1000 ≤ r.lengthMm; omega
            case high => show r.lengthMm ≤ 20000000; omega
          · exact .nothing

theorem does_descReturn : t.Does (descReturnBody f t).state :=
  does_forDescriptor fun i => by
    split
    · exact .nothing
    · next idle => exact .order ready (.descReturn i (not_not.mp idle))

theorem does_pgmStart : t.Does (pgmStartBody f t).state :=
  does_forDescriptor fun i => by
    split
    · exact .nothing
    · next idle =>
      split
      · exact .nothing
      · split
        · exact .nothing
        · split
          · exact .nothing
          · next planned =>
            refine .order ready (.start f.port i (not_not.mp idle) ?_)
            cases h : (t.sge.ring.get i).owner <;> simp_all

theorem does_pgmPoll : t.Does (pgmPollBody t).state := by
  unfold pgmPollBody; split
  · next h => exact .order ready (.poll h.1 h.2)
  · exact .nothing

theorem does_pgmSuspend : t.Does (pgmSuspendBody t).state := by
  unfold pgmSuspendBody; split
  · next running => exact .order ready (.suspendRunning running)
  · next starved => exact .order ready (.suspendStarved starved)
  · exact .nothing
  · exact .nothing
  · exact .nothing

theorem does_pgmResume : t.Does (pgmResumeBody t).state := by
  unfold pgmResumeBody; split
  · exact .nothing
  · next suspended =>
    have suspended := not_not.mp suspended
    split
    · next cause => exact .order ready (.resume suspended (.inl cause))
    · next cause => exact .order ready (.resume suspended (.inr cause))
    · next cause =>
      split
      · exact .nothing
      · exact .order ready (.resumePause suspended cause)
    · next cause =>
      split
      · exact .nothing
      · exact .order ready (.resumeStop suspended cause)

theorem does_pgmAbort : t.Does (pgmAbortBody t).state := by
  unfold pgmAbortBody; split
  · exact .nothing
  · next going => exact .order ready (.abort going)

end Bodies

theorem does_cfgWrite (f : Frame) (t : State) : t.Does (cfgWriteBody f t).state := by
  unfold cfgWriteBody; split
  · exact .nothing
  · split
    · next inRange => exact .cfgWrite _ _ inRange
    · exact .nothing

theorem does_cfgCommit {t : State} (released : t.rstnHeld = false) : t.Does (cfgCommitBody t).state := by
  unfold cfgCommitBody; split
  · exact .nothing
  · next rest =>
    split
    · next check => exact .commit released (by intro ready; simpa [ready] using rest) check
    · exact .commitRefused _

/-! ## The commands -/

/-- The gate expiry publishes a speed, at GND with the plausibility evaluation, or does nothing. -/
theorem acts_gateExpiry (s : State) (c : ChanId) {t : State} (h : execGateExpiry c s = .next t) : s.Acts t := by
  cases h; dsimp only; split
  · next running =>
    have enabled : (s.chan c).enabled = true := by simp only [Bool.and_eq_true] at running; exact running.1
    split
    · next gnd => subst gnd; exact (State.Does.sense (.gateGnd enabled)).acts
    · exact (State.Does.sense (.gate c enabled)).acts
  · exact State.Does.nothing.acts

theorem acts_quadratureChange (s : State) (ch : QuadChan) (a b : Bool) {t : State}
    (h : execQuadratureChange ch a b s = .next t) : s.Acts t := by
  cases h; split
  · next counting =>
    refine (State.Does.edge (QuadChan.chan ch) a b _ ?_).acts
    simp only [State.counts, Bool.and_eq_true] at counting
    exact counting.2.1
  · exact (State.Does.sense (.sampled (QuadChan.chan ch) a b)).acts

theorem acts_pulseRisingEdge (s : State) (ch : PulseChan) {t : State} (h : execPulseRisingEdge ch s = .next t) :
    s.Acts t := by
  cases h; split
  · next counting => simp only [Bool.and_eq_true] at counting; exact (State.Does.sense (.pulse (PulseChan.chan ch) counting.2)).acts
  · exact State.Does.nothing.acts

theorem acts_indexActive (s : State) (side : Side) {t : State} (h : execIndexActive side s = .next t) : s.Acts t := by
  cases h; split
  · exact (State.Does.sense (.index _ true)).acts
  · next clears =>
    have cleared := State.Does.indexClear (s := s) side (by simp at clears; exact clears.1.2)
    have twice : (s.setChan (slewChan side) { s.chan (slewChan side) with index := true }).setChan (slewChan side) =
        s.setChan (slewChan side) := by funext x; simp [State.setChan, Ctu.setChan]
    rw [twice]
    exact cleared.acts

theorem acts_positionSwitchChange (s : State) (unit : Equip) (sw : SwitchEnd) (active : Bool) {t : State}
    (h : execPositionSwitchChange unit sw active s = .next t) : s.Acts t := by
  cases h; split
  · exact State.Does.nothing.acts
  · split
    · next held => exact (State.Does.switchHeld unit sw active held).acts
    · exact (State.Does.switch unit sw active).acts

theorem acts_stopinAsserted {s t : State} (h : execStopinAsserted s = .next t) : s.Acts t := by
  cases h; split
  · exact State.Does.nothing.acts
  · next off =>
    split
    · next held => exact (State.Does.stopHeld true held).acts
    · exact (State.Does.stopAsserted (by simpa using off)).acts

theorem acts_stopinReleased {s t : State} (h : execStopinReleased s = .next t) : s.Acts t := by
  cases h; split
  · exact State.Does.nothing.acts
  · split
    · next held => exact (State.Does.stopHeld false held).acts
    · exact State.Does.stopReleased.acts

theorem acts_prstnAsserted (s : State) (p : PortId) {t : State} (h : execPrstnAsserted p s = .next t) : s.Acts t := by
  cases h; split
  · exact State.Does.nothing.acts
  · split
    · exact s.acts_ports _
    · split
      · exact ⟨_, (s.portReset .cab).ports, _, .cabLost (s.portReset .cab).ctu.snaps, rfl⟩
      · exact ⟨_, s.ports, (s.portReset p).ports, .snaps (s.portReset p).ctu.snaps, rfl⟩

theorem acts_prstnReleased (s : State) (p : PortId) {t : State} (h : execPrstnReleased p s = .next t) : s.Acts t := by
  cases h; split
  · exact State.Does.nothing.acts
  · exact s.acts_ports _

theorem acts_silenceTimerExpiry (s : State) (p : PortId) {t : State} (h : execSilenceTimerExpiry p s = .next t) :
    s.Acts t := by
  cases h; dsimp only; split
  · split
    · exact ⟨_, (s.setPort p (s.port p).silent).ports, _, .cabLost s.ctu.snaps, rfl⟩
    · exact s.acts_ports _
  · exact State.Does.nothing.acts

theorem acts_badFrame (s : State) (p : PortId) (bytes : List Byte) {t : State} (h : execBadFrame p bytes s = .next t) :
    s.Acts t := by
  unfold execBadFrame at h
  split at h
  · contradiction
  · split at h
    · contradiction
    · cases h
      split
      · exact s.acts_ignored _ _
      · exact s.acts_ports _

theorem acts_unknownCommand (s : State) (code : Byte) (f : Frame) {t : State}
    (h : execUnknownCommand code f s = .next t) : s.Acts t := by
  unfold execUnknownCommand at h
  split at h
  · contradiction
  · cases h
    split
    · exact s.acts_ignored _ _
    · exact (State.Does.nothing (s := s.atBlock f)).acts_answer (d := (s.atBlock f).done .unknown)

theorem acts_nop (s : State) (f : Frame) {t : State} (h : execNop f s = .next t) : s.Acts t := by
  cases h; split
  · exact s.acts_ignored _ _
  · unfold State.nopServed State.nextPart
    split
    · split <;> exact s.acts_ports _
    · exact (State.Does.nothing (s := s.atBlock f)).acts_answer (d := (s.atBlock f).done .length)

/-- A request whose block changes the ports alone. -/
theorem acts_transact_ports {s : State} {c : Cmd} {f : Frame} {body : State → Done}
    (h : ∀ t : State, ∃ ps, (body t).state = { t with ports := ps }) : s.Acts (s.transact c f body) := by
  by_cases deaf : s.deaf f.port = true
  · rw [transact_of_deaf deaf]; exact s.acts_ignored _ _
  · rcases transact_cases s c f body with same | ⟨st, refused⟩ | taken
    · rw [same]; exact s.acts_ignored _ _
    · rw [refused]; exact s.acts_ports _
    · obtain ⟨ps, kept⟩ := h (s.atBlock f)
      have answered : (body (s.atBlock f)).answer f.port c.code =
          { s with ports := ((body (s.atBlock f)).answer f.port c.code).ports } := by
        unfold Done.answer
        rw [kept]
        split <;> rfl
      rw [taken, answered]
      exact s.acts_ports _

/-- A read changes nothing at its block. -/
theorem acts_read {s : State} {c : Cmd} {f : Frame} {body : State → Done} (h : ∀ t : State, (body t).state = t) :
    s.Acts (s.transact c f body) := acts_transact_ports fun t => ⟨t.ports, h t⟩

/-- Every command that goes on is one act, with the ports changed before and after it. -/
theorem exec_acts {c : Instr} {s t : State} (h : exec c s = .next t) : s.Acts t := by
  cases c with
  | nop f => exact acts_nop s f h
  | badFrame p bytes => exact acts_badFrame s p bytes h
  | unknownCommand code f => exact acts_unknownCommand s code f h
  | noticeRead f => cases h; exact acts_transact_ports fun t => ⟨_, rfl⟩
  | noticeMask f =>
    cases h
    refine acts_transact_ports fun t => ?_
    unfold noticeMaskBody
    split <;> exact ⟨_, rfl⟩
  | readCount f => cases h; exact acts_read fun t => by unfold readCountBody; split <;> rfl
  | readSnap f => cases h; exact acts_read fun t => by unfold readSnapBody; split <;> rfl
  | readLanes f => cases h; exact acts_read fun t => rfl
  | profileRead f => cases h; exact acts_read fun t => by unfold profileReadBody; split <;> rfl
  | travelRead f => cases h; exact acts_read fun t => rfl
  | armRead f => cases h; exact acts_read fun t => rfl
  | claimRead f => cases h; exact acts_read fun t => rfl
  | sprayRead f => cases h; exact acts_read fun t => rfl
  | descRead f => cases h; exact acts_read fun t => by unfold descReadBody; split <;> rfl
  | pgmRead f => cases h; exact acts_read fun t => rfl
  | cfgRead f => cases h; exact acts_read fun t => by unfold cfgReadBody; split <;> rfl
  | snapshot f => cases h; exact acts_transact fun _ => .snaps _
  | chEnable f => cases h; exact acts_transact_ready rfl does_chEnable
  | chDisable f => cases h; exact acts_transact_ready rfl does_chDisable
  | setCount f => cases h; exact acts_transact_ready rfl does_setCount
  | chClear f => cases h; exact acts_transact_ready rfl fun ready => does_forChannel fun c => .ask ready (.clear c)
  | gndFaultClear f => cases h; exact acts_transact_ready rfl does_gndFaultClear
  | budget f => cases h; exact acts_transact_ready rfl fun ready => .ask ready (.budget f)
  | tank f => cases h; exact acts_transact_ready rfl fun ready => .ask ready (.tank _ (Nat.min_le_right _ _))
  | lanesClear f => cases h; exact acts_transact_ready rfl fun ready => .ask ready .lanesClear
  | cfgWrite f => cases h; exact acts_transact fun _ => does_cfgWrite f _
  | cfgCommit f => cases h; exact acts_transact fun heard => does_cfgCommit heard.1
  | travelReq f => cases h; exact acts_transact_ready rfl does_travelReq
  | claim f => cases h; exact acts_transact_ready rfl fun ready => does_forResource fun r => .order ready (.claim r)
  | take f => cases h; exact acts_transact_ready rfl fun ready => does_forResource fun r => .order ready (.take r)
  | release f => cases h; exact acts_transact_ready rfl does_release
  | armSetDeploy f => cases h; exact acts_transact_ready rfl does_armSet
  | armSetRetarget f => cases h; exact acts_transact_ready rfl does_armSet
  | armSetStow f => cases h; exact acts_transact_ready rfl does_armSet
  | armClear f => cases h; exact acts_transact_ready rfl fun ready => does_forArm fun side => .order ready (.armClear side)
  | pickupSetWork f => cases h; exact acts_transact_ready rfl does_pickupSet
  | pickupSetUp f => cases h; exact acts_transact_ready rfl does_pickupSet
  | spraySet f => cases h; exact acts_transact_ready rfl fun ready => does_gated (.order ready (.spraySet _ _))
  | profileSelect f => cases h; exact acts_transact_ready rfl does_profileSelect
  | profileWrite f => cases h; exact acts_transact_ready rfl does_profileWrite
  | descWrite f => cases h; exact acts_transact_ready rfl does_descWrite
  | descReturn f => cases h; exact acts_transact_ready rfl does_descReturn
  | pgmStart f => cases h; exact acts_transact_ready rfl does_pgmStart
  | pgmPoll f => cases h; exact acts_transact_ready rfl does_pgmPoll
  | pgmSuspend f => cases h; exact acts_transact_ready rfl does_pgmSuspend
  | pgmResume f => cases h; exact acts_transact_ready rfl does_pgmResume
  | pgmAbort f => cases h; exact acts_transact_ready rfl does_pgmAbort
  | quadratureChange ch a b => exact acts_quadratureChange s ch a b h
  | pulseRisingEdge ch => exact acts_pulseRisingEdge s ch h
  | indexActive side => exact acts_indexActive s side h
  | indexInactive side => cases h; exact (State.Does.sense (.index _ false)).acts
  | positionSwitchChange unit sw active => exact acts_positionSwitchChange s unit sw active h
  | stopinAsserted => exact acts_stopinAsserted h
  | stopinReleased => exact acts_stopinReleased h
  | prstnAsserted p => exact acts_prstnAsserted s p h
  | prstnReleased p => exact acts_prstnReleased s p h
  | fullReset kind => cases h; exact (State.Does.fullReset _).acts
  | rstnRelease =>
    cases h; split
    · exact ⟨_, s.ports, _, .rstnRelease, rfl⟩
    · exact State.Does.nothing.acts
  | uptimeTick =>
    cases h; split
    · exact State.Does.nothing.acts
    · exact State.Does.tick.acts
  | gateExpiry ch => exact acts_gateExpiry s ch h
  | freshnessExpiry =>
    cases h; split
    · next aged => exact (State.Does.sense (.staled ((Timer.ranOut_iff _).mp aged.2))).acts
    · exact State.Does.nothing.acts
  | allocationPeriodExpiry =>
    cases h; split
    · next timer => exact (State.Does.allocate ((Timer.ranOut_iff _).mp timer)).acts
    · exact State.Does.nothing.acts
  | travelUpdate =>
    cases h; split
    · next timer => exact (State.Does.travelTick ((Timer.ranOut_iff _).mp timer)).acts
    · exact State.Does.nothing.acts
  | armUpdate =>
    cases h; split
    · next timer => exact (State.Does.armUpdate ((Timer.ranOut_iff _).mp timer)).acts
    · exact State.Does.nothing.acts
  | moveTimerExpiry unit =>
    cases h
    cases unit with
    | left => exact (State.Does.armTimeout .left).acts
    | right => exact (State.Does.armTimeout .right).acts
    | pickup => exact State.Does.pickupTimeout.acts
  | pulseTimerExpiry bank =>
    cases h; split
    · next timer => exact (State.Does.sense (.pulseExpired bank ((Timer.ranOut_iff _).mp timer))).acts
    · exact State.Does.nothing.acts
  | silenceTimerExpiry p => exact acts_silenceTimerExpiry s p h

/-! ## Steps -/

/-- A predicate that does not speak of the ports and the queue. -/
def OnBlocks (P : State → Prop) : Prop := ∀ (s : State) (ps : PerPort Port) (q : List Instr),
  P { s with ports := ps, pending := q } ↔ P s

/-- What every act makes of one predicate on the blocks another, every step does. -/
theorem step_keeps {P Q : State → Prop} (hP : OnBlocks P) (hQ : OnBlocks Q) (act : ∀ s t, s.Does t → P s → Q t)
    {s t : State} (hs : P s) (h : step s = .next t) : Q t := by
  unfold step at h
  split at h
  · cases h; exact act s s .nothing hs
  · obtain ⟨v, ps, ps', does, rfl⟩ := exec_acts h
    exact (hQ v ps' v.pending).mpr (act _ v does ((hP s ps _).mpr hs))

end Sys2Proof.Machine

/-! PROOF. The notice sets as sets of kinds (R164): what a posting adds to them, and nothing else. -/

namespace Sys2Proof.Machine

/-! ## One port -/

theorem Notice.num_lt (k : Notice) : k.num < 17 := by cases k <;> decide

theorem Notice.num_inj {a b : Notice} : a.num = b.num ↔ a = b := by
  refine ⟨fun h => ?_, congrArg Notice.num⟩
  cases a <;> cases b <;> simp_all [Notice.num]

/-- A kind is in the set exactly where its bit is set. -/
theorem Port.hasNotice_eq_getLsbD (x : Port) (k : Notice) : x.hasNotice k = x.notices.getLsbD k.num := by
  have nonzero : BitVec.twoPow 17 k.num ≠ 0#17 := by cases k <;> decide
  cases bit : x.notices.getLsbD k.num <;>
    simp [Port.hasNotice, Notice.set, BitVec.and_twoPow, bit, nonzero]

theorem Port.postIf_hasNotice (x : Port) (k j : Notice) (on : Bool) :
    (x.postIf k on).hasNotice j = (x.hasNotice j || (on && decide (j = k))) := by
  have posted : k.set.getLsbD j.num = decide (j = k) := by
    rw [Notice.set, BitVec.getLsbD_twoPow, decide_eq_true k.num_lt, Bool.true_and, decide_eq_decide, Notice.num_inj]
    exact eq_comm
  cases on <;> simp [Port.hasNotice_eq_getLsbD, Port.postIf, posted]

@[simp] theorem Port.postIf_hasNotice_same (x : Port) (k : Notice) (on : Bool) :
    (x.postIf k on).hasNotice k = (x.hasNotice k || on) := by simp [Port.postIf_hasNotice]

theorem Port.postIf_hasNotice_other (x : Port) {k j : Notice} (on : Bool) (h : j ≠ k) :
    (x.postIf k on).hasNotice j = x.hasNotice j := by simp [Port.postIf_hasNotice, h]

/-! ## All three ports -/

@[simp] theorem postAllIf_get (ps : PerPort Port) (k : Notice) (on : Bool) (p : PortId) :
    (postAllIf ps k on).get p = (ps.get p).postIf k on := by cases p <;> rfl

@[simp] theorem State.postIf_port (s : State) (k : Notice) (on : Bool) (p : PortId) :
    (s.postIf k on).port p = (s.port p).postIf k on := postAllIf_get _ _ _ _

@[simp] theorem State.post_port (s : State) (k : Notice) (p : PortId) : (s.post k).port p = (s.port p).postIf k true :=
  postAllIf_get _ _ _ _

@[simp] theorem postAllIf_false (ps : PerPort Port) (k : Notice) : postAllIf ps k false = ps := rfl

end Sys2Proof.Machine

/-! PROOF. What the Spray Controller does on a change of an input of its terms (R116, R119, R122, R124, R127): the terms, the
valves, the water, the latches and the notices that the two rounds of evaluation and closing leave, bank by bank. -/

namespace Sys2Proof.Machine

/-! ## The terms of an estimate -/

/-- The terms of a bank on the inputs as they stand, with the tank at an estimate. -/
def State.termsAt (s : State) (estimate : Nat) (i : BankId) : Terms :=
  { s.termsOf i with t2 := decide (s.params.reserve < estimate) }

/-- The terms read the enables, the estimate, the measured speed, the equipment, the SPRY lane, the ambient and STOPIN. -/
theorem State.termsOf_congr {s t : State} {i : BankId} (params : t.params = s.params) (measured : t.measured = s.measured)
    (arc : t.arc.equipWorking i = s.arc.equipWorking i) (lane : (t.pba.lane .spry).out = (s.pba.lane .spry).out)
    (ambient : t.pba.ambient = s.pba.ambient) (stopin : t.stopin = s.stopin)
    (enabled : (t.spc.banks.get i).enabled = (s.spc.banks.get i).enabled) (estimate : t.spc.estimate = s.spc.estimate) :
    t.termsOf i = s.termsOf i := by
  simp only [State.termsOf, params, measured, arc, lane, ambient, stopin, enabled, estimate]

/-- The same, wherever the estimate stands. -/
theorem State.termsOf_eq_termsAt {s t : State} {i : BankId} (params : t.params = s.params)
    (measured : t.measured = s.measured) (arc : t.arc.equipWorking i = s.arc.equipWorking i)
    (lane : (t.pba.lane .spry).out = (s.pba.lane .spry).out) (ambient : t.pba.ambient = s.pba.ambient)
    (stopin : t.stopin = s.stopin) (enabled : (t.spc.banks.get i).enabled = (s.spc.banks.get i).enabled) :
    t.termsOf i = s.termsAt t.spc.estimate i := by
  simp only [State.termsAt, State.termsOf, params, measured, arc, lane, ambient, stopin, enabled]

theorem State.termsAt_self (s : State) (i : BankId) : s.termsAt s.spc.estimate i = s.termsOf i := rfl

/-- With less in the tank no permissive comes back. -/
theorem State.all_termsAt_of_le {s : State} {e e' : Nat} {i : BankId} (le : e' ≤ e) (h : (s.termsAt e' i).all = true) :
    (s.termsAt e i).all = true := by
  simp only [State.termsAt, Terms.all, Bool.and_eq_true, decide_eq_true_eq] at h ⊢
  obtain ⟨⟨⟨⟨⟨⟨h1, h2⟩, h3⟩, h4⟩, h5⟩, h6⟩, h7⟩ := h
  exact ⟨⟨⟨⟨⟨⟨h1, by omega⟩, h3⟩, h4⟩, h5⟩, h6⟩, h7⟩

/-! ## One round: the terms evaluated, the valves without their permissive closed -/

/-- One round of the two that follow a change (R122). -/
def State.closingRound (s : State) : State := s.evalTerms.closeWhere lostValve

theorem State.settleBanks_eq (s : State) : s.settleBanks = s.closingRound.closingRound := rfl

@[simp] theorem State.evalTerms_bank (s : State) (i : BankId) :
    s.evalTerms.spc.banks.get i = (s.spc.banks.get i).evaluated (s.termsOf i) := PerBank.get_map _ _ _

@[simp] theorem State.closeWhere_bank (s : State) (p : BankId → Bank → Bool) (i : BankId) :
    (s.closeWhere p).spc.banks.get i =
      if p i (s.spc.banks.get i) then (s.spc.banks.get i).closed (s.params.nozzleFlow i) else s.spc.banks.get i :=
  PerBank.get_map _ _ _

theorem State.closeWhere_estimate (s : State) (p : BankId → Bank → Bool) :
    (s.closeWhere p).spc.estimate = s.spc.estimate - s.closingMl p := rfl

@[simp] theorem State.evalTerms_port (s : State) (q : PortId) : s.evalTerms.port q =
    (s.port q).postIf .sprayBlock (s.spc.banks.any fun i b => b.loses (s.termsOf i)) := postAllIf_get _ _ _ _

@[simp] theorem State.closeWhere_port (s : State) (p : BankId → Bank → Bool) (q : PortId) : (s.closeWhere p).port q =
    (s.port q).postIf .tankReserve
      (crossesReserve s.params.reserve s.spc.estimate (s.spc.estimate - s.closingMl p)) := postAllIf_get _ _ _ _

/-- A bank after one round: the terms stored, and the valve closed where they are not all true. -/
def Bank.rounded (b : Bank) (terms : Terms) (flow : Nat) : Bank :=
  if b.valve && !terms.all then (b.evaluated terms).closed flow else b.evaluated terms

theorem State.closingRound_bank (s : State) (i : BankId) :
    s.closingRound.spc.banks.get i = (s.spc.banks.get i).rounded (s.termsOf i) (s.params.nozzleFlow i) := by
  simp only [State.closingRound, State.closeWhere_bank, State.evalTerms_bank, State.evalTerms_params]
  rfl

@[simp] theorem Bank.rounded_terms (b : Bank) (terms : Terms) (flow : Nat) : (b.rounded terms flow).terms = terms := by
  unfold Bank.rounded; split <;> rfl

@[simp] theorem Bank.rounded_valve (b : Bank) (terms : Terms) (flow : Nat) :
    (b.rounded terms flow).valve = (b.valve && terms.all) := by
  cases hv : b.valve <;> cases ht : terms.all <;> simp [Bank.rounded, Bank.evaluated, Bank.closed, hv, ht]

@[simp] theorem Bank.rounded_enabled (b : Bank) (terms : Terms) (flow : Nat) :
    (b.rounded terms flow).enabled = b.enabled := by
  unfold Bank.rounded; split <;> rfl

/-- The terms after a round are those before it but for T2, which follows the tank. -/
theorem State.closingRound_termsOf (s : State) (i : BankId) :
    s.closingRound.termsOf i = s.termsAt s.closingRound.spc.estimate i :=
  State.termsOf_eq_termsAt rfl rfl rfl rfl rfl rfl (by rw [State.closingRound_bank, Bank.rounded_enabled])

theorem State.closingRound_estimate_le (s : State) : s.closingRound.spc.estimate ≤ s.spc.estimate := Nat.sub_le _ _

/-- The millilitres of one round. -/
theorem State.closingMl_eq_zero {s : State} {p : BankId → Bank → Bool} (h : ∀ i, p i (s.spc.banks.get i) = false) :
    s.closingMl p = 0 := by
  have h0 := h .b0
  have h1 := h .b1
  have h2 := h .b2
  have h3 := h .b3
  simp only [PerBank.get] at h0 h1 h2 h3
  simp [State.closingMl, h0, h1, h2, h3]

/-- A tank above the reserve after the first round has failed no term, so the second round closes nothing. -/
theorem State.second_round_idle {s : State} (above : s.params.reserve < s.closingRound.spc.estimate) (i : BankId) :
    lostValve i (s.closingRound.evalTerms.spc.banks.get i) = false := by
  have same : s.closingRound.termsOf i = s.termsOf i := by
    have before : s.params.reserve < s.spc.estimate := Nat.lt_of_lt_of_le above s.closingRound_estimate_le
    rw [State.closingRound_termsOf, ← State.termsAt_self]
    simp [State.termsAt, above, before]
  simp only [State.evalTerms_bank, State.closingRound_bank, same, lostValve, Bank.evaluated, Bank.rounded_valve]
  cases (s.termsOf i).all <;> simp

theorem State.second_round_estimate {s : State} (above : s.params.reserve < s.closingRound.spc.estimate) :
    s.settleBanks.spc.estimate = s.closingRound.spc.estimate := by
  have none_closed : s.closingRound.evalTerms.closingMl lostValve = 0 := State.closingMl_eq_zero (State.second_round_idle above)
  rw [State.settleBanks_eq, State.closingRound, State.closeWhere_estimate, none_closed]
  rfl

/-! ## Both rounds: what the controller leaves -/

theorem State.settleBanks_estimate_le (s : State) : s.settleBanks.spc.estimate ≤ s.closingRound.spc.estimate :=
  s.closingRound.closingRound_estimate_le

/-- The terms that the second round stores are those of the tank as it leaves it. -/
theorem State.closingRound_termsOf_eq (s : State) (i : BankId) : s.closingRound.termsOf i = s.settleBanks.termsOf i := by
  have after : s.settleBanks.termsOf i = s.termsAt s.settleBanks.spc.estimate i :=
    State.termsOf_eq_termsAt rfl rfl rfl rfl rfl rfl (by
      rw [State.settleBanks_eq, State.closingRound_bank, Bank.rounded_enabled, State.closingRound_bank, Bank.rounded_enabled])
  rw [after, State.closingRound_termsOf]
  by_cases above : s.params.reserve < s.closingRound.spc.estimate
  · rw [State.second_round_estimate above]
  · have below : ¬ s.params.reserve < s.settleBanks.spc.estimate := by have := s.settleBanks_estimate_le; omega
    simp [State.termsAt, above, below]

theorem State.settleBanks_termsOf (s : State) (i : BankId) :
    s.settleBanks.termsOf i = s.termsAt s.settleBanks.spc.estimate i := by
  rw [← State.closingRound_termsOf_eq, State.closingRound_termsOf]
  by_cases above : s.params.reserve < s.closingRound.spc.estimate
  · rw [State.second_round_estimate above]
  · have below : ¬ s.params.reserve < s.settleBanks.spc.estimate := by have := s.settleBanks_estimate_le; omega
    simp [State.termsAt, above, below]

/-- A permissive that stands at the end stood at the beginning: the tank only falls. -/
theorem State.all_of_settleBanks_all {s : State} {i : BankId} (h : (s.settleBanks.termsOf i).all = true) :
    (s.termsOf i).all = true := by
  rw [State.settleBanks_termsOf] at h
  exact State.all_termsAt_of_le (Nat.le_trans s.settleBanks_estimate_le s.closingRound_estimate_le) h

/-- A bank after both rounds: the terms of the inputs as they stand, the valve closed where they are not all true, and the
latches of the two evaluations. -/
def Bank.settled (b : Bank) (before after : Terms) (flow : Nat) : Bank :=
  { (if b.valve && !after.all then b.closed flow else b) with
    terms := after, firstFailing := ((b.evaluated before).evaluated after).firstFailing }

theorem State.settleBanks_bank (s : State) (i : BankId) : s.settleBanks.spc.banks.get i =
    (s.spc.banks.get i).settled (s.termsOf i) (s.settleBanks.termsOf i) (s.params.nozzleFlow i) := by
  have falls : (s.settleBanks.termsOf i).all = true → (s.termsOf i).all = true := State.all_of_settleBanks_all
  have flow : s.closingRound.params.nozzleFlow i = s.params.nozzleFlow i := rfl
  rw [← State.closingRound_termsOf_eq] at falls ⊢
  rw [State.settleBanks_eq, State.closingRound_bank, State.closingRound_bank, flow]
  generalize s.spc.banks.get i = b at *
  generalize s.termsOf i = before at *
  generalize s.closingRound.termsOf i = after at *
  cases hv : b.valve with
  | false => simp [Bank.rounded, Bank.settled, Bank.evaluated, Bank.loses, hv]
  | true =>
    cases hb : before.all <;> cases ha : after.all <;>
      simp_all [Bank.rounded, Bank.settled, Bank.evaluated, Bank.closed, Bank.loses, Bank.microlitres]

@[simp] theorem Bank.settled_terms (b : Bank) (before after : Terms) (flow : Nat) :
    (b.settled before after flow).terms = after := rfl

@[simp] theorem Bank.settled_valve (b : Bank) (before after : Terms) (flow : Nat) :
    (b.settled before after flow).valve = (b.valve && after.all) := by
  cases hv : b.valve <;> cases ha : after.all <;> simp [Bank.settled, Bank.closed, hv, ha]

/-- A bank that keeps its valve as it is has its terms and its latch alone written. -/
theorem Bank.settled_of_permissive (b : Bank) (before : Terms) {after : Terms} (flow : Nat)
    (h : after.all = true ∨ b.valve = false) : b.settled before after flow =
      { b with terms := after, firstFailing := ((b.evaluated before).evaluated after).firstFailing } := by
  rcases h with h | h <;> simp [Bank.settled, h]

theorem Bank.settled_of_lost {b : Bank} (before : Terms) {after : Terms} (flow : Nat) (open_ : b.valve = true)
    (lost : after.all = false) : b.settled before after flow =
      { b.closed flow with terms := after, firstFailing := ((b.evaluated before).evaluated after).firstFailing } := by
  simp [Bank.settled, open_, lost]

/-! ## The water of both rounds -/

theorem Sge.addWater_addWater (e : Sge) (m n : Nat) : (e.addWater m).addWater n = e.addWater (m + n) := by
  have saturates : min maxU32 (min maxU32 (e.figures.water + m) + n) = min maxU32 (e.figures.water + (m + n)) := by omega
  unfold Sge.addWater Sge.note
  split
  · next present => simp only [present, saturates]
  · rfl

/-- The millilitres that both rounds hand over. -/
def State.settledMl (s : State) : Nat :=
  s.evalTerms.closingMl lostValve + s.closingRound.evalTerms.closingMl lostValve

theorem State.settleBanks_sge (s : State) : s.settleBanks.sge = s.sge.addWater s.settledMl := by
  rw [State.settledMl, ← Sge.addWater_addWater]; rfl

theorem State.settleBanks_estimate (s : State) : s.settleBanks.spc.estimate = s.spc.estimate - s.settledMl := by
  rw [State.settledMl, ← Nat.sub_sub]; rfl

/-- The millilitres that a bank hands over where its valve closes. -/
def Bank.closingMl (b : Bank) (closes : Bool) (flow : Nat) : Nat := if closes then b.microlitres flow / 1000 else 0

theorem State.closingMl_eq (s : State) (p : BankId → Bank → Bool) : s.closingMl p =
    (s.spc.banks.get .b0).closingMl (p .b0 (s.spc.banks.get .b0)) (s.params.nozzleFlow .b0) +
      (s.spc.banks.get .b1).closingMl (p .b1 (s.spc.banks.get .b1)) (s.params.nozzleFlow .b1) +
      (s.spc.banks.get .b2).closingMl (p .b2 (s.spc.banks.get .b2)) (s.params.nozzleFlow .b2) +
      (s.spc.banks.get .b3).closingMl (p .b3 (s.spc.banks.get .b3)) (s.params.nozzleFlow .b3) := rfl

/-- A valve closes in one round at most. -/
theorem State.closingMl_rounds (s : State) (i : BankId) :
    (s.evalTerms.spc.banks.get i).closingMl (lostValve i (s.evalTerms.spc.banks.get i)) (s.params.nozzleFlow i) +
      (s.closingRound.evalTerms.spc.banks.get i).closingMl (lostValve i (s.closingRound.evalTerms.spc.banks.get i))
        (s.params.nozzleFlow i) =
      (s.spc.banks.get i).closingMl ((s.spc.banks.get i).valve && !(s.settleBanks.termsOf i).all)
        (s.params.nozzleFlow i) := by
  have falls : (s.settleBanks.termsOf i).all = true → (s.termsOf i).all = true := State.all_of_settleBanks_all
  simp only [State.evalTerms_bank, State.closingRound_bank, State.closingRound_termsOf_eq]
  generalize s.spc.banks.get i = b at *
  generalize s.termsOf i = before at *
  generalize s.settleBanks.termsOf i = after at *
  cases hv : b.valve with
  | false => simp [Bank.closingMl, lostValve, Bank.evaluated, Bank.rounded, hv]
  | true =>
    cases hb : before.all <;> cases ha : after.all <;>
      simp_all [Bank.closingMl, lostValve, Bank.evaluated, Bank.rounded, Bank.closed, Bank.microlitres]

/-- The millilitres of a change are those of the banks whose valve it closes. -/
theorem State.settledMl_eq (s : State) (ml : BankId → Nat)
    (h : ∀ i, ml i = (s.spc.banks.get i).closingMl ((s.spc.banks.get i).valve && !(s.settleBanks.termsOf i).all)
      (s.params.nozzleFlow i)) : s.settledMl = ml .b0 + ml .b1 + ml .b2 + ml .b3 := by
  have flow (i : BankId) : s.evalTerms.params.nozzleFlow i = s.params.nozzleFlow i := rfl
  have flow' (i : BankId) : s.closingRound.evalTerms.params.nozzleFlow i = s.params.nozzleFlow i := rfl
  rw [State.settledMl, State.closingMl_eq, State.closingMl_eq]
  simp only [h, ← State.closingMl_rounds, flow, flow']
  omega

/-! ## The notices of both rounds -/

theorem crossesReserve_trans {reserve e e1 e2 : Nat} (h1 : e1 ≤ e) (h2 : e2 ≤ e1) :
    (crossesReserve reserve e e1 || crossesReserve reserve e1 e2) = crossesReserve reserve e e2 := by
  rw [Bool.eq_iff_iff]
  simp only [crossesReserve, Bool.or_eq_true, Bool.and_eq_true, decide_eq_true_eq]
  omega

/-- Does one of the two evaluations take a permissive away with T1 true (R119)? -/
def State.blocks (s : State) : Bool :=
  s.spc.banks.any (fun i b => b.loses (s.termsOf i)) ||
    s.closingRound.spc.banks.any (fun i b => b.loses (s.closingRound.termsOf i))

theorem State.closingRound_noticed (s : State) (q : PortId) (k : Notice) : (s.closingRound.port q).hasNotice k =
    ((s.port q).hasNotice k || (s.spc.banks.any (fun i b => b.loses (s.termsOf i)) && decide (k = .sprayBlock)) ||
      (crossesReserve s.params.reserve s.spc.estimate s.closingRound.spc.estimate && decide (k = .tankReserve))) := by
  simp only [State.closingRound, State.closeWhere_port, State.evalTerms_port, Port.postIf_hasNotice]
  rfl

theorem State.settleBanks_noticed (s : State) (q : PortId) (k : Notice) : (s.settleBanks.port q).hasNotice k =
    ((s.port q).hasNotice k || (s.blocks && decide (k = .sprayBlock)) ||
      (crossesReserve s.params.reserve s.spc.estimate s.settleBanks.spc.estimate && decide (k = .tankReserve))) := by
  have params : s.closingRound.params = s.params := rfl
  rw [← crossesReserve_trans s.closingRound_estimate_le s.settleBanks_estimate_le, State.settleBanks_eq,
    State.closingRound_noticed, State.closingRound_noticed, State.blocks, params]
  simp only [Bool.and_or_distrib_right]
  ac_rfl

end Sys2Proof.Machine

/-! PROOF. What the operations of the Arm Controller, the Segment Engine and the Claim Table keep, once for every predicate: the
records that an arm and the pickup can be given (R78 to R97), and that a predicate which the single updates keep is kept by
every operation made of them. -/

namespace Sys2Proof.Machine

/-! ## The records of an arm and of the pickup -/

/-- An arm that is not out and not about to go out (R97). -/
abbrev Arm.notOut (a : Arm) : Prop :=
  a.state ≠ .deploying ∧ a.state ≠ .working ∧ (a.state = .homing → a.deployPending = false)

/-- The pickup is not down and not on its way down (R97). -/
abbrev Pickup.notDown (u : Pickup) : Prop := u.state ≠ .lowering ∧ u.state ≠ .working

/-- The levels that the slew outputs take are levels (R84). -/
abbrev Params.slewLegal (p : Params) : Prop := p.slewMaxLevel ≤ 4095 ∧ p.homingLevel ≤ 4095

/-- A change of an arm's record: under STOPIN it brings no arm out, and legal outputs stay legal. -/
structure Arm.Moves (p : Params) (stop : Bool) (a x : Arm) : Prop where
  stays : stop = true → a.notOut → x.notOut
  legal : p.slewLegal → a.driveRule → x.driveRule

/-- A change of the pickup's record, likewise. -/
structure Pickup.Moves (stop : Bool) (u x : Pickup) : Prop where
  stays : stop = true → u.notDown → x.notDown
  legal : u.driveRule → x.driveRule

/-- The records that the arm of a state can be given. -/
abbrev State.ArmMoves (s : State) (side : Side) (x : Arm) : Prop := Arm.Moves s.params s.stopin (s.arm side) x

/-- The records that the pickup of a state can be given. -/
abbrev State.PickupMoves (s : State) (x : Pickup) : Prop := Pickup.Moves s.stopin s.arc.pickup x

section Records

variable {p : Params} {stop : Bool} {a x : Arm} {u v : Pickup}

theorem Arm.Moves.trans {b : Arm} (first : Arm.Moves p stop a b) (second : Arm.Moves p stop b x) : Arm.Moves p stop a x :=
  ⟨fun hs h => second.stays hs (first.stays hs h), fun hp h => second.legal hp (first.legal hp h)⟩

theorem Pickup.Moves.trans {w : Pickup} (first : Pickup.Moves stop u v) (second : Pickup.Moves stop v w) :
    Pickup.Moves stop u w :=
  ⟨fun hs h => second.stays hs (first.stays hs h), fun h => second.legal (first.legal h)⟩

/-- A record with the same state, outputs and pending deploy. -/
theorem Arm.Moves.of_figures (state : x.state = a.state) (phase : x.phase = a.phase)
    (pending : x.deployPending = a.deployPending) (plus : x.slewPlus = a.slewPlus) (minus : x.slewMinus = a.slewMinus)
    (up : x.liftUp = a.liftUp) (down : x.liftDown = a.liftDown) (level : x.brushLevel = a.brushLevel) :
    Arm.Moves p stop a x := by
  constructor
  · intro _ h; simpa only [Arm.notOut, state, pending] using h
  · intro _ h; simpa only [Arm.driveRule, state, phase, plus, minus, up, down, level] using h

theorem Arm.Moves.lifted (a : Arm) (cause : Cause) (timeout : Nat) : Arm.Moves p stop a (a.lifted cause timeout) := by
  constructor <;> simp +contextual [Arm.lifted, Arm.notOut, Arm.driveRule]

theorem Arm.Moves.faulted (a : Arm) (cause : Cause) : Arm.Moves p stop a (a.faulted cause) := by
  constructor <;> simp [Arm.faulted, Arm.notOut, Arm.driveRule]

theorem Arm.Moves.stowed (idle : a.state ≠ .working) : Arm.Moves p stop a a.stowed := by
  constructor <;> simp +contextual [Arm.stowed, Arm.notOut, Arm.driveRule, idle]

/-- An arm that starts to deploy: from STOWED with STOPIN released, or on the index that a pending deploy has waited for. -/
theorem Arm.Moves.deploying {target : Int} {pending : Bool} {timer : Timer}
    (go : stop = false ∧ a.state = .stowed ∨ a.state = .homing ∧ a.deployPending = true) :
    Arm.Moves p stop a { a with
      slewTarget := target, deployPending := pending, state := .deploying, phase := .slew, moveTimer := timer } := by
  constructor
  · rintro rfl
    simp_all [Arm.notOut]
  · intro _ h
    rcases go with ⟨_, go⟩ | ⟨go, _⟩ <;> simp_all [Arm.driveRule]

/-- An arm that starts to home, or takes a deploy while it homes. -/
theorem Arm.Moves.homing {target : Int} {pending : Bool} {timer : Timer} (go : stop = false)
    (idle : a.state = .stowed ∨ a.state = .homing) :
    Arm.Moves p stop a { a with slewTarget := target, deployPending := pending, state := .homing, moveTimer := timer } := by
  constructor
  · simp [go]
  · intro _ h
    rcases idle with idle | idle <;> simp_all [Arm.driveRule]

/-- The lift phases of an arm on its switches. -/
theorem Arm.Moves.switchMoves (a : Arm) : Arm.Moves p stop a a.switchMoves := by
  unfold Arm.switchMoves
  split
  · split
    · constructor <;> simp +contextual [Arm.notOut, Arm.driveRule]
    · exact .of_figures rfl rfl rfl rfl rfl rfl rfl rfl
  · next up => constructor <;> simp +contextual [Arm.notOut, Arm.driveRule, up]
  all_goals exact .of_figures rfl rfl rfl rfl rfl rfl rfl rfl

/-- An arm on target in SLEW goes on to LOWER, or to SPINUP where it is down already. -/
theorem Arm.Moves.onTarget (out : a.state = .deploying) :
    Arm.Moves p stop a
      (if a.downSw then { a with phase := .spinup, liftDown := false } else { a with phase := .lower, liftDown := true }) := by
  cases a.downSw <;> constructor <;> simp +contextual [Arm.notOut, Arm.driveRule, out]

theorem Arm.Moves.working (out : a.state = .deploying) (up : a.phase = .spinup) :
    Arm.Moves p stop a { a with state := .working, moveTimer := none } := by
  constructor <;> simp +contextual [Arm.notOut, Arm.driveRule, out, up]

theorem Arm.Moves.slewed (onTarget : Bool) {plus minus : Nat} (oneWay : plus = 0 ∨ minus = 0)
    (plusLe : p.slewLegal → plus ≤ 4095) (minusLe : p.slewLegal → minus ≤ 4095) :
    Arm.Moves p stop a { a with onTarget := onTarget, slewPlus := plus, slewMinus := minus } := by
  constructor
  · intro _ h; exact h
  · intro hp h
    obtain ⟨_, _, h⟩ := h
    exact ⟨plusLe hp, minusLe hp, h.1, oneWay, h.2.2⟩

theorem Arm.Moves.driven (rpm : Nat) {level : Nat} (le : level ≤ 4095) (only : level ≠ 0 → a.state = .working) :
    Arm.Moves p stop a { a with rpm := rpm, brushLevel := level } := by
  constructor
  · intro _ h; exact h
  · rintro _ ⟨plus, minus, _, oneWay, _, lifts⟩
    exact ⟨plus, minus, le, oneWay, only, lifts⟩

theorem Pickup.Moves.of_figures (state : v.state = u.state) (mainLevel : v.mainLevel = u.mainLevel)
    (fanLevel : v.fanLevel = u.fanLevel) (raise : v.raiseValve = u.raiseValve) (lower : v.lowerValve = u.lowerValve) :
    Pickup.Moves stop u v := by
  constructor
  · intro _ h; simpa only [Pickup.notDown, state] using h
  · intro h; simpa only [Pickup.driveRule, state, mainLevel, fanLevel, raise, lower] using h

theorem Pickup.Moves.raised (u : Pickup) (cause : Cause) (timeout : Nat) : Pickup.Moves stop u (u.raised cause timeout) := by
  cases hs : u.upSw <;> constructor <;> simp [Pickup.raised, Pickup.notDown, Pickup.driveRule, hs]

theorem Pickup.Moves.lowered {timeout : Nat} (go : stop = false) (rest : u.state = .up) :
    Pickup.Moves stop u (u.lowered timeout) := by
  cases hs : u.downSw <;> constructor <;> simp +contextual [Pickup.lowered, Pickup.notDown, Pickup.driveRule, hs, go, rest]

theorem Pickup.Moves.faulted (u : Pickup) (cause : Cause) : Pickup.Moves stop u (u.faulted cause) := by
  constructor <;> simp [Pickup.faulted, Pickup.notDown, Pickup.driveRule]

theorem Pickup.Moves.cleared (fault : u.state = .fault) : Pickup.Moves stop u { u with state := .up } := by
  constructor <;> simp +contextual [Pickup.notDown, Pickup.driveRule, fault]

/-- The pickup's phases on its switches; under STOPIN no lowering is in progress. -/
theorem Pickup.Moves.switchMoves (u : Pickup) : Pickup.Moves stop u u.switchMoves := by
  cases hu : u.upSw <;> cases hd : u.downSw <;> cases hs : u.state <;> constructor <;>
    simp +contextual [Pickup.switchMoves, Pickup.notDown, Pickup.driveRule, hs, hu, hd]

theorem Pickup.Moves.mainDriven (rpm : Nat) {level : Nat} (le : level ≤ 4095) (only : level ≠ 0 → u.state = .working) :
    Pickup.Moves stop u { u with mainRpm := rpm, mainLevel := level } := by
  constructor
  · intro _ h; exact h
  · rintro ⟨_, fan, drives, valves⟩
    exact ⟨le, fan, fun h => h.elim only fun h => drives (.inr h), valves⟩

theorem Pickup.Moves.fanDriven (rpm : Nat) {level : Nat} (le : level ≤ 4095) (only : level ≠ 0 → u.state = .working) :
    Pickup.Moves stop u { u with fanRpm := rpm, fanLevel := level } := by
  constructor
  · intro _ h; exact h
  · rintro ⟨main, _, drives, valves⟩
    exact ⟨main, le, fun h => h.elim (fun h => drives (.inl h)) only, valves⟩

end Records

/-- A record that keeps the arm in or out of WORKING is put without a word to the Spray Controller. -/
theorem State.setArm_eq_putArm (s : State) {side : Side} {x : Arm}
    (same : (x.state = .working ↔ (s.arm side).state = .working)) : s.setArm side x = s.putArm side x := by
  have : ((x.state == .working) != ((s.arm side).state == .working)) = false := by
    rw [bne_eq_false_iff_eq, Bool.eq_iff_iff]; simpa using same
  rw [State.putArm, this]; rfl

theorem State.setPickup_eq_putPickup (s : State) {x : Pickup}
    (same : (x.state = .working ↔ s.arc.pickup.state = .working)) :
    { s with arc := { s.arc with pickup := x } } = s.putPickup x := by
  have : ((x.state == .working) != (s.arc.pickup.state == .working)) = false := by
    rw [bne_eq_false_iff_eq, Bool.eq_iff_iff]; simpa using same
  rw [State.putPickup, this]; rfl

/-! ## Records that a switch, the deadband test or a phase gives -/

@[simp] theorem Arm.withSwitch_state (a : Arm) (sw : SwitchEnd) (active : Bool) : (a.withSwitch sw active).state = a.state := by
  cases sw <;> rfl

@[simp] theorem Pickup.withSwitch_state (u : Pickup) (sw : SwitchEnd) (active : Bool) :
    (u.withSwitch sw active).state = u.state := by cases sw <;> rfl

@[simp] theorem Arm.switchMoves_state (a : Arm) : a.switchMoves.state = a.state := by
  unfold Arm.switchMoves; split
  · split <;> rfl
  all_goals rfl

theorem State.withSwitch_armMoves (s : State) (side : Side) (sw : SwitchEnd) (active : Bool) :
    s.ArmMoves side ((s.arm side).withSwitch sw active) := by
  cases sw <;> exact .of_figures rfl rfl rfl rfl rfl rfl rfl rfl

theorem State.withSwitch_pickupMoves (s : State) (sw : SwitchEnd) (active : Bool) :
    s.PickupMoves (s.arc.pickup.withSwitch sw active) := by
  cases sw <;> exact .of_figures rfl rfl rfl rfl rfl

theorem State.aimed_state (s : State) (side : Side) : (s.aimed side).state = (s.arm side).state := by
  unfold State.aimed; dsimp only; split <;> rfl

theorem State.aimed_moves (s : State) (side : Side) : s.ArmMoves side (s.aimed side) := by
  unfold State.aimed; dsimp only; split
  · exact .of_figures rfl rfl rfl rfl rfl rfl rfl rfl
  · exact .of_figures rfl rfl rfl rfl rfl rfl rfl rfl

/-- Stage 2 of the pickup: a full stall counts and lifts it, and anything else only runs its stall timer (R92). -/
theorem State.stallPickup_cases (s : State) :
    (s.pickupInStall = true ∧ s.params.stallTime ≤ s.arc.pickup.stallTimer + 10 ∧
      s.stallPickup = ({ s with arc := { s.arc with
        pickup := { s.arc.pickup with stallCount := min 255 (s.arc.pickup.stallCount + 1) } } } :
          State).stallEvent.raisePickup .stall) ∨
    (¬ (s.pickupInStall = true ∧ s.params.stallTime ≤ s.arc.pickup.stallTimer + 10) ∧
      s.stallPickup = { s with arc := { s.arc with pickup := { s.arc.pickup with
        stallTimer := if s.pickupInStall then s.arc.pickup.stallTimer + 10 else 0 } } }) := by
  unfold State.stallPickup
  cases s.pickupInStall
  · exact .inr ⟨by simp, by simp⟩
  · by_cases long : s.params.stallTime ≤ s.arc.pickup.stallTimer + 10
    · exact .inl ⟨rfl, long, by simp [long]⟩
    · exact .inr ⟨by simp [long], by simp [long]⟩

/-! ## The single updates of the Arm Controller -/

/-- A predicate that the single updates of the Arm Controller keep. -/
structure ArmKept (P : State → Prop) : Prop where
  fault : ∀ {s : State}, P s → P (s.post .armFault)
  lane : ∀ {s : State} (l : LaneId) (r : LaneReq), P s → P (s.publishLane l r)
  clamp : ∀ {s : State} (l : LaneId) (k : ClampKind) (sat : Bool), P s → P (s.raiseClamp l k sat)
  stall : ∀ {s : State}, P s → P s.stallEvent
  arm : ∀ {s : State} {side : Side} {x : Arm}, s.ArmMoves side x → P s → P (s.putArm side x)
  pickup : ∀ {s : State} {x : Pickup}, s.PickupMoves x → P s → P (s.putPickup x)
  clock : ∀ {s : State} (cap : Option Nat) (timer : Timer), P s →
    P { s with arc := { s.arc with cap := cap, updateTimer := timer } }

namespace ArmKept

variable {P : State → Prop} {s : State} (hP : ArmKept P)
include hP

/-- A record that keeps the arm in or out of WORKING. -/
theorem setArm {side : Side} {x : Arm} (moves : s.ArmMoves side x)
    (same : x.state = .working ↔ (s.arm side).state = .working) (h : P s) : P (s.setArm side x) := by
  rw [s.setArm_eq_putArm same]; exact hP.arm moves h

theorem setPickup {x : Pickup} (moves : s.PickupMoves x) (same : x.state = .working ↔ s.arc.pickup.state = .working)
    (h : P s) : P { s with arc := { s.arc with pickup := x } } := by
  rw [s.setPickup_eq_putPickup same]; exact hP.pickup moves h

theorem pickupLanesOff (h : P s) : P s.pickupLanesOff := hP.lane _ _ (hP.lane _ _ h)

/-! ## Entries (R89, R90, R96) -/

theorem liftArm (side : Side) (cause : Cause) (h : P s) : P (s.liftArm side cause) :=
  hP.arm (.lifted _ _ _) (hP.lane _ _ h)

theorem faultArm (side : Side) (cause : Cause) (h : P s) : P (s.faultArm side cause) :=
  hP.fault (hP.arm (.faulted _ _) (hP.lane _ _ h))

theorem raisePickup (cause : Cause) (h : P s) : P (s.raisePickup cause) :=
  hP.pickup (.raised _ _ _) (hP.pickupLanesOff h)

theorem faultPickup (cause : Cause) (h : P s) : P (s.faultPickup cause) :=
  hP.fault (hP.pickup (.faulted _ _) (hP.pickupLanesOff h))

/-! ## Requests (R78 to R82, R95) -/

theorem armRetarget (side : Side) (angle : Int) (h : P s) : P (s.armRetarget side angle).1 := by
  unfold State.armRetarget; dsimp only; split
  · exact hP.setArm (.of_figures rfl rfl rfl rfl rfl rfl rfl rfl) Iff.rfl h
  · exact h

theorem armDeploy (side : Side) (angle : Option Int) (h : P s) : P (s.armDeploy side angle).1 := by
  unfold State.armDeploy; dsimp only; split
  · exact h
  · next go =>
    have go : s.stopin = false := by simpa using fun stop => go (.inl stop)
    split
    · next rest =>
      split
      · exact hP.setArm (.deploying (.inl ⟨go, rest⟩)) (by simp [rest]) h
      · exact hP.setArm (.homing go (.inl rest)) (by simp [rest]) h
    · next homing =>
      have same (target : Int) : { s.arm side with slewTarget := target, deployPending := true } =
          { s.arm side with slewTarget := target, deployPending := true, state := .homing } := by rw [← homing]
      rw [same]
      exact hP.setArm (.homing go (.inr homing)) (by simp [homing]) h
    · split
      · exact h
      · exact hP.armRetarget side _ h
    · split
      · exact h
      · exact hP.armRetarget side _ h
    · exact h
    · exact h

theorem armStow (side : Side) (cause : Cause) (h : P s) : P (s.armStow side cause).1 := by
  rcases s.armStow_cases side cause with ⟨_, e⟩ | ⟨_, e⟩ | ⟨_, e⟩ <;> rw [e]
  · exact hP.liftArm side cause h
  · exact h
  · exact h

theorem armClear (side : Side) (h : P s) : P (s.armClear side).1 := by
  unfold State.armClear; dsimp only; split
  · exact h
  · next fault =>
    have fault : (s.arm side).state = .fault := by simpa using fun ne => fault (.inl ne)
    split
    · exact hP.setArm (.stowed (by simp [fault])) (by simp [Arm.stowed, fault]) h
    · exact hP.liftArm side _ h

theorem pickupWork (h : P s) : P s.pickupWork.1 := by
  unfold State.pickupWork; split
  · exact h
  · next go =>
    have go : s.stopin = false := by simpa using fun stop => go (.inl stop)
    split
    · next rest => exact hP.pickup (.lowered go rest) h
    all_goals exact h

theorem pickupUp (h : P s) : P s.pickupUp.1 := by
  rcases s.pickupUp_cases with e | e | e | ⟨fault, e⟩ <;> rw [e]
  · exact h
  · exact h
  · exact hP.raisePickup _ h
  · exact hP.pickup (.cleared fault) h

theorem pickupClaimLoss (h : P s) : P s.pickupClaimLoss := by
  unfold State.pickupClaimLoss; split
  · exact hP.raisePickup _ h
  · exact hP.raisePickup _ h
  all_goals exact h

/-! ## Events (R85, R86, R90, R96, R97) -/

theorem indexEvent (side : Side) (h : P s) : P (s.indexEvent side) := by
  unfold State.indexEvent; dsimp only; split
  · next homing =>
    split
    · next pending => exact hP.setArm (.deploying (.inr ⟨homing, pending⟩)) (by simp [homing]) h
    · exact hP.setArm (.stowed (by simp [homing])) (by simp [Arm.stowed, homing]) h
  · exact h

theorem armTimeout (side : Side) (h : P s) : P (s.armTimeout side) := by
  have fires : P (if (s.arm side).moveTimer.ranOut then s.faultArm side .timeout else s) := by
    split
    · exact hP.faultArm side _ h
    · exact h
  unfold State.armTimeout
  split
  exacts [fires, fires, fires, h, h, h]

theorem pickupTimeout (h : P s) : P s.pickupTimeout := by
  have fires : P (if s.arc.pickup.moveTimer.ranOut then s.faultPickup .timeout else s) := by
    split
    · exact hP.faultPickup _ h
    · exact h
  unfold State.pickupTimeout
  split
  exacts [fires, fires, h, h, h]

theorem armSwitch (side : Side) (sw : SwitchEnd) (active : Bool) (h : P s) : P (s.armSwitch side sw active) := by
  have moves := s.withSwitch_armMoves side sw active
  have state := (s.arm side).withSwitch_state sw active
  unfold State.armSwitch; dsimp only; split
  · exact hP.faultArm side _ (hP.setArm moves (by rw [state]) h)
  · exact hP.setArm (moves.trans (.switchMoves _)) (by rw [Arm.switchMoves_state, state]) h

theorem pickupSwitch (sw : SwitchEnd) (active : Bool) (h : P s) : P (s.pickupSwitch sw active) := by
  have moves := s.withSwitch_pickupMoves sw active
  have state := s.arc.pickup.withSwitch_state sw active
  unfold State.pickupSwitch; dsimp only; split
  · exact hP.faultPickup _ (hP.setPickup moves (by rw [state]) h)
  · exact hP.pickup (moves.trans (.switchMoves _)) h

theorem switchChange (unit : Equip) (sw : SwitchEnd) (active : Bool) (h : P s) : P (s.switchChange unit sw active) := by
  cases unit with
  | left => exact hP.armSwitch .left sw active h
  | right => exact hP.armSwitch .right sw active h
  | pickup => exact hP.pickupSwitch sw active h

theorem withSwitch (unit : Equip) (sw : SwitchEnd) (active : Bool) (h : P s) : P (s.withSwitch unit sw active) := by
  have arm (side : Side) : P (s.setArm side ((s.arm side).withSwitch sw active)) :=
    hP.setArm (s.withSwitch_armMoves side sw active) (by rw [Arm.withSwitch_state]) h
  cases unit with
  | left => exact arm .left
  | right => exact arm .right
  | pickup => exact hP.setPickup (s.withSwitch_pickupMoves sw active) (by rw [Pickup.withSwitch_state]) h

theorem stopArm (side : Side) (h : P s) : P (s.stopArm side) := by
  unfold State.stopArm
  split
  · exact hP.liftArm side _ h
  · exact hP.liftArm side _ h
  · refine hP.setArm ⟨fun _ out => ⟨out.1, out.2.1, fun _ => rfl⟩, fun _ legal => legal⟩ Iff.rfl h
  all_goals exact h

theorem stopPickup (h : P s) : P s.stopPickup := by
  unfold State.stopPickup
  split
  · exact hP.raisePickup _ h
  · exact hP.raisePickup _ h
  all_goals exact h

/-! ## The arm update, stage by stage (R83) -/

theorem starveArm (side : Side) (h : P s) : P (s.starveArm side) := by
  rcases s.starveArm_cases side with ⟨_, _, e⟩ | ⟨_, e⟩ <;> rw [e]
  · exact hP.liftArm side _ h
  · exact h

theorem starvePickup (h : P s) : P s.starvePickup := by
  unfold State.starvePickup; split
  · exact hP.raisePickup _ h
  · exact h

theorem stallArm (side : Side) (h : P s) : P (s.stallArm side) := by
  rcases s.stallArm_cases side with ⟨_, _, e⟩ | ⟨_, e⟩ <;> rw [e]
  · exact hP.liftArm side _ (hP.stall (hP.setArm (.of_figures rfl rfl rfl rfl rfl rfl rfl rfl) Iff.rfl h))
  · exact hP.setArm (.of_figures rfl rfl rfl rfl rfl rfl rfl rfl) Iff.rfl h

theorem stallPickup (h : P s) : P s.stallPickup := by
  rcases s.stallPickup_cases with ⟨_, _, e⟩ | ⟨_, e⟩ <;> rw [e]
  · exact hP.raisePickup _ (hP.stall (hP.setPickup (.of_figures rfl rfl rfl rfl rfl) Iff.rfl h))
  · exact hP.setPickup (.of_figures rfl rfl rfl rfl rfl) Iff.rfl h

theorem progressArm (side : Side) (h : P s) : P (s.progressArm side) := by
  have aims := s.aimed_moves side
  have state := s.aimed_state side
  have aimed : P (s.setArm side (s.aimed side)) := hP.setArm aims (by rw [state]) h
  unfold State.progressArm; dsimp only
  split
  · next out =>
    split
    · exact hP.liftArm side _ aimed
    · split
      · split
        · refine hP.setArm (aims.trans (.onTarget out)) ?_ h
          rw [← state]; split <;> rfl
        · exact aimed
      · exact aimed
      · next up =>
        split
        · exact hP.arm (aims.trans (.working out up)) h
        · exact aimed
  · split
    · exact hP.liftArm side _ aimed
    · exact aimed
  · next up =>
    split
    · exact hP.setArm (aims.trans (.stowed (by simp [up]))) (by simp [Arm.stowed, ← state, up]) h
    · exact aimed
  all_goals exact aimed

theorem slewArm (side : Side) (h : P s) : P (s.slewArm side) := by
  have level (e : Int) : s.params.slewLegal → slewLevel s.params e ≤ 4095 := fun hp =>
    Nat.le_trans (Nat.min_le_left _ _) hp.1
  unfold State.slewArm; dsimp only
  split
  · split
    · exact hP.setArm (.slewed _ (.inl rfl) (fun _ => by omega) (fun _ => by omega)) Iff.rfl h
    · split
      · exact hP.setArm (.slewed _ (.inr rfl) (level _) (fun _ => by omega)) Iff.rfl h
      · exact hP.setArm (.slewed _ (.inl rfl) (fun _ => by omega) (level _)) Iff.rfl h
  · split
    · exact hP.setArm (.slewed _ (.inl rfl) (fun _ => by omega) (fun hp => hp.2)) Iff.rfl h
    · exact hP.setArm (.slewed _ (.inl rfl) (fun _ => by omega) (fun hp => hp.2)) Iff.rfl h
    all_goals exact hP.setArm (.slewed _ (.inl rfl) (fun _ => by omega) (fun _ => by omega)) Iff.rfl h

theorem brushArm (side : Side) (h : P s) : P (s.brushArm side) := by
  refine hP.clamp (s := s.setArm side _) _ _ _ (hP.setArm (.driven _ (Nat.min_le_right _ _) ?_) Iff.rfl h)
  intro on
  by_contra off
  simp [off] at on

theorem brushMain (h : P s) : P s.brushMain := by
  refine hP.clamp (s := { s with arc := { s.arc with pickup := _ } }) _ _ _
    (hP.setPickup (.mainDriven _ (Nat.min_le_right _ _) ?_) Iff.rfl h)
  intro on
  by_contra off
  simp [off] at on

theorem brushFan (h : P s) : P s.brushFan := by
  refine hP.clamp (s := { s with arc := { s.arc with pickup := _ } }) _ _ _
    (hP.setPickup (.fanDriven _ (Nat.min_le_right _ _) ?_) Iff.rfl h)
  intro on
  by_contra off
  simp [off] at on

theorem armSafety (h : P s) : P s.armSafety :=
  hP.stallPickup (hP.stallArm _ (hP.stallArm _ (hP.starvePickup (hP.starveArm _ (hP.starveArm _ h)))))

theorem armMotion (h : P s) : P s.armMotion :=
  hP.slewArm _ (hP.slewArm _ (hP.progressArm _ (hP.progressArm _ h)))

theorem armDrives (h : P s) : P s.armDrives := hP.brushFan (hP.brushMain (hP.brushArm _ (hP.brushArm _ h)))

theorem armPublish (h : P s) : P s.armPublish := hP.clock _ _ (hP.lane _ _ (hP.lane _ _ (hP.lane _ _ (hP.lane _ _ h))))

theorem armUpdate (h : P s) : P s.armUpdate :=
  hP.clock _ _ (hP.armPublish (hP.armDrives (hP.armMotion (hP.armSafety h))))

end ArmKept

end Sys2Proof.Machine

/-! PROOF. Settings, stops and withdrawals move the equipment by the updates of the Arm Controller and of the banks; the engine
adds its own record, the claims and what it asks of travel and of the distance count. A predicate that the single updates keep
is kept by every operation made of them. -/

namespace Sys2Proof.Machine

/-! ## Settings and stops of the equipment (R140, R148, R152, R153) -/

/-- A predicate that the single updates of the equipment keep. -/
structure EquipKept (P : State → Prop) : Prop extends ArmKept P where
  setting : ∀ {s : State} (mask : Option (BitVec 4)) (dose : Option Nat), P s → P (s.spraySetting mask dose)
  disable : ∀ {s : State}, P s → P s.disableBanks

namespace EquipKept

variable {P : State → Prop} {s : State} (hP : EquipKept P)
include hP

theorem applySetting (r : Resource) (st : Settings) (h : P s) : P (s.applySetting r st) := by
  have arm (side : Side) (setting : ArmSetting) (angle : Option Int) : P (s.applyArm side setting angle) := by
    cases setting with
    | stow => exact hP.armStow side _ h
    | work => exact hP.armDeploy side angle h
    | keep => exact h
  cases r with
  | armL => exact arm _ _ _
  | armR => exact arm _ _ _
  | pickup =>
    unfold State.applySetting State.applyPickup; dsimp only; split
    · exact hP.pickupUp h
    · exact hP.pickupWork h
    · exact h
  | spray => exact hP.setting _ _ h

theorem applyHeld (st : Settings) (r : Resource) (h : P s) : P (s.applyHeld st r) := by
  unfold State.applyHeld; split
  · exact hP.applySetting r st h
  · exact h

theorem applyAllHeld (st : Settings) (h : P s) : P (s.applyAllHeld st) :=
  hP.applyHeld st _ (hP.applyHeld st _ (hP.applyHeld st _ (hP.applyHeld st _ h)))

theorem remakeSettings (h : P s) : P s.remakeSettings := by
  unfold State.remakeSettings; split
  · exact hP.applyHeld _ _ (hP.applyHeld _ _ (hP.applyHeld _ _ h))
  · exact h

theorem stopHeld (r : Resource) (h : P s) : P (s.stopHeld r) := by
  unfold State.stopHeld; split
  · cases r with
    | armL => exact hP.armStow .left _ h
    | armR => exact hP.armStow .right _ h
    | pickup => exact hP.pickupUp h
    | spray => exact hP.disable h
  · exact h

theorem stopAllHeld (h : P s) : P s.stopAllHeld :=
  hP.stopHeld _ (hP.stopHeld _ (hP.stopHeld _ (hP.stopHeld _ h)))

theorem claimLossStow (r : Resource) (h : P s) : P (s.claimLossStow r) := by
  cases r with
  | armL => exact hP.armStow .left _ h
  | armR => exact hP.armStow .right _ h
  | pickup => exact hP.pickupClaimLoss h
  | spray => exact hP.disable h

theorem returnEvent (r : Resource) (h : P s) : P (s.returnEvent r) := by
  have going : P (match s.sge.settings with | some st => s.applyHeld st r | none => s) := by
    split
    · exact hP.applyHeld _ r h
    · exact h
  unfold State.returnEvent; split
  exacts [going, going, going, hP.stopHeld r h, h]

theorem withdrawEffect (before : Claim) (r : Resource) (h : P s) : P (s.withdrawEffect before r) := by
  cases before with
  | cab => exact hP.claimLossStow r h
  | lent => exact hP.returnEvent r h
  | free => exact h
  | program => exact h

end EquipKept

/-! ## The engine and the distance that drives it (R139 to R154, R11, R12) -/

/-- The kinds that the engine posts, and STOP_INPUT (R140 to R151, R164). -/
def Notice.ofProgram : Notice → Bool
  | .segDone | .pgmStarved | .pgmSuspended | .pgmEnd | .stopInput => true
  | _ => false

/-- A predicate that the single updates of the engine keep. -/
structure EngineKept (P : State → Prop) : Prop extends EquipKept P where
  engine : ∀ {s : State} (e : Sge), P s → P { s with sge := e }
  claims : ∀ {s : State} (c : Clt), P s → P { s with clt := c }
  travel : ∀ {s : State} (g : Tgv), g.pumpFwd = s.tgv.pumpFwd → g.pumpRev = s.tgv.pumpRev → g.motor = s.tgv.motor → P s →
    P { s with tgv := g }
  activate : ∀ {s : State} (i : Fin 8), P s → P (s.activateProfile i)
  segment : ∀ {s : State}, P s → P s.spraySegmentStart
  post : ∀ {s : State} (k : Notice), k.ofProgram = true → P s → P (s.post k)
  told : ∀ {s : State} (on : Bool), P s → P { s with ports := { s.ports with cab := s.ports.cab.postIf .claimLost on } }

namespace EngineKept

variable {P : State → Prop} {s : State} (hP : EngineKept P)
include hP

theorem record (e : Sge) (c : Clt) (g : Tgv) (fwd : g.pumpFwd = s.tgv.pumpFwd) (rev : g.pumpRev = s.tgv.pumpRev)
    (motor : g.motor = s.tgv.motor) (h : P s) : P { s with sge := e, clt := c, tgv := g } :=
  hP.travel (s := { s with sge := e, clt := c }) g fwd rev motor (hP.claims (s := { s with sge := e }) c (hP.engine e h))

theorem rearm (h : P s) : P s.rearm := hP.travel s.tgv.rearmed rfl rfl rfl h

theorem adoptSettings (st : Settings) (h : P s) : P (s.adoptSettings st) :=
  hP.record { s.sge with settings := some st } s.clt { s.tgv with segCap := st.speedCap } rfl rfl rfl h

theorem segmentStart (h : P s) : P s.segmentStart :=
  hP.segment (hP.engine _ (hP.applyAllHeld _ (hP.activate _ (hP.adoptSettings _ (hP.engine _ h)))))

theorem startProgram (p : PortId) (i : Fin 32) (h : P s) : P (s.startProgram p i) :=
  hP.segmentStart (hP.record _ (s.clt.map Claim.onStart) s.tgv rfl rfl rfl h)

theorem writeback (st : SegStatus) (h : P s) : P (s.writeback st) := hP.post _ rfl (hP.engine _ h)

theorem programEnd (k : EndKind) (h : P s) : P (s.programEnd k) := by
  refine hP.post _ rfl (hP.record (s.sge.ended k) (s.clt.map Claim.onEnd) (s.tgv.programEnded k) ?_ ?_ ?_ h)
  all_goals unfold Tgv.programEnded; dsimp only; split <;> rfl

theorem fetch (h : P s) : P s.fetch := by
  unfold State.fetch; split
  · exact hP.segmentStart h
  · exact hP.post _ rfl (hP.engine _ h)

theorem suspend (c : SuspendCause) (r : ReturnState) (h : P s) : P (s.suspend c r) := hP.post _ rfl (hP.engine _ h)

theorem beginStopping (h : P s) : P s.beginStopping :=
  hP.stopAllHeld (hP.record { s.sge with state := .stopping } s.clt
    { s.tgv with stopRequest := true, stopReported := false } rfl rfl rfl h)

theorem segmentEnd (h : P s) : P s.segmentEnd := by
  have done : P (s.writeback .done) := hP.writeback _ h
  have next : P (s.writeback .done).advanceCursor := hP.engine _ done
  unfold State.segmentEnd; dsimp only; split
  · split
    · exact hP.programEnd _ done
    · exact hP.fetch next
  · split
    · exact hP.programEnd _ done
    · exact hP.suspend _ _ next
  · exact hP.beginStopping h

theorem engineMm (h : P s) : P s.engineMm := by
  unfold State.engineMm; split
  · dsimp only; split
    · exact hP.segmentEnd (hP.engine _ h)
    · exact hP.engine _ h
  · exact hP.engine _ h
  all_goals exact h

theorem stopComplete (h : P s) : P s.stopComplete := by
  have told : P { s with tgv := { s.tgv with stopReported := true } } :=
    hP.travel { s.tgv with stopReported := true } rfl rfl rfl h
  unfold State.stopComplete; dsimp only; split
  · exact hP.programEnd _ (hP.writeback _ told)
  · exact told

theorem returned (h : P s) : P s.returned := hP.engine _ h

theorem resumePause (h : P s) : P s.resumePause := hP.fetch (hP.engine _ h)

theorem abortSegment (h : P s) : P s.abortSegment := by
  unfold State.abortSegment; split
  · exact hP.writeback _ h
  · exact h

theorem engineStopInput (h : P s) : P s.engineStopInput := by
  unfold State.engineStopInput; split
  · exact hP.suspend _ _ (hP.engine _ h)
  · exact hP.suspend _ _ h
  · split
    · exact hP.engine _ h
    · exact h
  · exact hP.engine _ h
  · exact h

theorem withdrawCab (h : P s) : P s.withdrawCab := by
  have withdrawn : P { s with clt := s.clt.map Claim.withdrawn } := hP.claims _ h
  exact hP.withdrawEffect _ _ (hP.withdrawEffect _ _ (hP.withdrawEffect _ _ (hP.withdrawEffect _ _
    (hP.told _ withdrawn))))

theorem cabLost (h : P s) : P s.cabLost := hP.rearm (hP.withdrawCab h)

/-- What is ordered in READY is made of the single updates. -/
theorem orders {t : State} (act : s.Orders t) (h : P s) : P t := by
  cases act with
  | travel => exact hP.travel { s.tgv with mode := _, reqDirection := _, reqSpeed := _, awaitingZero := _ } rfl rfl rfl h
  | claim => exact hP.claims _ h
  | take r => exact hP.record (s := s) _ (s.clt.set r (s.clt.get r).taken) s.tgv rfl rfl rfl h
  | release => exact hP.claims _ h
  | giveBack => exact hP.returnEvent _ (hP.claims _ h)
  | deploy => exact hP.armDeploy _ _ h
  | retarget => exact hP.armRetarget _ _ h
  | stow => exact hP.armStow _ _ h
  | armClear => exact hP.armClear _ h
  | pickupWork => exact hP.pickupWork h
  | pickupUp => exact hP.pickupUp h
  | spraySet => exact hP.setting _ _ h
  | select => exact hP.activate _ h
  | descWrite => exact hP.engine _ h
  | descReturn => exact hP.engine _ h
  | start => exact hP.startProgram _ _ h
  | poll => exact hP.segmentStart h
  | suspendRunning => exact hP.suspend _ _ h
  | suspendStarved => exact hP.suspend _ _ h
  | resume => exact hP.returned h
  | resumePause => exact hP.resumePause h
  | resumeStop => exact hP.returned (hP.remakeSettings h)
  | abort => exact hP.programEnd _ (hP.stopAllHeld (hP.abortSegment h))

theorem travelTick (h : P s.travelStages) : P s.travelTick := by
  unfold State.travelTick; dsimp only; split
  · exact hP.stopComplete h
  · exact h

end EngineKept

/-- A predicate that the forward distance keeps too: the marks and the counters of R11 and R12. -/
structure DistanceKept (P : State → Prop) : Prop extends EngineKept P where
  mark : ∀ {s : State}, P s → P s.distanceMark
  distance : ∀ {s : State} (um : Nat) (mm : BitVec 32) (progress : Nat), P s →
    P { s with ctu := { s.ctu with remainder := um, accumulator := mm, markProgress := progress } }

namespace DistanceKept

variable {P : State → Prop} {s : State} (hP : DistanceKept P)
include hP

theorem markMm (h : P s) : P s.markMm := by
  unfold State.markMm; split
  · exact hP.mark (hP.distance _ _ _ h)
  · exact hP.distance _ _ _ h

theorem forwardMm (h : P s) : P s.forwardMm := hP.markMm (hP.engineMm (hP.distance _ _ _ h))

theorem forwardMms (n : Nat) (h : P s) : P (s.forwardMms n) := by
  induction n generalizing s with
  | zero => exact h
  | succ n ih => exact ih (hP.forwardMm h)

theorem forwardCount (h : P s) : P s.forwardCount := hP.forwardMms _ (hP.distance _ _ _ h)

theorem countEdge {c : ChanId} {e : Edge} (h : P (s.setChan c ((s.chan c).counted e))) : P (s.countEdge c e) := by
  unfold State.countEdge; dsimp only; split
  · exact hP.forwardCount h
  · exact h

end DistanceKept

/-! ## What the counters and the budget leave as it is -/

/-- The engine record without the figures of the current segment. -/
def Sge.core (e : Sge) : Sge := { e with figures := Sge.reset.figures }

theorem Sge.note_core (e : Sge) (f : SegFigures → SegFigures) : (e.note f).core = e.core := by
  unfold Sge.note; split <;> rfl

@[simp] theorem Sge.addWater_core (e : Sge) (ml : Nat) : (e.addWater ml).core = e.core := e.note_core _
@[simp] theorem Sge.addStall_core (e : Sge) : e.addStall.core = e.core := e.note_core _
@[simp] theorem Sge.noteStale_core (e : Sge) : e.noteStale.core = e.core := e.note_core _
@[simp] theorem Sge.noteShed_core (e : Sge) (stale : Bool) : (e.noteShed stale).core = e.core := e.note_core _
@[simp] theorem Sge.noteDoseShort_core (e : Sge) : e.noteDoseShort.core = e.core := e.note_core _
@[simp] theorem Sge.noteStopInput_core (e : Sge) : e.noteStopInput.core = e.core := e.note_core _
@[simp] theorem Sge.noteTake_core (e : Sge) (r : Resource) : (e.noteTake r).core = e.core := e.note_core _

/-- Nothing has changed but the counters, the budget record, the banks, the profiles, the figures of the segment, and the
ports. -/
structure State.Still (s t : State) : Prop where
  rstn : t.rstnHeld = s.rstnHeld
  stop : t.stopin = s.stopin
  tgv : t.tgv = s.tgv
  arc : t.arc = s.arc
  clt : t.clt = s.clt
  cfs : t.cfs = s.cfs
  core : t.sge.core = s.sge.core

namespace State.Still

variable {s t : State}

theorem trans {u : State} (first : s.Still t) (second : t.Still u) : s.Still u :=
  ⟨second.rstn.trans first.rstn, second.stop.trans first.stop, second.tgv.trans first.tgv, second.arc.trans first.arc,
    second.clt.trans first.clt, second.cfs.trans first.cfs, second.core.trans first.core⟩

theorem sprayRefresh (s : State) : s.Still s.sprayRefresh :=
  ⟨by simp, by simp, by simp, by simp, by simp, by simp, by simp [State.sprayRefresh, settleBanks_sge]⟩

theorem refreshIf (h : s.Still t) (changed : Bool) : s.Still (t.refreshIf changed) := by
  cases changed
  · exact h
  · exact h.trans (.sprayRefresh t)

theorem publishSpry (h : s.Still t) : s.Still t.publishSpry :=
  h.trans ⟨by simp, by simp, by simp, by simp, by simp, by simp, by simp⟩

theorem profilePublished (h : s.Still t) : s.Still t.profilePublished :=
  h.trans ⟨by simp, by simp, by simp, by simp, by simp, by simp, by simp⟩

theorem speedRefresh (h : s.Still t) (before : State) : s.Still (t.speedRefresh before) := h.refreshIf _

theorem counters (s : State) (u : Ctu) (ps : PerPort Port) : s.Still { s with ctu := u, ports := ps } :=
  ⟨rfl, rfl, rfl, rfl, rfl, rfl, rfl⟩

theorem figures (s : State) (b : Pba) (c : Spc) (ps : PerPort Port) : s.Still { s with pba := b, spc := c, ports := ps } :=
  ⟨rfl, rfl, rfl, rfl, rfl, rfl, rfl⟩

theorem setChan (s : State) (c : ChanId) (x : Channel) : s.Still (s.setChan c x) := counters s _ _

theorem publishSpeed (s : State) (c : ChanId) : s.Still (s.publishSpeed c) := (counters s _ _).speedRefresh s

theorem plausibility (s : State) : s.Still s.plausibility := by
  have evaluated := counters s (s.ctu.evaluated (s.params.gate .gnd)) s.ports
  unfold State.plausibility; dsimp only; split
  · exact evaluated.trans ((counters _ _ _).speedRefresh _)
  · exact evaluated

theorem asks (act : s.Asks t) : s.Still t := by
  cases act with
  | enable c => exact setChan s c _
  | disable c => exact (counters s _ s.ports).speedRefresh s
  | load c => exact setChan s c _
  | clear c => exact (setChan s c _).speedRefresh s
  | gndFaultClear => exact (counters s _ s.ports).speedRefresh s
  | budget f => exact ((figures s _ s.spc _).refreshIf _).publishSpry
  | tank n le => exact (figures s s.pba _ _).refreshIf _
  | lanesClear => exact ⟨rfl, rfl, rfl, rfl, rfl, rfl, rfl⟩
  | storeProfile i p =>
    have stored : s.Still { s with pft := { s.pft with profiles := s.pft.profiles.set i.val p i.isLt } } :=
      ⟨rfl, rfl, rfl, rfl, rfl, rfl, rfl⟩
    unfold State.storeProfile; dsimp only; split
    · exact stored.profilePublished
    · exact stored

theorem senses (act : s.Senses t) : s.Still t := by
  cases act with
  | sampled c => exact setChan s c _
  | pulse c => exact setChan s c _
  | index c => exact setChan s c _
  | gate c => exact publishSpeed s c
  | gateGnd => exact (publishSpeed s .gnd).trans (plausibility _)
  | staled => exact ⟨rfl, rfl, rfl, rfl, rfl, rfl, by simp [State.staled]⟩
  | pulseExpired i =>
    have closed : s.Still (s.closeWhere fun j b => j == i && b.valve) :=
      ⟨rfl, rfl, rfl, rfl, rfl, rfl, by simp [State.closeWhere]⟩
    exact closed.refreshIf _

end State.Still

end Sys2Proof.Machine

/-! PROOF. While STOPIN is asserted no step brings an arm or the pickup out (R97): O57. Each unit is dealt with by itself: the
assertion lifts it, and every later update of its record keeps it in. -/

namespace Sys2Proof.Machine

/-! ## The arm of one side, and the pickup, under STOPIN -/

/-- Under STOPIN the arm of one side is not out. -/
def State.armIn (side : Side) (s : State) : Prop := s.stopin = true → (s.arm side).notOut

/-- Under STOPIN the pickup is not down. -/
def State.pickupIn (s : State) : Prop := s.stopin = true → s.arc.pickup.notDown

theorem State.stopRule_iff (s : State) : s.stopRule ↔ (∀ side, s.armIn side) ∧ s.pickupIn :=
  ⟨fun h => ⟨fun side stop => (h stop).1 side, fun stop => (h stop).2⟩, fun h stop => ⟨fun side => h.1 side stop, h.2 stop⟩⟩

theorem State.arm_putArm (s : State) (i j : Side) (x : Arm) : (s.putArm i x).arm j = if j = i then x else s.arm j := by
  rw [State.arm, State.putArm_arc, ← s.arm_setArm i j x]; rfl

@[simp] theorem State.putPickup_pickup (s : State) (x : Pickup) : (s.putPickup x).arc.pickup = x := by
  rw [State.putPickup_arc]

@[simp] theorem State.arm_putPickup (s : State) (x : Pickup) (side : Side) : (s.putPickup x).arm side = s.arm side := by
  rw [State.arm, State.putPickup_arc]; cases side <;> rfl

@[simp] theorem State.putArm_pickup (s : State) (side : Side) (x : Arm) : (s.putArm side x).arc.pickup = s.arc.pickup := by
  rw [State.putArm_arc]; cases side <;> rfl

/-- What an update of the engine's layer is to a predicate about STOPIN and the equipment: only the records of the Arm
Controller matter. -/
theorem DistanceKept.of_arc {P : State → Prop}
    (congr : ∀ {s t : State}, t.cfs = s.cfs → t.stopin = s.stopin → t.arc.left = s.arc.left → t.arc.right = s.arc.right →
      t.arc.pickup = s.arc.pickup → P s → P t)
    (arm : ∀ {s : State} {side : Side} {x : Arm}, s.ArmMoves side x → P s → P (s.putArm side x))
    (pickup : ∀ {s : State} {x : Pickup}, s.PickupMoves x → P s → P (s.putPickup x)) : DistanceKept P where
  fault := congr rfl rfl rfl rfl rfl
  lane _ _ := congr rfl rfl rfl rfl rfl
  clamp _ _ _ := congr rfl rfl rfl rfl rfl
  stall := congr rfl rfl rfl rfl rfl
  arm := arm
  pickup := pickup
  clock _ _ := congr rfl rfl rfl rfl rfl
  setting _ _ := congr (by simp) (by simp) (by simp) (by simp) (by simp)
  disable := congr (by simp) (by simp) (by simp) (by simp) (by simp)
  engine _ := congr rfl rfl rfl rfl rfl
  claims _ := congr rfl rfl rfl rfl rfl
  travel _ _ _ _ := congr rfl rfl rfl rfl rfl
  activate _ := congr (by simp) (by simp) (by simp) (by simp) (by simp)
  segment := congr rfl rfl rfl rfl rfl
  post _ _ := congr rfl rfl rfl rfl rfl
  told _ := congr rfl rfl rfl rfl rfl
  mark := congr rfl rfl rfl rfl rfl
  distance _ _ _ := congr rfl rfl rfl rfl rfl

theorem armIn_congr (side : Side) {s t : State} (stop : t.stopin = s.stopin) (left : t.arc.left = s.arc.left)
    (right : t.arc.right = s.arc.right) (h : s.armIn side) : t.armIn side := by
  cases side with
  | left => simpa only [State.armIn, State.arm, Arc.arm, stop, left] using h
  | right => simpa only [State.armIn, State.arm, Arc.arm, stop, right] using h

theorem armIn_kept (side : Side) : DistanceKept (State.armIn side) :=
  .of_arc (fun _ stop left right _ => armIn_congr side stop left right)
    (fun {s i x} moves h stop => by
      rw [s.arm_putArm]
      replace stop : s.stopin = true := by simpa using stop
      split
      · next same => subst same; exact moves.stays stop (h stop)
      · exact h stop)
    (fun _ h stop => by simpa using h (by simpa using stop))

theorem pickupIn_kept : DistanceKept State.pickupIn :=
  .of_arc (fun _ stop _ _ pickup h => by simpa only [State.pickupIn, stop, pickup] using h)
    (fun _ h stop => by simpa using h (by simpa using stop))
    (fun moves h stop => by
      rw [State.putPickup_pickup]
      exact moves.stays (by simpa using stop) (h (by simpa using stop)))

theorem stopRule_congr {s t : State} (stop : t.stopin = s.stopin) (arc : t.arc = s.arc) (h : s.stopRule) : t.stopRule := by
  simpa only [State.stopRule, State.arm, stop, arc] using h

theorem stopRule_kept : DistanceKept State.stopRule :=
  .of_arc
    (fun _ stop left right pickup h => (State.stopRule_iff _).mpr ⟨fun side => armIn_congr side stop left right
      (((State.stopRule_iff _).mp h).1 side), by simpa only [State.pickupIn, stop, pickup] using ((State.stopRule_iff _).mp h).2⟩)
    (fun moves h => (State.stopRule_iff _).mpr ⟨fun side => (armIn_kept side).arm moves (((State.stopRule_iff _).mp h).1 side),
      pickupIn_kept.arm moves ((State.stopRule_iff _).mp h).2⟩)
    (fun moves h => (State.stopRule_iff _).mpr
      ⟨fun side => (armIn_kept side).pickup moves (((State.stopRule_iff _).mp h).1 side),
        pickupIn_kept.pickup moves ((State.stopRule_iff _).mp h).2⟩)

/-! ## The assertion -/

theorem armIn_stopArm (s : State) (side : Side) : (s.stopArm side).armIn side := by
  have lifted (t : State) (cause : Cause) : (t.liftArm side cause).armIn side := fun _ => by
    rw [State.liftArm, State.arm_putArm, if_pos rfl]; simp [Arm.notOut, Arm.lifted]
  unfold State.stopArm
  split
  · exact lifted _ _
  · exact lifted _ _
  · next homing => exact fun _ => by simp [Arm.notOut, homing]
  all_goals next state => exact fun _ => by simp [Arm.notOut, state]

theorem pickupIn_stopPickup (s : State) : s.stopPickup.pickupIn := by
  have raised (t : State) (cause : Cause) : (t.raisePickup cause).pickupIn := fun _ => by
    rw [State.raisePickup, State.putPickup_pickup, Pickup.raised]; split <;> simp [Pickup.notDown]
  unfold State.stopPickup
  split
  · exact raised _ _
  · exact raised _ _
  all_goals next state => exact fun _ => by simp [Pickup.notDown, state]

theorem stopRule_stopEffects (s : State) : s.stopEffects.stopRule := by
  refine stopRule_kept.post _ rfl (stopRule_kept.engineStopInput ((State.stopRule_iff _).mpr ⟨fun side => ?_, ?_⟩))
  · refine (armIn_kept side).stopPickup ?_
    cases side with
    | left => exact (armIn_kept .left).stopArm .right (armIn_stopArm _ _)
    | right => exact armIn_stopArm _ _
  · exact pickupIn_stopPickup _

/-! ## The acts -/

/-- In UNCONFIGURED every arm and the pickup rest (R173). -/
theorem inside_of_quiet {s : State} (h : s.quiet) : (∀ side, (s.arm side).notOut) ∧ s.arc.pickup.notDown := by
  obtain ⟨_, _, _, _, _, _, _, _, _, _, _, _, ⟨left, _⟩, ⟨right, _⟩, ⟨pickup, _⟩, _⟩ := h
  refine ⟨fun side => ?_, ?_⟩
  · cases side with
    | left => rcases left with e | e <;> simp [Arm.notOut, State.arm, Arc.arm, e]
    | right => rcases right with e | e <;> simp [Arm.notOut, State.arm, Arc.arm, e]
  · rcases pickup with e | e <;> simp [Pickup.notDown, e]

theorem stopRule_still {s t : State} (still : s.Still t) (h : s.stopRule) : t.stopRule :=
  stopRule_congr still.stop still.arc h

/-- Only the states of the equipment count, and whether a deploy is pending. -/
theorem stopRule_of_states {s t : State} (stop : t.stopin = s.stopin)
    (arms : ∀ side, (t.arm side).state = (s.arm side).state ∧ (t.arm side).deployPending = (s.arm side).deployPending)
    (pickup : t.arc.pickup.state = s.arc.pickup.state) (h : s.stopRule) : t.stopRule := by
  intro asserted
  obtain ⟨inside, up⟩ := h (stop ▸ asserted)
  refine ⟨fun side => ?_, by rwa [pickup]⟩
  rw [(arms side).1, (arms side).2]
  exact inside side

theorem State.fullReset_arm_state (s : State) (held : Bool) (side : Side) :
    ((s.fullReset held).arm side).state = .stowed := by cases side <;> rfl

theorem State.fullReset_pickup_state (s : State) (held : Bool) : (s.fullReset held).arc.pickup.state = .up := rfl

@[simp] theorem State.commit_arc (s : State) : s.commit.arc = s.arc.committed := by simp [State.commit, State.commitBlocks]

@[simp] theorem State.commit_stopin (s : State) : s.commit.stopin = s.stopin := by simp [State.commit, State.commitBlocks]

theorem stopRule_does {s t : State} (act : s.Does t) (quiet : s.quietRule) (h : s.stopRule) : t.stopRule := by
  have hP := stopRule_kept
  cases act with
  | nothing => exact h
  | snaps => exact stopRule_congr (s := s) rfl rfl h
  | ask _ act => exact stopRule_still (.asks act) h
  | order _ act => exact hP.orders act h
  | sense act => exact stopRule_still (.senses act) h
  | cfgWrite => exact stopRule_congr (s := s) rfl rfl h
  | commitRefused => exact stopRule_congr (s := s) rfl rfl h
  | commit => exact stopRule_congr (t := s.commit) (s := { s with arc := s.arc.committed }) (by simp) (by simp) h
  | edge => exact hP.countEdge (stopRule_congr (s := s) rfl rfl h)
  | indexClear side => exact hP.indexEvent _ (stopRule_congr (s := s) rfl rfl h)
  | switchHeld => exact hP.withSwitch _ _ _ h
  | switch => exact hP.switchChange _ _ _ h
  | stopHeld level held => exact fun _ => inside_of_quiet (s := s) (quiet.2 (quiet.1 held))
  | stopAsserted => exact stopRule_congr (s := s.stopEffects) rfl rfl (stopRule_stopEffects s)
  | stopReleased => exact fun stop => by simp at stop
  | cabLost => exact hP.cabLost (stopRule_congr (s := s) rfl rfl h)
  | fullReset held =>
    have arm := s.fullReset_arm_state held
    have pickup := s.fullReset_pickup_state held
    exact fun _ => ⟨fun side => by rw [arm]; exact ⟨nofun, nofun, nofun⟩, by rw [pickup]; exact ⟨nofun, nofun⟩⟩
  | rstnRelease => exact stopRule_congr (s := s) rfl rfl h
  | tick => exact stopRule_of_states (s := s) rfl (fun side => by cases side <;> exact ⟨rfl, rfl⟩) rfl h
  | allocate =>
    refine stopRule_congr (s := s.publishGrants.arcOnGrants) (by simp [State.allocate]) (by simp [State.allocate]) ?_
    exact stopRule_of_states (s := s) rfl (fun side => by cases side <;> exact ⟨rfl, rfl⟩) rfl h
  | travelTick => exact hP.travelTick (stopRule_congr (s := s) rfl rfl h)
  | armUpdate => exact hP.armUpdate h
  | armTimeout => exact hP.armTimeout _ h
  | pickupTimeout => exact hP.pickupTimeout h

/-- Settles O57: the assertion lifts every unit, and no later act brings one out again. -/
theorem stopInputKeepsEquipmentUp : Obligations.StopInputKeepsEquipmentUp := by
  intro s t quiet stop next
  exact step_keeps (P := fun u => u.quietRule ∧ u.stopRule) (fun _ _ _ => Iff.rfl) (fun _ _ _ => Iff.rfl)
    (fun _ _ act h => stopRule_does act h.1 h.2) ⟨quiet, stop⟩ next

end Sys2Proof.Machine

/-! PROOF. UNCONFIGURED stays quiet (R173): O56. In READY an act leaves RSTN and the store as they are, a commit and a reset
apart; in UNCONFIGURED nothing is enabled, timed, claimed or out, so that each act left is one on records at rest. -/

namespace Sys2Proof.Machine

/-! ## Quiet, block by block -/

/-- No channel is enabled and no gate is timed. -/
def Ctu.quiet (u : Ctu) : Prop := ∀ c, (u.chans.get c).enabled = false ∧ (u.chans.get c).gateTimer = none

/-- No timer of the allocator runs and every lane is inactive and IDLE. -/
def Pba.quiet (b : Pba) : Prop :=
  b.freshTimer = none ∧ b.allocTimer = none ∧ ∀ l, (b.lane l).req = LaneReq.inactive ∧ (b.lane l).out = LaneOut.idle

/-- PARKED, with no update timed and every output off. -/
def Tgv.quiet (g : Tgv) : Prop := g.updateTimer = none ∧ g.mode = .parked ∧ g.pumpFwd = 0 ∧ g.pumpRev = 0 ∧ g.motor = 0

/-- No update is timed and the equipment rests. -/
structure Arc.Quiet (a : Arc) : Prop where
  timer : a.updateTimer = none
  left : a.left.off
  right : a.right.off
  pickup : a.pickup.off

/-- No bank is enabled, open or timed, and the pump is off. -/
def Spc.quiet (c : Spc) : Prop :=
  (∀ i, (c.banks.get i).enabled = false ∧ (c.banks.get i).valve = false ∧ (c.banks.get i).pulseTimer = none) ∧
    c.pumpLevel = 0

/-- A quiet state, block by block. -/
structure State.Quiet (s : State) : Prop where
  ctu : s.ctu.quiet
  pba : s.pba.quiet
  tgv : s.tgv.quiet
  arc : s.arc.Quiet
  idle : s.sge.state = .idle
  free : ∀ r, s.clt.get r = .free
  spc : s.spc.quiet

theorem State.quiet_iff (s : State) : s.quiet ↔ s.Quiet := by
  constructor
  · rintro ⟨ctu, fresh, lanes, alloc, travel, arms, parked, fwd, rev, motor, idle, free, left, right, pickup, banks, pump⟩
    exact ⟨ctu, ⟨fresh, alloc, lanes⟩, ⟨travel, parked, fwd, rev, motor⟩, ⟨arms, left, right, pickup⟩, idle, free,
      ⟨banks, pump⟩⟩
  · rintro ⟨ctu, ⟨fresh, alloc, lanes⟩, ⟨travel, parked, fwd, rev, motor⟩, ⟨arms, left, right, pickup⟩, idle, free,
      ⟨banks, pump⟩⟩
    exact ⟨ctu, fresh, lanes, alloc, travel, arms, parked, fwd, rev, motor, idle, free, left, right, pickup, banks, pump⟩

/-! ## Records at rest -/

theorem Arc.Quiet.arm {a : Arc} (q : a.Quiet) (side : Side) : (a.arm side).off := by
  cases side with
  | left => exact q.left
  | right => exact q.right

theorem Arc.Quiet.setArm {a : Arc} (q : a.Quiet) (side : Side) {x : Arm} (off : x.off) : (a.setArm side x).Quiet := by
  cases side with
  | left => exact ⟨q.timer, off, q.right, q.pickup⟩
  | right => exact ⟨q.timer, q.left, off, q.pickup⟩

theorem Arm.faulted_off (a : Arm) (cause : Cause) : (a.faulted cause).off :=
  ⟨.inr rfl, rfl, rfl, rfl, rfl, rfl, rfl⟩

theorem Pickup.faulted_off (u : Pickup) (cause : Cause) : (u.faulted cause).off :=
  ⟨.inr rfl, rfl, rfl, rfl, rfl, rfl⟩

theorem Arm.withSwitch_off {a : Arm} (off : a.off) (sw : SwitchEnd) (active : Bool) : (a.withSwitch sw active).off := by
  cases sw <;> exact off

theorem Pickup.withSwitch_off {u : Pickup} (off : u.off) (sw : SwitchEnd) (active : Bool) :
    (u.withSwitch sw active).off := by cases sw <;> exact off

theorem Arm.switchMoves_of_off {a : Arm} (off : a.off) : a.switchMoves = a := by
  rcases off.1 with e | e <;> simp [Arm.switchMoves, e]

theorem Pickup.switchMoves_of_off {u : Pickup} (off : u.off) : u.switchMoves = u := by
  rcases off.1 with e | e <;> simp [Pickup.switchMoves, e]

section Quiet

variable {s : State}

theorem State.Quiet.arm (q : s.Quiet) (side : Side) : (s.arm side).off := q.arc.arm side

theorem State.Quiet.stopArm (q : s.Quiet) (side : Side) : s.stopArm side = s := by
  rcases (q.arm side).1 with e | e <;> simp [State.stopArm, e]

theorem State.Quiet.stopPickup (q : s.Quiet) : s.stopPickup = s := by
  rcases q.arc.pickup.1 with e | e <;> simp [State.stopPickup, e]

theorem State.Quiet.armTimeout (q : s.Quiet) (side : Side) : s.armTimeout side = s := by
  rcases (q.arm side).1 with e | e <;> simp [State.armTimeout, e]

theorem State.Quiet.pickupTimeout (q : s.Quiet) : s.pickupTimeout = s := by
  rcases q.arc.pickup.1 with e | e <;> simp [State.pickupTimeout, e]

/-! ## The Spray Controller at rest -/

theorem Bank.settled_of_closed {b : Bank} (closed : b.valve = false) (before after : Terms) (flow : Nat) :
    (b.settled before after flow).enabled = b.enabled ∧ (b.settled before after flow).valve = false ∧
      (b.settled before after flow).pulseTimer = b.pulseTimer := by
  simp [Bank.settled, closed]

/-- A refresh at rest changes the terms and the latches alone: the lane stays inactive. -/
theorem State.Quiet.sprayRefresh (q : s.Quiet) : s.sprayRefresh.Quiet := by
  have banks : s.settleBanks.spc.quiet := by
    refine ⟨fun i => ?_, q.spc.2⟩
    obtain ⟨off, closed, timer⟩ := q.spc.1 i
    rw [s.settleBanks_bank]
    obtain ⟨enabled, valve, pulse⟩ := Bank.settled_of_closed closed (s.termsOf i) (s.settleBanks.termsOf i)
      (s.params.nozzleFlow i)
    exact ⟨enabled.trans off, valve, pulse.trans timer⟩
  have off (i : BankId) : (s.settleBanks.spc.banks.get i).terms.t1 = false := by
    rw [s.settleBanks_bank, Bank.settled_terms]
    exact (banks.1 i).1
  have none : s.settleBanks.spryReq = (s.settleBanks.pba.lane .spry).req := by
    have b0 := off .b0; have b1 := off .b1; have b2 := off .b2; have b3 := off .b3
    simp only [PerBank.get] at b0 b1 b2 b3
    rw [State.spryReq, PerBank.any, b0, b1, b2, b3, State.settleBanks_pba, (q.pba.2.2 .spry).1]
    rfl
  have same : s.sprayRefresh = s.settleBanks := by rw [State.sprayRefresh, State.publishSpry, if_pos none]
  rw [same]
  exact ⟨by simpa using q.ctu, by simpa using q.pba, by simpa using q.tgv, by simpa using q.arc,
    by rw [settleBanks_sge]; simpa [Sge.addWater, Sge.note, apply_ite Sge.state] using q.idle, by simpa using q.free, banks⟩

/-! ## Events at rest -/

theorem Arm.off_not_working {a : Arm} (off : a.off) : a.state ≠ .working := by rcases off.1 with e | e <;> simp [e]

theorem Pickup.off_not_working {u : Pickup} (off : u.off) : u.state ≠ .working := by rcases off.1 with e | e <;> simp [e]

theorem State.Quiet.setArm (q : s.Quiet) (side : Side) {x : Arm} (off : x.off) : (s.setArm side x).Quiet :=
  ⟨q.ctu, q.pba, q.tgv, q.arc.setArm side off, q.idle, q.free, q.spc⟩

theorem State.Quiet.setPickup (q : s.Quiet) {x : Pickup} (off : x.off) :
    State.Quiet { s with arc := { s.arc with pickup := x } } :=
  ⟨q.ctu, q.pba, q.tgv, ⟨q.arc.timer, q.arc.left, q.arc.right, off⟩, q.idle, q.free, q.spc⟩

theorem State.Quiet.putArm (q : s.Quiet) (side : Side) {x : Arm} (off : x.off) : (s.putArm side x).Quiet := by
  rw [← s.setArm_eq_putArm (by simp [Arm.off_not_working off, Arm.off_not_working (q.arm side)])]
  exact q.setArm side off

theorem State.Quiet.putPickup (q : s.Quiet) {x : Pickup} (off : x.off) : (s.putPickup x).Quiet := by
  rw [← s.setPickup_eq_putPickup (by simp [Pickup.off_not_working off, Pickup.off_not_working q.arc.pickup])]
  exact q.setPickup off

theorem State.Quiet.publishInactive (q : s.Quiet) (l : LaneId) : (s.publishLane l LaneReq.inactive).Quiet := by
  obtain ⟨fresh, alloc, lanes⟩ := q.pba
  refine ⟨q.ctu, ⟨fresh, alloc, fun j => ?_⟩, q.tgv, q.arc, q.idle, q.free, q.spc⟩
  rw [State.publishLane]
  simp only [Pba.lane_setLane]
  split
  · exact ⟨rfl, (lanes l).2⟩
  · exact lanes j

theorem State.Quiet.post (q : s.Quiet) (k : Notice) : (s.post k).Quiet :=
  ⟨q.ctu, q.pba, q.tgv, q.arc, q.idle, q.free, q.spc⟩

theorem State.Quiet.armSwitch (q : s.Quiet) (side : Side) (sw : SwitchEnd) (active : Bool) :
    (s.armSwitch side sw active).Quiet := by
  have off := Arm.withSwitch_off (q.arm side) sw active
  unfold State.armSwitch; dsimp only; split
  · exact (((q.setArm side off).publishInactive _).putArm side (Arm.faulted_off _ _)).post _
  · rw [Arm.switchMoves_of_off off]; exact q.setArm side off

theorem State.Quiet.pickupSwitch (q : s.Quiet) (sw : SwitchEnd) (active : Bool) : (s.pickupSwitch sw active).Quiet := by
  have off := Pickup.withSwitch_off q.arc.pickup sw active
  unfold State.pickupSwitch; dsimp only; split
  · exact ((((q.setPickup off).publishInactive _).publishInactive _).putPickup (Pickup.faulted_off _ _)).post _
  · rw [Pickup.switchMoves_of_off off]; exact q.putPickup off

theorem State.Quiet.switchChange (q : s.Quiet) (unit : Equip) (sw : SwitchEnd) (active : Bool) :
    (s.switchChange unit sw active).Quiet := by
  cases unit with
  | left => exact q.armSwitch .left sw active
  | right => exact q.armSwitch .right sw active
  | pickup => exact q.pickupSwitch sw active

theorem State.Quiet.withSwitch (q : s.Quiet) (unit : Equip) (sw : SwitchEnd) (active : Bool) :
    (s.withSwitch unit sw active).Quiet := by
  cases unit with
  | left => exact q.setArm .left (Arm.withSwitch_off q.arc.left sw active)
  | right => exact q.setArm .right (Arm.withSwitch_off q.arc.right sw active)
  | pickup => exact q.setPickup (Pickup.withSwitch_off q.arc.pickup sw active)

/-- The assertion finds no equipment out and no program. -/
theorem State.Quiet.stopEffects (q : s.Quiet) : s.stopEffects.Quiet := by
  have asserted : State.Quiet { s with stopin := true } := ⟨q.ctu, q.pba, q.tgv, q.arc, q.idle, q.free, q.spc⟩
  have refreshed := asserted.sprayRefresh
  unfold State.stopEffects
  rw [refreshed.stopArm, refreshed.stopArm, refreshed.stopPickup, State.engineStopInput, refreshed.idle]
  exact refreshed.post _

theorem State.Quiet.snaps (q : s.Quiet) (b : PerPort SnapBuffer) :
    State.Quiet { s with ctu := { s.ctu with snaps := b } } := ⟨q.ctu, q.pba, q.tgv, q.arc, q.idle, q.free, q.spc⟩

/-- A bank that follows a level of STOPIN or has its latch written stays closed. -/
theorem State.Quiet.mapBanks (q : s.Quiet) (g : BankId → Bank → Bank) (enabled : ∀ i b, (g i b).enabled = b.enabled)
    (valve : ∀ i b, (g i b).valve = b.valve) (timer : ∀ i b, (g i b).pulseTimer = b.pulseTimer) :
    Spc.quiet { s.spc with banks := s.spc.banks.map g } := by
  refine ⟨fun i => ?_, q.spc.2⟩
  obtain ⟨off, closed, stopped⟩ := q.spc.1 i
  rw [PerBank.get_map, enabled, valve, timer]
  exact ⟨off, closed, stopped⟩

theorem State.Quiet.stopHeld (q : s.Quiet) (level : Bool) :
    State.Quiet { s with stopin := level, spc := s.spc.followStop level } :=
  ⟨q.ctu, q.pba, q.tgv, q.arc, q.idle, q.free, q.mapBanks _ (fun _ _ => rfl) (fun _ _ => rfl) (fun _ _ => rfl)⟩

theorem State.Quiet.stopAsserted (q : s.Quiet) : (resolveLatch s s.stopEffects).Quiet := by
  have t := q.stopEffects
  refine ⟨t.ctu, t.pba, t.tgv, t.arc, t.idle, t.free, t.mapBanks _ ?_ ?_ ?_⟩
  all_goals intro i b; unfold latchOf; split <;> rfl

theorem State.Quiet.rearm (q : s.Quiet) : s.rearm.Quiet := ⟨q.ctu, q.pba, q.tgv, q.arc, q.idle, q.free, q.spc⟩

theorem State.Quiet.stopReleased (q : s.Quiet) :
    ((({ s with stopin := false } : State).rearm.sprayRefresh).post .stopInput).Quiet := by
  have released : State.Quiet { s with stopin := false } := ⟨q.ctu, q.pba, q.tgv, q.arc, q.idle, q.free, q.spc⟩
  exact released.rearm.sprayRefresh.post _

/-- Without a claim there is nothing to withdraw. -/
theorem State.Quiet.cabLost (q : s.Quiet) : s.cabLost.Quiet := by
  have left : s.clt.armL = .free := q.free .armL
  have right : s.clt.armR = .free := q.free .armR
  have pickup : s.clt.pickup = .free := q.free .pickup
  have spray : s.clt.spray = .free := q.free .spray
  unfold State.cabLost State.withdrawCab
  simp only [left, right, pickup, spray, State.withdrawEffect]
  refine State.Quiet.rearm ⟨q.ctu, q.pba, q.tgv, q.arc, q.idle, fun r => ?_, q.spc⟩
  rw [PerResource.get_map, q.free r]; rfl

theorem State.Quiet.setChan (q : s.Quiet) (c : ChanId) {x : Channel} (enabled : x.enabled = (s.chan c).enabled)
    (timer : x.gateTimer = (s.chan c).gateTimer) : (s.setChan c x).Quiet := by
  refine ⟨fun c' => ?_, q.pba, q.tgv, q.arc, q.idle, q.free, q.spc⟩
  have same : (s.setChan c x).ctu.chans.get c' = if c' = c then x else s.chan c' := PerChan.get_set _ _ _ _
  rw [same]
  split
  · rw [enabled, timer]; exact q.ctu c
  · exact q.ctu c'

theorem State.Quiet.senses (q : s.Quiet) {t : State} (act : s.Senses t) : t.Quiet := by
  have off (c : ChanId) : (s.chan c).enabled = false := (q.ctu c).1
  cases act with
  | sampled c => exact q.setChan c rfl rfl
  | pulse c enabled => simp [off] at enabled
  | index c => exact q.setChan c rfl rfl
  | gate c enabled => simp [off] at enabled
  | gateGnd enabled => simp [off] at enabled
  | staled timer => simp [q.pba.1] at timer
  | pulseExpired i timer => simp [(q.spc.1 i).2.2] at timer

/-- A stopped timer stays stopped. -/
theorem tickTimer_of_none {t : Timer} (h : t = none) : tickTimer t = none := by rw [h]; rfl

theorem State.Quiet.millisecond (q : s.Quiet) : s.millisecond.Quiet := by
  obtain ⟨fresh, alloc, lanes⟩ := q.pba
  obtain ⟨travel, outputs⟩ := q.tgv
  obtain ⟨arms, ⟨left, leftTimer, leftOut⟩, ⟨right, rightTimer, rightOut⟩, pickup, pickupTimer, pickupOut⟩ := q.arc
  refine ⟨fun c => ?_, ⟨tickTimer_of_none fresh, tickTimer_of_none alloc, lanes⟩, ⟨tickTimer_of_none travel, outputs⟩,
    ⟨tickTimer_of_none arms, ⟨left, tickTimer_of_none leftTimer, leftOut⟩, ⟨right, tickTimer_of_none rightTimer, rightOut⟩,
      ⟨pickup, tickTimer_of_none pickupTimer, pickupOut⟩⟩, q.idle, q.free, ⟨fun i => ?_, q.spc.2⟩⟩
  · have ticked : s.millisecond.ctu.chans.get c = (s.chan c).ticked := PerChan.get_ofFn _ c
    rw [ticked]
    exact ⟨(q.ctu c).1, tickTimer_of_none (q.ctu c).2⟩
  · have ticked : s.millisecond.spc.banks.get i = (s.spc.banks.get i).ticked := PerBank.get_map _ _ i
    obtain ⟨off, closed, timer⟩ := q.spc.1 i
    rw [ticked]
    exact ⟨off, closed, tickTimer_of_none timer⟩

theorem State.quiet_fullReset (s : State) (held : Bool) : (s.fullReset held).Quiet := by
  refine ⟨fun c => ?_, ⟨rfl, rfl, fun l => ?_⟩, ⟨rfl, rfl, rfl, rfl, rfl⟩,
    ⟨rfl, ⟨.inl rfl, rfl, rfl, rfl, rfl, rfl, rfl⟩, ⟨.inl rfl, rfl, rfl, rfl, rfl, rfl, rfl⟩,
      ⟨.inl rfl, rfl, rfl, rfl, rfl, rfl⟩⟩, rfl, fun r => ?_, ⟨fun i => ?_, rfl⟩⟩
  · cases c <;> exact ⟨rfl, rfl⟩
  · cases l <;> exact ⟨rfl, rfl⟩
  · cases r <;> rfl
  · cases i <;> exact ⟨rfl, rfl, rfl⟩

end Quiet

/-! ## READY -/

/-- RSTN and the store are left as they are. -/
def State.sameMode (s t : State) : Prop := t.rstnHeld = s.rstnHeld ∧ t.cfs = s.cfs

theorem DistanceKept.of_mode (held : Bool) (cfs : Cfs) : DistanceKept fun u => u.rstnHeld = held ∧ u.cfs = cfs where
  fault := id
  lane _ _ := id
  clamp _ _ _ := id
  stall := id
  arm _ h := by simpa using h
  pickup _ h := by simpa using h
  clock _ _ := id
  setting _ _ h := by simpa using h
  disable h := by simpa using h
  engine _ := id
  claims _ := id
  travel _ _ _ _ := id
  activate _ h := by simpa using h
  segment := id
  post _ _ := id
  told _ := id
  mark := id
  distance _ _ _ := id

theorem quietRule_of_ready {s t : State} (ready : s.cfs.ready = true) (h : s.quietRule) (same : s.sameMode t) :
    t.quietRule := by
  obtain ⟨held, cfs⟩ := same
  have up : s.rstnHeld ≠ true := fun on => by simp [h.1 on] at ready
  exact ⟨fun on => absurd (held ▸ on) up, fun off => by simp [cfs, ready] at off⟩

theorem quietRule_of_kept {s t : State} (h : s.quietRule) (same : s.sameMode t) (kept : s.Quiet → t.Quiet) :
    t.quietRule := by
  obtain ⟨held, cfs⟩ := same
  refine ⟨fun on => ?_, fun off => ?_⟩
  · rw [cfs]; exact h.1 (held ▸ on)
  · rw [cfs] at off
    exact t.quiet_iff.mpr (kept (s.quiet_iff.mp (h.2 off)))

theorem quietRule_does {s t : State} (act : s.Does t) (h : s.quietRule) : t.quietRule := by
  have hP := DistanceKept.of_mode s.rstnHeld s.cfs
  have same : s.rstnHeld = s.rstnHeld ∧ s.cfs = s.cfs := ⟨rfl, rfl⟩
  cases act with
  | nothing => exact h
  | snaps => exact quietRule_of_kept h ⟨rfl, rfl⟩ (·.snaps _)
  | ask ready act => exact quietRule_of_ready ready h ⟨(State.Still.asks act).rstn, (State.Still.asks act).cfs⟩
  | order ready act => exact quietRule_of_ready ready h (hP.orders act ⟨rfl, rfl⟩)
  | sense act => exact quietRule_of_kept h ⟨(State.Still.senses act).rstn, (State.Still.senses act).cfs⟩ (·.senses act)
  | cfgWrite => exact ⟨h.1, h.2⟩
  | commitRefused => exact ⟨h.1, h.2⟩
  | commit released => exact ⟨fun on => by simp [State.commit, State.commitBlocks, released] at on,
      fun off => by simp [State.commit, State.commitBlocks, Cfs.committed] at off⟩
  | edge c a b e enabled =>
    exact quietRule_of_kept h (hP.countEdge (s := s.setChan c _) same) fun q =>
      absurd ((q.ctu c).1.symm.trans enabled) (by decide)
  | indexClear side enabled =>
    exact quietRule_of_kept h (hP.indexEvent (s := s.setChan _ _) side same) fun q =>
      absurd ((q.ctu _).1.symm.trans enabled) (by decide)
  | switchHeld unit sw active => exact quietRule_of_kept h (hP.withSwitch unit sw active same) (·.withSwitch unit sw active)
  | switch unit sw active => exact quietRule_of_kept h (hP.switchChange unit sw active same) (·.switchChange unit sw active)
  | stopHeld level => exact quietRule_of_kept h ⟨rfl, rfl⟩ (·.stopHeld level)
  | stopAsserted =>
    exact quietRule_of_kept h ⟨by simp [resolveLatch, State.stopEffects], by simp [resolveLatch, State.stopEffects]⟩
      (·.stopAsserted)
  | stopReleased => exact quietRule_of_kept h ⟨by simp, by simp⟩ (·.stopReleased)
  | cabLost b => exact quietRule_of_kept h (hP.cabLost (s := { s with ctu := _ }) same) fun q => (q.snaps b).cabLost
  | fullReset held => exact ⟨fun _ => rfl, fun _ => (State.quiet_iff _).mpr (s.quiet_fullReset held)⟩
  | rstnRelease => exact ⟨nofun, h.2⟩
  | tick => exact quietRule_of_kept h ⟨rfl, rfl⟩ (·.millisecond)
  | allocate timer => exact quietRule_of_kept h ⟨by simp, by simp⟩ fun q => by simp [q.pba.2.1] at timer
  | travelTick timer => exact quietRule_of_kept h ⟨by simp, by simp⟩ fun q => by simp [q.tgv.1] at timer
  | armUpdate timer => exact quietRule_of_kept h (hP.armUpdate same) fun q => by simp [q.arc.timer] at timer
  | armTimeout side => exact quietRule_of_kept h (hP.armTimeout side same) fun q => by rwa [q.armTimeout]
  | pickupTimeout => exact quietRule_of_kept h (hP.pickupTimeout same) fun q => by rwa [q.pickupTimeout]

/-- Settles O56: an act in READY leaves RSTN and the store, and the others find the blocks at rest. -/
theorem unconfiguredStaysQuiet : Obligations.UnconfiguredStaysQuiet := by
  intro s t h next
  exact step_keeps (P := State.quietRule) (fun _ _ _ => Iff.rfl) (fun _ _ _ => Iff.rfl) (fun _ _ => quietRule_does) h next

end Sys2Proof.Machine

/-! PROOF. The outputs stay legal and the measured figures in their ranges: O60 (R6, R11, R69, R84, R87, R91, R96, R117, R124,
R128). Equipment and travel, the Spray Controller, and the Counter Unit are dealt with one after another. -/

namespace Sys2Proof.Machine

/-! ## Predicates that are kept together -/

theorem DistanceKept.and {P Q : State → Prop} (hP : DistanceKept P) (hQ : DistanceKept Q) :
    DistanceKept fun s => P s ∧ Q s where
  fault h := ⟨hP.fault h.1, hQ.fault h.2⟩
  lane _ _ h := ⟨hP.lane _ _ h.1, hQ.lane _ _ h.2⟩
  clamp _ _ _ h := ⟨hP.clamp _ _ _ h.1, hQ.clamp _ _ _ h.2⟩
  stall h := ⟨hP.stall h.1, hQ.stall h.2⟩
  arm moves h := ⟨hP.arm moves h.1, hQ.arm moves h.2⟩
  pickup moves h := ⟨hP.pickup moves h.1, hQ.pickup moves h.2⟩
  clock _ _ h := ⟨hP.clock _ _ h.1, hQ.clock _ _ h.2⟩
  setting _ _ h := ⟨hP.setting _ _ h.1, hQ.setting _ _ h.2⟩
  disable h := ⟨hP.disable h.1, hQ.disable h.2⟩
  engine _ h := ⟨hP.engine _ h.1, hQ.engine _ h.2⟩
  claims _ h := ⟨hP.claims _ h.1, hQ.claims _ h.2⟩
  travel g fwd rev motor h := ⟨hP.travel g fwd rev motor h.1, hQ.travel g fwd rev motor h.2⟩
  activate _ h := ⟨hP.activate _ h.1, hQ.activate _ h.2⟩
  segment h := ⟨hP.segment h.1, hQ.segment h.2⟩
  post k kind h := ⟨hP.post k kind h.1, hQ.post k kind h.2⟩
  told on h := ⟨hP.told on h.1, hQ.told on h.2⟩
  mark h := ⟨hP.mark h.1, hQ.mark h.2⟩
  distance _ _ _ h := ⟨hP.distance _ _ _ h.1, hQ.distance _ _ _ h.2⟩

/-! ## Levels that the parameters give -/

/-- The levels that the parameters give are levels (section 10.3). -/
def Params.levelsLegal (p : Params) : Prop := p.slewLegal ∧ p.sweepMotor ≤ 4095 ∧ p.transportMotor ≤ 4095

theorem Params.nat_le {p : Params} (h : p.inRange) (i : Fin 64) {n : Nat} (hi : (paramTable.get i).hi = n) : p.nat i ≤ n := by
  have := h i
  simp only [paramInRange, Bool.and_eq_true, decide_eq_true_eq] at this
  unfold Params.nat
  omega

theorem Params.levelsLegal_of_inRange {p : Params} (h : p.inRange) : p.levelsLegal :=
  ⟨⟨Params.nat_le h 44 rfl, Params.nat_le h 45 rfl⟩, Params.nat_le h 37 rfl, Params.nat_le h 38 rfl⟩

theorem Params.defaults_inRange : Params.defaults.inRange := by unfold Params.inRange; decide

/-- The parameters in force are in range. -/
theorem params_inRange {s : State} (h : s.paramsRule) : s.params.inRange := by
  unfold State.params
  cases active : s.cfs.activeSet with
  | none => exact Params.defaults_inRange
  | some p => exact (h.2.1 p active).1

/-! ## Equipment and travel -/

/-- The travel outputs: levels, and one pump coil at a time (R69, R70). -/
def Tgv.driveRule (g : Tgv) : Prop := g.pumpFwd ≤ 4095 ∧ g.pumpRev ≤ 4095 ∧ g.motor ≤ 4095 ∧ (g.pumpFwd = 0 ∨ g.pumpRev = 0)

/-- The outputs of travel and equipment are legal, with the parameters that give them. -/
def State.drivesLegal (s : State) : Prop :=
  s.params.levelsLegal ∧ s.tgv.driveRule ∧ (∀ side, (s.arm side).driveRule) ∧ s.arc.pickup.driveRule

theorem drivesLegal_kept : DistanceKept State.drivesLegal where
  fault := id
  lane _ _ := id
  clamp _ _ _ := id
  stall := id
  arm {s side x} moves h := by
    obtain ⟨params, travel, arms, pickup⟩ := h
    refine ⟨by simpa using params, by simpa using travel, fun j => ?_, by simpa using pickup⟩
    rw [s.arm_putArm]; split
    · exact moves.legal params.1 (arms side)
    · exact arms j
  pickup moves h := by
    obtain ⟨params, travel, arms, pickup⟩ := h
    exact ⟨by simpa using params, by simpa using travel, fun j => by simpa using arms j,
      by simpa using moves.legal pickup⟩
  clock _ _ := id
  setting _ _ h := by simpa [State.drivesLegal] using h
  disable h := by simpa [State.drivesLegal] using h
  engine _ := id
  claims _ := id
  travel g fwd rev motor h := by
    obtain ⟨params, travel, arms, pickup⟩ := h
    exact ⟨params, by simpa only [Tgv.driveRule, fwd, rev, motor] using travel, arms, pickup⟩
  activate _ h := by simpa [State.drivesLegal] using h
  segment := id
  post _ _ := id
  told _ := id
  mark := id
  distance _ _ _ := id

theorem drivesLegal_of {s t : State} (cfs : t.cfs = s.cfs) (tgv : t.tgv = s.tgv) (arc : t.arc = s.arc)
    (h : s.drivesLegal) : t.drivesLegal := by
  simpa only [State.drivesLegal, State.params, State.arm, cfs, tgv, arc] using h

/-- A level that a publication lowers stays legal (R91). -/
theorem Arm.driveRule_lowered {a : Arm} (n : Nat) (h : a.driveRule) :
    ({ a with brushLevel := min a.brushLevel n } : Arm).driveRule := by
  obtain ⟨plus, minus, brush, oneWay, only, lifts⟩ := h
  exact ⟨plus, minus, Nat.le_trans (Nat.min_le_left _ _) brush, oneWay, fun on => only (by rintro zero; simp [zero] at on), lifts⟩

theorem Pickup.driveRule_lowered {u : Pickup} (m n : Nat) (h : u.driveRule) :
    ({ u with mainLevel := min u.mainLevel m, fanLevel := min u.fanLevel n } : Pickup).driveRule := by
  obtain ⟨main, fan, only, valves⟩ := h
  refine ⟨Nat.le_trans (Nat.min_le_left _ _) main, Nat.le_trans (Nat.min_le_left _ _) fan, fun on => only ?_, valves⟩
  rcases on with on | on
  · exact .inl (by rintro zero; simp [zero] at on)
  · exact .inr (by rintro zero; simp [zero] at on)

theorem drivesLegal_allocate {s : State} (h : s.drivesLegal) : s.allocate.drivesLegal := by
  obtain ⟨params, travel, arms, pickup⟩ := h
  refine drivesLegal_of (s := s.publishGrants.arcOnGrants) (by simp [State.allocate]) (by simp [State.allocate])
    (by simp [State.allocate]) ⟨params, travel, fun side => ?_, Pickup.driveRule_lowered _ _ pickup⟩
  cases side with
  | left => exact Arm.driveRule_lowered _ (arms .left)
  | right => exact Arm.driveRule_lowered _ (arms .right)

theorem motorLevel_le {s : State} (h : s.params.levelsLegal) (m : TravelMode) : s.motorLevel m ≤ 4095 := by
  cases m with
  | parked => exact Nat.zero_le _
  | sweep => exact h.2.1
  | transport => exact h.2.2

/-- One coil at a time: the pump level goes to the coil of the direction (R69). -/
theorem updatedTgv_driveRule {s : State} (h : s.params.levelsLegal) : s.updatedTgv.driveRule := by
  have level := Nat.min_le_right s.rawPumpLevel 4095
  have motor := motorLevel_le h s.tgv.mode
  unfold State.updatedTgv Tgv.driveRule
  cases s.tgv.takenDirection with
  | fwd => exact ⟨level, Nat.zero_le _, motor, .inr rfl⟩
  | rev => exact ⟨Nat.zero_le _, level, motor, .inl rfl⟩

theorem drivesLegal_travelStages {s : State} (h : s.drivesLegal) : s.travelStages.drivesLegal := by
  obtain ⟨params, _, arms, pickup⟩ := h
  exact ⟨params, updatedTgv_driveRule params, arms, pickup⟩

theorem Arm.driveRule_of_off {a : Arm} (off : a.off) : a.driveRule := by
  obtain ⟨_, _, plus, minus, brush, up, down⟩ := off
  simp [Arm.driveRule, plus, minus, brush, up, down]

theorem Pickup.driveRule_of_off {u : Pickup} (off : u.off) : u.driveRule := by
  obtain ⟨_, _, main, fan, raise, lower⟩ := off
  simp [Pickup.driveRule, main, fan, raise, lower]

theorem drivesLegal_fullReset (s : State) (held : Bool) : (s.fullReset held).drivesLegal := by
  have q := s.quiet_fullReset held
  obtain ⟨_, _, fwd, rev, motor⟩ := q.tgv
  refine ⟨Params.levelsLegal_of_inRange Params.defaults_inRange, ?_, fun side => Arm.driveRule_of_off (q.arm side),
    Pickup.driveRule_of_off q.arc.pickup⟩
  simp [Tgv.driveRule, fwd, rev, motor]

theorem State.commit_cfs (s : State) : s.commit.cfs = s.cfs.committed := by simp [State.commit, State.commitBlocks]

theorem State.commit_tgv (s : State) : s.commit.tgv = s.tgv.committed := by simp [State.commit, State.commitBlocks]

theorem State.commit_params (s : State) : s.commit.params = s.cfs.pendingSet := by
  rw [State.params, s.commit_cfs]; rfl

theorem drivesLegal_commit {s : State} (params : s.paramsRule) (h : s.drivesLegal) : s.commit.drivesLegal := by
  obtain ⟨_, _, arms, pickup⟩ := h
  refine ⟨?_, ?_, fun side => ?_, ?_⟩
  · rw [s.commit_params]; exact Params.levelsLegal_of_inRange params.1
  · rw [s.commit_tgv]; exact ⟨Nat.zero_le _, Nat.zero_le _, Nat.zero_le _, .inl rfl⟩
  · rw [State.arm, s.commit_arc]; cases side with
    | left => exact arms .left
    | right => exact arms .right
  · rw [s.commit_arc]; exact pickup

theorem drivesLegal_millisecond {s : State} (h : s.drivesLegal) : s.millisecond.drivesLegal := by
  obtain ⟨params, travel, arms, pickup⟩ := h
  refine ⟨params, travel, fun side => ?_, pickup⟩
  cases side with
  | left => exact arms .left
  | right => exact arms .right

/-- What an assertion of STOPIN does is made of the single updates, after the refresh on the new level. -/
theorem EngineKept.stopEffects {P : State → Prop} {s : State} (hP : EngineKept P)
    (h : P ({ s with stopin := true } : State).sprayRefresh) : P s.stopEffects :=
  hP.post _ rfl (hP.engineStopInput (hP.stopPickup (hP.stopArm _ (hP.stopArm _ h))))

theorem drivesLegal_does {s t : State} (act : s.Does t) (params : s.paramsRule) (h : s.drivesLegal) : t.drivesLegal := by
  have hP := drivesLegal_kept
  cases act with
  | nothing => exact h
  | snaps => exact h
  | ask _ act => exact drivesLegal_of (State.Still.asks act).cfs (State.Still.asks act).tgv (State.Still.asks act).arc h
  | order _ act => exact hP.orders act h
  | sense act =>
    exact drivesLegal_of (State.Still.senses act).cfs (State.Still.senses act).tgv (State.Still.senses act).arc h
  | cfgWrite => exact h
  | commitRefused => exact h
  | commit => exact drivesLegal_commit params h
  | edge c => exact hP.countEdge (s := s.setChan c _) h
  | indexClear side => exact hP.indexEvent (s := s.setChan _ _) side h
  | switchHeld => exact hP.withSwitch _ _ _ h
  | switch => exact hP.switchChange _ _ _ h
  | stopHeld => exact h
  | stopAsserted => exact hP.stopEffects (drivesLegal_of (s := s) (by simp) (by simp) (by simp) h)
  | stopReleased =>
    exact hP.post _ rfl (drivesLegal_of (s := { s with tgv := s.tgv.rearmed }) (by simp [State.rearm]) (by simp [State.rearm])
      (by simp [State.rearm]) h)
  | cabLost b => exact hP.cabLost (s := { s with ctu := { s.ctu with snaps := b } }) h
  | fullReset held => exact drivesLegal_fullReset s held
  | rstnRelease => exact h
  | tick => exact drivesLegal_millisecond h
  | allocate => exact drivesLegal_allocate h
  | travelTick => exact hP.travelTick (drivesLegal_travelStages h)
  | armUpdate => exact hP.armUpdate h
  | armTimeout side => exact hP.armTimeout side h
  | pickupTimeout => exact hP.pickupTimeout h

/-! ## The Spray Controller -/

/-- The pump level, the microlitres carried and the estimate stay in their ranges (R117, R124, R128). -/
def Spc.sound (c : Spc) : Prop :=
  c.pumpLevel ≤ 4095 ∧ (∀ i, (c.banks.get i).remainder < 1000) ∧ c.estimate ≤ 4000000

theorem Bank.settled_remainder {b : Bank} (before after : Terms) (flow : Nat) (h : b.remainder < 1000) :
    (b.settled before after flow).remainder < 1000 := by
  unfold Bank.settled
  dsimp only; split
  · exact Nat.mod_lt _ (by decide)
  · exact h

theorem State.settleBanks_sound {s : State} (h : s.spc.sound) : s.settleBanks.spc.sound := by
  obtain ⟨pump, remainder, estimate⟩ := h
  refine ⟨pump, fun i => ?_, ?_⟩
  · rw [s.settleBanks_bank]; exact Bank.settled_remainder _ _ _ (remainder i)
  · rw [s.settleBanks_estimate]; omega

theorem State.setPump_sound {s : State} (h : s.spc.sound) : s.setPump.spc.sound := ⟨Nat.min_le_right _ _, h.2⟩

theorem State.publishSpry_sound {s : State} (h : s.spc.sound) : s.publishSpry.spc.sound := by
  unfold State.publishSpry; split
  · exact h
  · exact State.setPump_sound h

theorem State.sprayRefresh_sound {s : State} (h : s.spc.sound) : s.sprayRefresh.spc.sound :=
  State.publishSpry_sound (State.settleBanks_sound h)

theorem State.refreshIf_sound {s : State} (changed : Bool) (h : s.spc.sound) : (s.refreshIf changed).spc.sound := by
  cases changed
  · exact h
  · exact State.sprayRefresh_sound h

/-- Banks whose water stays as it is. -/
theorem Spc.sound_map {c : Spc} (g : BankId → Bank → Bank) (same : ∀ i b, (g i b).remainder = b.remainder) (h : c.sound) :
    Spc.sound { c with banks := c.banks.map g } :=
  ⟨h.1, fun i => by rw [PerBank.get_map, same]; exact h.2.1 i, h.2.2⟩

theorem State.profilePublished_sound {s : State} (h : s.spc.sound) : s.profilePublished.spc.sound :=
  Spc.sound_map _ (fun i b => by unfold Bank.withProfile; split <;> rfl) h

theorem spcSound_kept : DistanceKept fun s => s.spc.sound where
  fault := id
  lane _ _ := id
  clamp _ _ _ := id
  stall := id
  arm _ h := State.refreshIf_sound _ h
  pickup _ h := State.refreshIf_sound _ h
  clock _ _ := id
  setting _ _ h := State.sprayRefresh_sound (Spc.sound_map _ (fun _ _ => rfl) h)
  disable h := by
    unfold State.disableBanks; split
    · exact State.sprayRefresh_sound (Spc.sound_map _ (fun _ _ => rfl) h)
    · exact h
  engine _ := id
  claims _ := id
  travel _ _ _ _ := id
  activate i h := by
    unfold State.activateProfile; split
    · exact h
    · exact State.profilePublished_sound h
  segment h := Spc.sound_map _ (fun _ _ => rfl) h
  post _ _ := id
  told _ := id
  mark h := Spc.sound_map _ (fun _ b => by unfold Bank.onMark; (repeat' split) <;> rfl) h
  distance _ _ _ := id

theorem spcSound_asks {s t : State} (act : s.Asks t) (h : s.spc.sound) : t.spc.sound := by
  cases act with
  | enable => exact h
  | disable => exact State.refreshIf_sound _ h
  | load => exact h
  | clear => exact State.refreshIf_sound _ h
  | gndFaultClear => exact State.refreshIf_sound _ h
  | budget => exact State.publishSpry_sound (State.refreshIf_sound _ h)
  | tank n le => exact State.refreshIf_sound _ ⟨h.1, h.2.1, le⟩
  | lanesClear => exact h
  | storeProfile i p =>
    unfold State.storeProfile; dsimp only; split
    · exact State.profilePublished_sound h
    · exact h

theorem State.closeWhere_sound {s : State} (p : BankId → Bank → Bool) (h : s.spc.sound) : (s.closeWhere p).spc.sound := by
  obtain ⟨pump, remainder, estimate⟩ := h
  refine ⟨pump, fun i => ?_, ?_⟩
  · rw [State.closeWhere_bank]; split
    · exact Nat.mod_lt _ (by decide)
    · exact remainder i
  · rw [State.closeWhere_estimate]; omega

theorem spcSound_senses {s t : State} (act : s.Senses t) (h : s.spc.sound) : t.spc.sound := by
  cases act with
  | sampled => exact h
  | pulse => exact h
  | index => exact h
  | gate => exact State.refreshIf_sound _ h
  | gateGnd =>
    have published : (s.publishSpeed .gnd).spc.sound := State.refreshIf_sound _ h
    unfold State.plausibility; dsimp only; split
    · exact State.refreshIf_sound _ published
    · exact published
  | staled => exact h
  | pulseExpired i => exact State.refreshIf_sound _ (State.closeWhere_sound _ h)

theorem spcSound_fullReset (s : State) (held : Bool) : (s.fullReset held).spc.sound :=
  ⟨Nat.zero_le _, fun i => by cases i <;> exact Nat.zero_lt_succ _, Nat.zero_le _⟩

theorem spcSound_does {s t : State} (act : s.Does t) (h : s.spc.sound) : t.spc.sound := by
  have hP := spcSound_kept
  cases act with
  | nothing => exact h
  | snaps => exact h
  | ask _ act => exact spcSound_asks act h
  | order _ act => exact hP.orders act h
  | sense act => exact spcSound_senses act h
  | cfgWrite => exact h
  | commitRefused => exact h
  | commit =>
    refine State.settleBanks_sound ⟨Nat.zero_le _, ?_, h.2.2⟩
    exact (Spc.sound_map (fun i b => b.rewidth s.cfs.pendingSet i) (fun _ _ => rfl) h).2.1
  | edge c => exact hP.countEdge (s := s.setChan c _) h
  | indexClear side => exact hP.indexEvent (s := s.setChan _ _) side h
  | switchHeld => exact hP.withSwitch _ _ _ h
  | switch => exact hP.switchChange _ _ _ h
  | stopHeld => exact Spc.sound_map _ (fun _ _ => rfl) h
  | stopAsserted =>
    have stopped := hP.stopEffects (State.sprayRefresh_sound (s := { s with stopin := true }) h)
    exact Spc.sound_map _ (fun i b => by unfold latchOf; split <;> rfl) stopped
  | stopReleased => exact State.sprayRefresh_sound (s := State.rearm { s with stopin := false }) h
  | cabLost b => exact hP.cabLost (s := { s with ctu := { s.ctu with snaps := b } }) h
  | fullReset held => exact spcSound_fullReset s held
  | rstnRelease => exact h
  | tick => exact Spc.sound_map _ (fun _ _ => rfl) h
  | allocate => exact State.setPump_sound (State.refreshIf_sound (s := s.publishGrants.arcOnGrants) _ h)
  | travelTick => exact hP.travelTick (s := s) h
  | armUpdate => exact hP.armUpdate h
  | armTimeout side => exact hP.armTimeout side h
  | pickupTimeout => exact hP.pickupTimeout h

/-! ## The Counter Unit -/

/-- Every published speed is limited (R6). -/
def Ctu.speedsLegal (u : Ctu) : Prop := ∀ c, -32767 ≤ (u.chans.get c).speed ∧ (u.chans.get c).speed ≤ 32767

theorem limitSpeed_legal (v : Int) : -32767 ≤ limitSpeed v ∧ limitSpeed v ≤ 32767 := by
  unfold limitSpeed limit; omega

theorem EngineKept.of_ctu (u : Ctu) : EngineKept fun s => s.ctu = u where
  fault := id
  lane _ _ := id
  clamp _ _ _ := id
  stall := id
  arm _ h := by simpa using h
  pickup _ h := by simpa using h
  clock _ _ := id
  setting _ _ h := by simpa using h
  disable h := by simpa using h
  engine _ := id
  claims _ := id
  travel _ _ _ _ := id
  activate _ h := by simpa using h
  segment := id
  post _ _ := id
  told _ := id

/-! The channels change by the counting alone, not by the distance that it builds. -/

theorem DistanceKept.of_chans (v : PerChan Channel) : DistanceKept fun s => s.ctu.chans = v where
  fault := id
  lane _ _ := id
  clamp _ _ _ := id
  stall := id
  arm _ h := by simpa using h
  pickup _ h := by simpa using h
  clock _ _ := id
  setting _ _ h := by simpa using h
  disable h := by simpa using h
  engine _ := id
  claims _ := id
  travel _ _ _ _ := id
  activate _ h := by simpa using h
  segment := id
  post _ _ := id
  told _ := id
  mark := id
  distance _ _ _ := id

theorem State.markMm_remainder (s : State) : s.markMm.ctu.remainder = s.ctu.remainder := by
  unfold State.markMm; split <;> rfl

/-- Each millimetre takes its 1000 µm (R11). -/
theorem State.forwardMms_remainder (n : Nat) (s : State) :
    (State.forwardMms n s).ctu.remainder = s.ctu.remainder - 1000 * n := by
  induction n generalizing s with
  | zero => rfl
  | succ n ih =>
    have one : s.forwardMm.ctu.remainder = s.ctu.remainder - 1000 := by
      rw [State.forwardMm, State.markMm_remainder, State.engineMm_ctu]
    rw [State.forwardMms, ih, one]; omega

/-- What is left after the whole millimetres is less than one (R11). -/
theorem State.forwardCount_remainder (s : State) :
    s.forwardCount.ctu.remainder = (s.ctu.remainder + s.sourcePitch) % 1000 := by
  rw [State.forwardCount, State.forwardMms_remainder]
  dsimp only
  omega

/-- The speeds and the remainder in their ranges (R6, R11). -/
def Ctu.sound (u : Ctu) : Prop := u.speedsLegal ∧ u.remainder < 1000

theorem Ctu.sound_setChan {u : Ctu} (c : ChanId) {x : Channel} (speed : -32767 ≤ x.speed ∧ x.speed ≤ 32767)
    (h : u.sound) : (u.setChan c x).sound := by
  refine ⟨fun c' => ?_, h.2⟩
  have same : (u.setChan c x).chans.get c' = if c' = c then x else u.chans.get c' := PerChan.get_set _ _ _ _
  rw [same]; split
  · exact speed
  · exact h.1 c'

theorem ctuSound_refreshIf {s : State} (changed : Bool) (h : s.ctu.sound) : (s.refreshIf changed).ctu.sound := by
  rwa [State.refreshIf_ctu]

theorem ctuSound_asks {s t : State} (act : s.Asks t) (h : s.ctu.sound) : t.ctu.sound := by
  have zero : -32767 ≤ (0 : Int) ∧ (0 : Int) ≤ 32767 := by decide
  cases act with
  | enable c => exact Ctu.sound_setChan c (h.1 c) h
  | disable c => exact ctuSound_refreshIf _ (Ctu.sound_setChan c zero h)
  | load c => exact Ctu.sound_setChan c (h.1 c) h
  | clear c => exact ctuSound_refreshIf _ (Ctu.sound_setChan c zero h)
  | gndFaultClear => exact ctuSound_refreshIf _ h
  | budget =>
    unfold budgetBody State.done
    simpa using h
  | tank => exact ctuSound_refreshIf _ h
  | lanesClear => exact h
  | storeProfile i p =>
    unfold State.storeProfile; dsimp only; split <;> exact h

theorem ctuSound_senses {s t : State} (act : s.Senses t) (h : s.ctu.sound) : t.ctu.sound := by
  have published (c : ChanId) : (s.publishSpeed c).ctu.sound :=
    ctuSound_refreshIf _ (Ctu.sound_setChan c (limitSpeed_legal _) h)
  cases act with
  | sampled c => exact Ctu.sound_setChan c (h.1 c) h
  | pulse c => exact Ctu.sound_setChan c (h.1 c) h
  | index c => exact Ctu.sound_setChan c (h.1 c) h
  | gate c => exact published c
  | gateGnd =>
    unfold State.plausibility; dsimp only; split
    · exact ctuSound_refreshIf _ (published .gnd)
    · exact published .gnd
  | staled => exact h
  | pulseExpired i => exact ctuSound_refreshIf _ h

theorem ctuSound_edge {s : State} (c : ChanId) (e : Edge) (h : s.ctu.sound) : (s.countEdge c e).ctu.sound := by
  have counted : (s.setChan c ((s.chan c).counted e)).ctu.sound :=
    Ctu.sound_setChan c (by cases e <;> exact h.1 c) h
  unfold State.countEdge; dsimp only; split
  · refine ⟨fun c' => ?_, ?_⟩
    · rw [(DistanceKept.of_chans _).forwardCount rfl]; exact counted.1 c'
    · rw [State.forwardCount_remainder]; exact Nat.mod_lt _ (by decide)
  · exact counted

theorem ctuSound_fullReset (s : State) (held : Bool) : (s.fullReset held).ctu.sound := by
  have zero : -32767 ≤ (0 : Int) ∧ (0 : Int) ≤ 32767 := by decide
  exact ⟨fun c => by cases c <;> exact zero, Nat.zero_lt_succ _⟩

theorem ctuSound_does {s t : State} (act : s.Does t) (h : s.ctu.sound) : t.ctu.sound := by
  have hP := EngineKept.of_ctu s.ctu
  have of_same {u : State} (same : u.ctu = s.ctu) : u.ctu.sound := by rwa [same]
  cases act with
  | nothing => exact h
  | snaps => exact h
  | ask _ act => exact ctuSound_asks act h
  | order _ act => exact of_same (hP.orders act rfl)
  | sense act => exact ctuSound_senses act h
  | cfgWrite => exact h
  | commitRefused => exact h
  | commit =>
    refine ⟨fun c => ?_, ?_⟩
    all_goals rw [State.commit, State.settleBanks_ctu]
    · exact (PerChan.get_ofFn (fun c => (s.ctu.chans.get c).committed (s.cfs.pendingSet.gate c)) c) ▸ h.1 c
    · exact h.2
  | edge c => exact ctuSound_edge c _ (Ctu.sound_setChan c (h.1 c) h)
  | indexClear side =>
    rw [State.indexEvent_ctu]
    exact Ctu.sound_setChan _ (h.1 (slewChan side)) h
  | switchHeld => exact of_same (hP.withSwitch _ _ _ rfl)
  | switch => exact of_same (hP.switchChange _ _ _ rfl)
  | stopHeld => exact h
  | stopAsserted => exact of_same (u := s.stopEffects) (hP.stopEffects (by simp))
  | stopReleased => exact of_same (by simp [State.rearm])
  | cabLost b => exact ((EngineKept.of_ctu _).cabLost (s := { s with ctu := { s.ctu with snaps := b } }) rfl).symm ▸ h
  | fullReset held => exact ctuSound_fullReset s held
  | rstnRelease => exact h
  | tick =>
    exact ⟨fun c => (PerChan.get_ofFn (fun c => (s.ctu.chans.get c).ticked) c) ▸ h.1 c, h.2⟩
  | allocate => exact of_same (by simp)
  | travelTick => exact of_same (hP.travelTick (s := s) rfl)
  | armUpdate => exact of_same (hP.armUpdate rfl)
  | armTimeout side => exact of_same (hP.armTimeout side rfl)
  | pickupTimeout => exact of_same (hP.pickupTimeout rfl)

/-! ## Every step -/

/-- Settles O60, block by block: equipment and travel, the Spray Controller, the Counter Unit. -/
theorem outputsStayLegal : Obligations.OutputsStayLegal := by
  intro s t params outputs figures next
  obtain ⟨fwd, rev, motor, coils, pump, left, right, pickup⟩ := outputs
  obtain ⟨speeds, um, water, estimate⟩ := figures
  have drives : s.drivesLegal := ⟨Params.levelsLegal_of_inRange (params_inRange params), ⟨fwd, rev, motor, coils⟩,
    fun side => by cases side with | left => exact left | right => exact right, pickup⟩
  have kept : t.drivesLegal ∧ t.spc.sound ∧ t.ctu.sound :=
    step_keeps (P := fun u => u.paramsRule ∧ u.drivesLegal ∧ u.spc.sound ∧ u.ctu.sound)
      (Q := fun u => u.drivesLegal ∧ u.spc.sound ∧ u.ctu.sound) (fun _ _ _ => Iff.rfl)
      (fun _ _ _ => Iff.rfl)
      (fun _ _ act h => ⟨drivesLegal_does act h.1 h.2.1, spcSound_does act h.2.2.1, ctuSound_does act h.2.2.2⟩)
      ⟨params, drives, ⟨pump, water, estimate⟩, speeds, um⟩ next
  obtain ⟨⟨_, ⟨fwd, rev, motor, coils⟩, arms, pickup⟩, ⟨pump, water, estimate⟩, speeds, um⟩ := kept
  exact ⟨⟨fwd, rev, motor, coils, pump, arms .left, arms .right, pickup⟩, speeds, um, water, estimate⟩

end Sys2Proof.Machine

/-! PROOF. The parameter sets stay in range (R173 to R178): O55. Only a CFG_WRITE, a commit and a reset change the store. -/

namespace Sys2Proof.Machine

/-- A write in range keeps the set in range (R175). -/
theorem Params.inRange_write {p : Params} (h : p.inRange) {i : Fin 64} {v : Int} (inRange : paramInRange i v = true) :
    (p.write i v).inRange := by
  intro j
  by_cases same : i = j
  · subst same; simpa [Params.write, Params.val, Vector.get_eq_getElem] using inRange
  · have other : (p.write i v).val j = p.val j := by
      simp only [Params.write, Params.val, Vector.get_eq_getElem]
      exact Vector.getElem_set_ne _ _ (by simpa [Fin.val_inj] using same)
    rw [other]; exact h j

theorem paramsRule_of_cfs {s t : State} (cfs : t.cfs = s.cfs) (h : s.paramsRule) : t.paramsRule := by
  simpa only [State.paramsRule, cfs] using h

theorem reset_paramsRule : State.reset.paramsRule := by
  have unset : State.reset.cfs.activeSet = none := rfl
  have waits : State.reset.cfs.ready = false := rfl
  refine ⟨Params.defaults_inRange, fun p active => ?_, ?_⟩
  · rw [unset] at active; contradiction
  · rw [unset, waits]; decide

theorem paramsRule_does {s t : State} (act : s.Does t) (h : s.paramsRule) : t.paramsRule := by
  have hP := DistanceKept.of_mode s.rstnHeld s.cfs
  have same : s.rstnHeld = s.rstnHeld ∧ s.cfs = s.cfs := ⟨rfl, rfl⟩
  have of_mode {u : State} (mode : u.rstnHeld = s.rstnHeld ∧ u.cfs = s.cfs) : u.paramsRule := paramsRule_of_cfs mode.2 h
  cases act with
  | nothing => exact h
  | snaps => exact h
  | ask _ act => exact paramsRule_of_cfs (State.Still.asks act).cfs h
  | order _ act => exact of_mode (hP.orders act same)
  | sense act => exact paramsRule_of_cfs (State.Still.senses act).cfs h
  | cfgWrite i v inRange => exact ⟨Params.inRange_write h.1 inRange, h.2⟩
  | commitRefused => exact h
  | commit _ _ check =>
    rw [State.paramsRule, s.commit_cfs]
    refine ⟨h.1, fun p active => ?_, by simp [Cfs.committed]⟩
    cases active
    exact ⟨h.1, check⟩
  | edge c => exact of_mode (hP.countEdge (s := s.setChan c _) same)
  | indexClear side => exact of_mode (hP.indexEvent (s := s.setChan _ _) side same)
  | switchHeld => exact of_mode (hP.withSwitch _ _ _ same)
  | switch => exact of_mode (hP.switchChange _ _ _ same)
  | stopHeld => exact h
  | stopAsserted => exact of_mode (u := s.stopEffects) (hP.stopEffects (by simp))
  | stopReleased => exact paramsRule_of_cfs (s := s) (by simp [State.rearm]) h
  | cabLost b => exact of_mode (hP.cabLost (s := { s with ctu := { s.ctu with snaps := b } }) same)
  | fullReset => exact paramsRule_of_cfs (s := State.reset) rfl reset_paramsRule
  | rstnRelease => exact h
  | tick => exact h
  | allocate => exact paramsRule_of_cfs (by simp) h
  | travelTick => exact paramsRule_of_cfs (by simp) h
  | armUpdate => exact of_mode (hP.armUpdate same)
  | armTimeout side => exact of_mode (hP.armTimeout side same)
  | pickupTimeout => exact of_mode (hP.pickupTimeout same)

/-- Settles O55: an act changes the store only by a write in range, a commit that passed its checks, or a reset. -/
theorem parametersStayInRange : Obligations.ParametersStayInRange := by
  intro s t h next
  exact step_keeps (P := State.paramsRule) (fun _ _ _ => Iff.rfl) (fun _ _ _ => Iff.rfl) (fun _ _ => paramsRule_does) h next

end Sys2Proof.Machine

/-! PROOF. Every open valve has its permissive (R116, R121, R122): O58. A refresh settles the banks from any state in which
the pulse timers run where the valves are open; without a refresh no input of a term has changed. -/

namespace Sys2Proof.Machine

/-! ## One bank -/

/-- The pulse timer runs exactly while the valve is open (R121, R122). -/
def Bank.pulseOk (b : Bank) : Prop := b.pulseTimer.isSome = true ↔ b.valve = true

/-- The bank's part of the rule, for the terms of its inputs. -/
def Bank.valveOk (b : Bank) (terms : Terms) : Prop := b.terms = terms ∧ (b.valve = true → b.terms.all = true) ∧ b.pulseOk

theorem Bank.valveOk_settled {b : Bank} (before after : Terms) (flow : Nat) (h : b.pulseOk) :
    (b.settled before after flow).valveOk after := by
  refine ⟨rfl, ?_, ?_⟩
  · rw [Bank.settled_valve, Bank.settled_terms]; simp
  · by_cases lost : b.valve = true ∧ after.all = false
    · rw [Bank.settled_of_lost before flow lost.1 lost.2]; simp [Bank.pulseOk, Bank.closed]
    · have stays : after.all = true ∨ b.valve = false := by
        cases hv : b.valve <;> cases ha : after.all <;> simp_all
      rw [b.settled_of_permissive before flow stays]
      exact h

/-- A mark opens a bank on its permissive alone, and starts its timer (R121). -/
theorem Bank.valveOk_onMark {b : Bank} {terms : Terms} (h : b.valveOk terms) : b.onMark.valveOk terms := by
  obtain ⟨same, permissive, pulse⟩ := h
  unfold Bank.onMark; split
  · next acts =>
    have all : b.terms.all = true := by simp only [Bank.acts, Bool.and_eq_true] at acts; exact acts.1
    split
    · next opened => exact ⟨same, fun _ => all, by simp [Bank.pulseOk, opened]⟩
    · exact ⟨same, fun _ => all, by simp [Bank.pulseOk]⟩
  · exact ⟨same, permissive, pulse⟩

/-! ## The banks of a state -/

/-- The pulse timers run where the valves are open. -/
def Spc.pulseRule (c : Spc) : Prop := ∀ i, (c.banks.get i).pulseOk

theorem State.valveRule.pulses {s : State} (h : s.valveRule) : s.spc.pulseRule := fun i => (h i).2.2

/-- Banks that keep their terms, valves and timers, on inputs that have not changed. -/
theorem valveRule_of {s t : State} (inputs : ∀ i, t.termsOf i = s.termsOf i) (banks : t.spc.banks = s.spc.banks)
    (h : s.valveRule) : t.valveRule := by
  intro i
  rw [inputs, banks]
  exact h i

/-- Banks changed elsewhere than in their enables, terms, valves and timers. -/
theorem valveRule_map {s : State} (g : BankId → Bank → Bank) (e : Sge) (ps : PerPort Port) (n : Nat)
    (enabled : ∀ i b, (g i b).enabled = b.enabled) (kept : ∀ i b terms, b.valveOk terms → (g i b).valveOk terms)
    (h : s.valveRule) : State.valveRule { s with
      spc := { s.spc with banks := s.spc.banks.map g }, sge := e, ports := ps, raceCount := n } := by
  intro i
  have inputs : State.termsOf { s with
      spc := { s.spc with banks := s.spc.banks.map g }, sge := e, ports := ps, raceCount := n } i = s.termsOf i :=
    State.termsOf_congr rfl rfl rfl rfl rfl rfl (by rw [PerBank.get_map, enabled]) rfl
  rw [inputs, PerBank.get_map]
  exact kept i _ _ (h i)

theorem pulseRule_map {c : Spc} (g : BankId → Bank → Bank) (kept : ∀ i b, b.pulseOk → (g i b).pulseOk)
    (h : c.pulseRule) : Spc.pulseRule { c with banks := c.banks.map g } := fun i => by
  rw [PerBank.get_map]; exact kept i _ (h i)

theorem settleBanks_valveRule {s : State} (h : s.spc.pulseRule) : s.settleBanks.valveRule := by
  intro i
  rw [s.settleBanks_bank]
  exact Bank.valveOk_settled _ _ _ (h i)

@[simp] theorem State.publishSpry_banks (s : State) : s.publishSpry.spc.banks = s.spc.banks := by
  unfold State.publishSpry; split <;> rfl

@[simp] theorem State.publishSpry_estimate (s : State) : s.publishSpry.spc.estimate = s.spc.estimate := by
  unfold State.publishSpry; split <;> rfl

/-- The publication of the SPRY lane changes no input of a term. -/
theorem State.publishSpry_termsOf (s : State) (i : BankId) : s.publishSpry.termsOf i = s.termsOf i :=
  State.termsOf_congr (by simp) (by simp) (by simp) (by simp) (by simp) (by simp) (by simp) (by simp)

theorem publishSpry_valveRule {s : State} (h : s.valveRule) : s.publishSpry.valveRule :=
  valveRule_of s.publishSpry_termsOf (by simp) h

theorem sprayRefresh_valveRule {s : State} (h : s.spc.pulseRule) : s.sprayRefresh.valveRule :=
  publishSpry_valveRule (settleBanks_valveRule h)

/-- A refresh where an input has changed, and none where none has. -/
theorem refreshIf_valveRule {s : State} {changed : Bool} (pulses : s.spc.pulseRule)
    (same : changed = false → s.valveRule) : (s.refreshIf changed).valveRule := by
  cases changed with
  | false => exact same rfl
  | true => exact sprayRefresh_valveRule pulses

/-- A change of the counters with the refresh that it brings (R13, R116). -/
theorem speedRefresh_valveRule {s : State} (u : Ctu) (ps : PerPort Port) (h : s.valveRule) :
    (State.speedRefresh { s with ctu := u, ports := ps } s).valveRule :=
  refreshIf_valveRule h.pulses fun same => by
    have measured : State.measured { s with ctu := u, ports := ps } = s.measured := by simpa using same
    exact valveRule_of (s := s) (fun i => State.termsOf_congr rfl measured rfl rfl rfl rfl rfl rfl) rfl h

/-- A change of the arm controller's records with the refresh that it brings (R83, R116). -/
theorem putArm_valveRule {s : State} (side : Side) (x : Arm) (h : s.valveRule) : (s.putArm side x).valveRule :=
  refreshIf_valveRule (s := s.setArm side x) h.pulses fun same => by
    refine valveRule_of (s := s) (fun i => State.termsOf_congr rfl rfl ?_ rfl rfl rfl rfl rfl) rfl h
    have same : (x.state == .working) = ((s.arm side).state == .working) := by simpa using same
    cases side with
    | left => cases i with
      | b0 => exact same
      | b1 => rfl
      | b2 => rfl
      | b3 => rfl
    | right => cases i with
      | b0 => rfl
      | b1 => exact same
      | b2 => rfl
      | b3 => rfl

theorem putPickup_valveRule {s : State} (x : Pickup) (h : s.valveRule) : (s.putPickup x).valveRule :=
  refreshIf_valveRule (s := { s with arc := { s.arc with pickup := x } }) h.pulses fun same => by
    refine valveRule_of (s := s) (fun i => State.termsOf_congr rfl rfl ?_ rfl rfl rfl rfl rfl) rfl h
    have same : (x.state == .working) = (s.arc.pickup.state == .working) := by simpa using same
    cases i with
    | b0 => rfl
    | b1 => rfl
    | b2 => exact same
    | b3 => exact same

theorem Bank.withProfile_cases (b : Bank) (p : Params) (pr : Profile) (i : BankId) :
    b.withProfile p pr i = b ∨ b.withProfile p pr i = ({ b with doseInEffect := pr.dose.get i } : Bank).rewidth p i := by
  unfold Bank.withProfile; split
  · exact .inr rfl
  · exact .inl rfl

theorem profilePublished_valveRule {s : State} (h : s.valveRule) : s.profilePublished.valveRule := by
  refine valveRule_map (fun i b => b.withProfile s.params s.profile i) s.sge _ s.raceCount (fun i b => ?_)
    (fun i b terms h => ?_) h
  · rcases b.withProfile_cases s.params s.profile i with e | e <;> rw [e]; rfl
  · rcases b.withProfile_cases s.params s.profile i with e | e <;> rw [e] <;> exact h

theorem Pba.lane_setLane_out {b : Pba} {l : LaneId} {x : Lane} (same : x.out = (b.lane l).out) (j : LaneId) :
    ((b.setLane l x).lane j).out = (b.lane j).out := by
  rw [Pba.lane_setLane]; split
  · next e => rw [same, e]
  · rfl

theorem valveRule_kept : DistanceKept State.valveRule where
  fault h := valveRule_of (fun _ => rfl) rfl h
  lane {s} l r h := valveRule_of (s := s) (fun _ => State.termsOf_congr rfl rfl rfl (by simp) rfl rfl rfl rfl) rfl h
  clamp {s} l k sat h := valveRule_of (s := s) (fun _ => State.termsOf_congr rfl rfl rfl (by simp) rfl rfl rfl rfl) rfl h
  stall h := valveRule_of (fun _ => rfl) rfl h
  arm _ h := putArm_valveRule _ _ h
  pickup _ h := putPickup_valveRule _ h
  clock _ _ h := valveRule_of (fun i => by cases i <;> rfl) rfl h
  setting mask dose h := sprayRefresh_valveRule (pulseRule_map _ (fun _ _ h => h) h.pulses)
  disable {s} h := by
    unfold State.disableBanks; split
    · exact sprayRefresh_valveRule (pulseRule_map _ (fun _ _ h => h) h.pulses)
    · exact h
  engine _ h := valveRule_of (fun _ => rfl) rfl h
  claims _ h := valveRule_of (fun _ => rfl) rfl h
  travel _ _ _ _ h := valveRule_of (fun _ => rfl) rfl h
  activate i h := by
    unfold State.activateProfile; split
    · exact h
    · exact profilePublished_valveRule (valveRule_of (fun _ => rfl) rfl h)
  segment {s} h := valveRule_map _ s.sge s.ports s.raceCount (fun _ _ => rfl) (fun _ _ _ h => h) h
  post _ _ h := valveRule_of (fun _ => rfl) rfl h
  told _ h := valveRule_of (fun _ => rfl) rfl h
  mark {s} h := valveRule_map _ _ _ s.raceCount (fun _ b => by unfold Bank.onMark; (repeat' split) <;> rfl)
    (fun _ _ _ h => Bank.valveOk_onMark h) h
  distance _ _ _ h := valveRule_of (fun _ => rfl) rfl h

/-! ## The acts -/

theorem State.measured_setChan (s : State) (c : ChanId) {x : Channel} (speed : x.speed = (s.chan c).speed) :
    (s.setChan c x).measured = s.measured := by
  have same : (s.setChan c x).chan s.ctu.source.chan = if s.ctu.source.chan = c then x else s.chan s.ctu.source.chan :=
    s.chan_setChan _ _ _
  show ((s.setChan c x).chan s.ctu.source.chan).speed = (s.chan s.ctu.source.chan).speed
  rw [same]; split
  · next e => rw [speed, e]
  · rfl

/-- A channel that keeps its speed. -/
theorem valveRule_setChan {s : State} (c : ChanId) {x : Channel} (speed : x.speed = (s.chan c).speed) (h : s.valveRule) :
    (s.setChan c x).valveRule :=
  valveRule_of (s := s)
    (fun _ => State.termsOf_congr rfl (s.measured_setChan c speed) rfl rfl rfl rfl rfl rfl) rfl h

theorem valveRule_budget {s : State} (f : Frame) (h : s.valveRule) : (budgetBody f s).state.valveRule := by
  refine publishSpry_valveRule (refreshIf_valveRule h.pulses fun same => ?_)
  exact valveRule_of (s := s) (fun _ => State.termsOf_congr rfl rfl rfl rfl (by simpa using same) rfl rfl rfl) rfl h

theorem valveRule_asks {s t : State} (act : s.Asks t) (h : s.valveRule) : t.valveRule := by
  cases act with
  | enable c => exact valveRule_setChan c rfl h
  | disable c => exact speedRefresh_valveRule _ s.ports h
  | load c => exact valveRule_setChan c rfl h
  | clear c => exact speedRefresh_valveRule _ s.ports h
  | gndFaultClear => exact speedRefresh_valveRule _ s.ports h
  | budget f => exact valveRule_budget f h
  | tank n le =>
    refine refreshIf_valveRule h.pulses fun same => ?_
    exact valveRule_of (s := s) (fun _ => State.termsOf_congr rfl rfl rfl rfl rfl rfl rfl (by simpa using same)) rfl h
  | lanesClear => exact valveRule_of (s := s) (fun _ => rfl) rfl h
  | storeProfile i p =>
    have stored : State.valveRule { s with pft := { s.pft with profiles := s.pft.profiles.set i.val p i.isLt } } :=
      valveRule_of (s := s) (fun _ => rfl) rfl h
    unfold State.storeProfile; dsimp only; split
    · exact profilePublished_valveRule stored
    · exact stored

/-- The expiry closes its bank; the others keep their terms unless the estimate has changed (R122, R124). -/
theorem valveRule_pulseExpired {s : State} (i : BankId) (h : s.valveRule) : (s.pulseExpired i).valveRule := by
  have bank (j : BankId) : (s.closeWhere fun j b => j == i && b.valve).spc.banks.get j =
      if (j == i && (s.spc.banks.get j).valve) = true then (s.spc.banks.get j).closed (s.params.nozzleFlow j)
      else s.spc.banks.get j := s.closeWhere_bank _ j
  refine refreshIf_valveRule (fun j => ?_) fun same j => ?_
  · rw [bank]; split
    · simp [Bank.closed, Bank.pulseOk]
    · exact h.pulses j
  · have inputs : (s.closeWhere fun j b => j == i && b.valve).termsOf j = s.termsOf j := by
      refine State.termsOf_congr rfl rfl rfl rfl rfl rfl ?_ (by simpa using same)
      rw [bank]; split <;> rfl
    rw [inputs, bank]; split
    · exact ⟨(h j).1, nofun, by simp [Bank.closed]⟩
    · exact h j

theorem valveRule_senses {s t : State} (act : s.Senses t) (h : s.valveRule) : t.valveRule := by
  cases act with
  | sampled c => exact valveRule_setChan c rfl h
  | pulse c => exact valveRule_setChan c rfl h
  | index c => exact valveRule_setChan c rfl h
  | gate c => exact speedRefresh_valveRule _ _ h
  | gateGnd =>
    have published : (s.publishSpeed .gnd).valveRule := speedRefresh_valveRule _ _ h
    have evaluated := valveRule_of (t := { s.publishSpeed .gnd with
      ctu := (s.publishSpeed .gnd).ctu.evaluated ((s.publishSpeed .gnd).params.gate .gnd) }) (fun _ => rfl) rfl published
    unfold State.plausibility; dsimp only; split
    · exact speedRefresh_valveRule _ _ evaluated
    · exact evaluated
  | staled => exact valveRule_of (s := s) (fun _ => rfl) rfl h
  | pulseExpired i => exact valveRule_pulseExpired i h

/-- The pump reads the lane; no term reads the pump. -/
theorem setPump_valveRule {s : State} (h : s.valveRule) : s.setPump.valveRule :=
  valveRule_of (s := s)
    (fun _ => State.termsOf_congr rfl rfl rfl (Pba.lane_setLane_out (by rfl) _) rfl rfl rfl rfl) rfl h

/-- A publication of grants can change T5 alone (R37, R116). -/
theorem State.grants_termsOf {s : State} (served : s.publishGrants.arcOnGrants.sprayServed = s.sprayServed) (i : BankId) :
    s.publishGrants.arcOnGrants.termsOf i = s.termsOf i := by
  have working : s.publishGrants.arcOnGrants.arc.equipWorking i = s.arc.equipWorking i := by cases i <;> rfl
  have t5 : (s.publishGrants.arcOnGrants.pba.lane .spry).out.state.served = (s.pba.lane .spry).out.state.served := served
  unfold State.termsOf
  rw [working, t5]
  rfl

theorem valveRule_allocate {s : State} (h : s.valveRule) : s.allocate.valveRule :=
  setPump_valveRule (refreshIf_valveRule (s := s.publishGrants.arcOnGrants) h.pulses fun same =>
    valveRule_of (s := s) (State.grants_termsOf (by simpa using same)) rfl h)

theorem valveRule_millisecond {s : State} (h : s.valveRule) : s.millisecond.valveRule := by
  intro i
  have bank : s.millisecond.spc.banks.get i = (s.spc.banks.get i).ticked := PerBank.get_map _ _ i
  have measured : s.millisecond.measured = s.measured := by
    show ((PerChan.ofFn fun c => (s.ctu.chans.get c).ticked).get s.ctu.source.chan).speed = _
    rw [PerChan.get_ofFn]; rfl
  have inputs : s.millisecond.termsOf i = s.termsOf i :=
    State.termsOf_congr rfl measured (by cases i <;> rfl) rfl rfl rfl (by rw [bank]; rfl) rfl
  obtain ⟨terms, permissive, pulse⟩ := h i
  rw [inputs, bank]
  exact ⟨terms, permissive, by simpa [Bank.pulseOk, Bank.ticked, tickTimer] using pulse⟩

/-- After a full reset no bank is enabled, and T7 follows the pin (R131, R118). -/
theorem valveRule_fullReset (s : State) (held : Bool) : (s.fullReset held).valveRule := by
  intro i
  have stored : ((s.fullReset held).spc.banks.get i).terms = (s.fullReset held).termsOf i := by
    cases i <;> rfl
  exact ⟨stored, by cases i <;> nofun, by cases i <;> exact ⟨nofun, nofun⟩⟩

/-- In UNCONFIGURED no valve is open, and T7 follows the pin (R118, R172). -/
theorem valveRule_stopHeld {s : State} (level : Bool) (q : s.Quiet) (h : s.valveRule) :
    State.valveRule { s with stopin := level, spc := s.spc.followStop level } := by
  intro i
  have bank : (s.spc.followStop level).banks.get i =
      { s.spc.banks.get i with terms := { (s.spc.banks.get i).terms with t7 := !level } } := PerBank.get_map _ _ i
  have inputs : State.termsOf { s with stopin := level, spc := s.spc.followStop level } i =
      { s.termsOf i with t7 := !level } := by
    simp only [State.termsOf, bank]; rfl
  obtain ⟨_, closed, timer⟩ := q.spc.1 i
  rw [inputs]
  show Bank.valveOk ((s.spc.followStop level).banks.get i) _
  rw [bank]
  exact ⟨by rw [(h i).1], by simp [closed], by simp [Bank.pulseOk, closed, timer]⟩

theorem valveRule_does {s t : State} (act : s.Does t) (quiet : s.quietRule) (h : s.valveRule) : t.valveRule := by
  have hP := valveRule_kept
  cases act with
  | nothing => exact h
  | snaps => exact valveRule_of (s := s) (fun _ => rfl) rfl h
  | ask _ act => exact valveRule_asks act h
  | order _ act => exact hP.orders act h
  | sense act => exact valveRule_senses act h
  | cfgWrite => exact valveRule_of (s := s) (fun _ => rfl) rfl h
  | commitRefused => exact valveRule_of (s := s) (fun _ => rfl) rfl h
  | commit => exact settleBanks_valveRule (pulseRule_map _ (fun _ _ h => h) h.pulses)
  | edge c a b e => exact hP.countEdge (by
      have sampled := valveRule_setChan c (x := (s.chan c).sampled a b) rfl h
      exact valveRule_setChan c (by cases e <;> rfl) sampled)
  | indexClear side => exact hP.indexEvent side (valveRule_setChan _ rfl h)
  | switchHeld => exact hP.withSwitch _ _ _ h
  | switch => exact hP.switchChange _ _ _ h
  | stopHeld level held => exact valveRule_stopHeld level ((State.quiet_iff s).mp (quiet.2 (quiet.1 held))) h
  | stopAsserted =>
    have stopped := hP.stopEffects (sprayRefresh_valveRule (s := { s with stopin := true }) h.pulses)
    exact valveRule_map _ _ _ _ (fun i b => by unfold latchOf; split <;> rfl)
      (fun i b _ h => by unfold latchOf; split <;> exact h) stopped
  | stopReleased => exact hP.post _ rfl (sprayRefresh_valveRule (s := State.rearm { s with stopin := false }) h.pulses)
  | cabLost b => exact hP.cabLost (valveRule_of (s := s) (fun _ => rfl) rfl h)
  | fullReset held => exact valveRule_fullReset s held
  | rstnRelease => exact valveRule_of (s := s) (fun _ => rfl) rfl h
  | tick => exact valveRule_millisecond h
  | allocate => exact valveRule_allocate h
  | travelTick =>
    have staged : s.travelStages.valveRule := hP.clamp _ _ _ (hP.lane _ _ (valveRule_of (s := s) (fun _ => rfl) rfl h))
    exact hP.travelTick staged
  | armUpdate => exact hP.armUpdate h
  | armTimeout side => exact hP.armTimeout side h
  | pickupTimeout => exact hP.pickupTimeout h

/-- Settles O58: a refresh settles the banks, and no other act changes an input of a term. -/
theorem valvesOpenOnlyOnPermissive : Obligations.ValvesOpenOnlyOnPermissive := by
  intro s t quiet h next
  exact step_keeps (P := fun u => u.quietRule ∧ u.valveRule) (Q := State.valveRule) (fun _ _ _ => Iff.rfl)
    (fun _ _ _ => Iff.rfl) (fun _ _ act h => valveRule_does act h.1 h.2) ⟨quiet, h⟩ next

end Sys2Proof.Machine

/-! PROOF. The program stays consistent (R101, R132 to R137, R143 to R154): O59. The equipment leaves the engine record, the
claims and the plan as they are; what the engine does is a few updates of its record, each checked against the phase. -/

namespace Sys2Proof.Machine

/-! ## What the program rule reads -/

/-- The engine record without its figures, the claims, and the stored profiles. -/
def State.program (s : State) : Sge × Clt × Vector Profile 8 := (s.sge.core, s.clt, s.pft.profiles)

/-- Engine record, claims and plan are consistent. -/
def State.programRule (s : State) : Prop := s.engineRule ∧ s.planRule

theorem State.program_eq {s t : State} (core : t.sge.core = s.sge.core) (clt : t.clt = s.clt)
    (profiles : t.pft.profiles = s.pft.profiles) : t.program = s.program := by
  simp only [State.program, core, clt, profiles]

/-- Only the core of the engine record counts. -/
theorem State.engineRule_core (s : State) :
    s.engineRule ↔ State.engineRule { s with sge := s.sge.core } := Iff.rfl

theorem engineRule_congr {s t : State} (core : t.sge.core = s.sge.core) (clt : t.clt = s.clt) (h : s.engineRule) :
    t.engineRule := by
  rw [State.engineRule_core, State.engineRule] at h ⊢
  simpa only [core, clt] using h

/-- A plan on the same ring, with no profile made invalid. -/
theorem planRule_congr {s t : State} (ring : t.sge.ring = s.sge.ring)
    (valid : ∀ j, (s.pft.profiles.get j).valid = true → (t.pft.profiles.get j).valid = true) (h : s.planRule) :
    t.planRule := by
  intro i owned
  rw [ring] at owned ⊢
  obtain ⟨profile, length⟩ := h i owned
  exact ⟨valid _ profile, length⟩

theorem Sge.ring_of_core {e e' : Sge} (core : e'.core = e.core) : e'.ring = e.ring :=
  (congrArg Sge.ring core : e'.core.ring = e.core.ring)

theorem Sge.state_of_core {e e' : Sge} (core : e'.core = e.core) : e'.state = e.state :=
  (congrArg Sge.state core : e'.core.state = e.core.state)

theorem Sge.cause_of_core {e e' : Sge} (core : e'.core = e.core) : e'.suspendCause = e.suspendCause :=
  (congrArg Sge.suspendCause core : e'.core.suspendCause = e.core.suspendCause)

theorem programRule_congr {s t : State} (same : t.program = s.program) (h : s.programRule) : t.programRule := by
  simp only [State.program, Prod.mk.injEq] at same
  obtain ⟨core, clt, profiles⟩ := same
  exact ⟨engineRule_congr core clt h.1, planRule_congr (Sge.ring_of_core core) (fun j => by rw [profiles]; exact id) h.2⟩

@[simp] theorem State.sprayRefresh_core (s : State) : s.sprayRefresh.sge.core = s.sge.core := (State.Still.sprayRefresh s).core

@[simp] theorem State.settleBanks_core (s : State) : s.settleBanks.sge.core = s.sge.core := by simp [State.settleBanks_sge]

@[simp] theorem State.refreshIf_core (s : State) (changed : Bool) : (s.refreshIf changed).sge.core = s.sge.core := by
  cases changed
  · rfl
  · exact s.sprayRefresh_core

@[simp] theorem State.disableBanks_core (s : State) : s.disableBanks.sge.core = s.sge.core := by
  unfold State.disableBanks; split
  · exact State.sprayRefresh_core _
  · rfl

/-- The equipment leaves the program as it is. -/
theorem EquipKept.of_program (x : Sge × Clt × Vector Profile 8) : EquipKept fun s => s.program = x where
  fault := id
  lane _ _ := id
  clamp _ _ _ := id
  stall {s} h := by rw [← h]; exact State.program_eq s.sge.addStall_core rfl rfl
  arm _ h := by rw [← h]; exact State.program_eq (State.refreshIf_core _ _) (by simp) (by simp)
  pickup _ h := by rw [← h]; exact State.program_eq (State.refreshIf_core _ _) (by simp) (by simp)
  clock _ _ := id
  setting _ _ h := by rw [← h]; exact State.program_eq (State.sprayRefresh_core _) (by simp) (by simp)
  disable h := by rw [← h]; exact State.program_eq (State.disableBanks_core _) (by simp) (by simp)

/-! ## Transitions of the engine -/

/-- The engine between two segments, or before the first: nothing is current, no cause stands, and the program has or lends
every resource. -/
structure State.Between (s : State) : Prop where
  cause : s.sge.suspendCause = .none
  back : s.sge.returnState = .none
  held : ∀ r, ¬ (s.clt.get r).outsideProgram
  plan : s.planRule

theorem State.activateProfile_profiles (s : State) (i : Fin 8) : (s.activateProfile i).pft.profiles = s.pft.profiles := by
  unfold State.activateProfile; split <;> rfl

/-- What a segment start makes of the engine record and the claims (R139). -/
theorem State.segmentStart_program (s : State) : s.segmentStart.program =
    (Sge.core { s.sge with present := true, state := .running, settings := some s.sge.atCursor.request.settings, unplanned := 0 },
      s.clt, s.pft.profiles) := by
  let st := s.sge.atCursor.request.settings
  let t : State := { s with sge := { s.sge with present := true, state := .running } }
  have active : ((t.adoptSettings st).activateProfile st.profile).program = (t.adoptSettings st).program :=
    State.program_eq (by simp) (by simp) (State.activateProfile_profiles _ _)
  have applied := (EquipKept.of_program _).applyAllHeld st active
  generalize e : ((t.adoptSettings st).activateProfile st.profile).applyAllHeld st = u at applied
  have start : s.segmentStart = u.startFigures.spraySegmentStart := by rw [← e]; rfl
  obtain ⟨core, clt, profiles⟩ : u.sge.core = _ ∧ u.clt = _ ∧ u.pft.profiles = _ := by
    simpa only [State.program, Prod.mk.injEq] using applied
  have began : s.segmentStart.sge.core = { u.sge.core with unplanned := 0 } := by rw [start]; rfl
  have kept : s.segmentStart.clt = u.clt ∧ s.segmentStart.pft = u.pft := by rw [start]; exact ⟨rfl, rfl⟩
  rw [State.program, began, core, kept.1, kept.2, clt, profiles]
  rfl

/-- A segment starts on a descriptor that the engine owns (R137, R139, R145). -/
theorem segmentStart_programRule {s : State} (h : s.Between) (owned : s.sge.atCursor.owner = .engine) :
    s.segmentStart.programRule := by
  have started := s.segmentStart_program
  let t : State := { s with sge := { s.sge with
    present := true, state := .running, settings := some s.sge.atCursor.request.settings, unplanned := 0 } }
  refine programRule_congr (s := t) started ⟨⟨⟨rfl, h.cause, h.back⟩, fun _ => owned, fun _ => rfl, fun r => ?_⟩, h.plan⟩
  exact ⟨fun out => absurd out (h.held r), nofun⟩

theorem fetch_programRule {s : State} (h : s.Between) (absent : s.sge.present = false)
    (set : s.sge.settings.isSome = true) : s.fetch.programRule := by
  unfold State.fetch; split
  · next owned => exact segmentStart_programRule h owned
  · refine ⟨⟨⟨absent, h.cause, h.back⟩, fun on => ?_, fun _ => set, fun r => ?_⟩, h.plan⟩
    · exact absurd (absent.symm.trans on) (by decide)
    · exact ⟨fun out => absurd out (h.held r), nofun⟩

/-- Program end frees what the program held and gives back what the cab had lent (R108, R154). -/
theorem programEnd_programRule {s : State} (k : EndKind) (plan : s.planRule) : (s.programEnd k).programRule := by
  refine ⟨⟨⟨rfl, rfl, rfl⟩, nofun, fun busy => absurd rfl busy, fun r => ⟨fun _ => rfl, fun _ => ?_⟩⟩, plan⟩
  have ended : (s.programEnd k).clt.get r = (s.clt.get r).onEnd := PerResource.get_map _ _ r
  rw [ended]
  cases s.clt.get r <;> simp [Claim.onEnd, Claim.outsideProgram]

/-- A descriptor given back to the master takes nothing from the plan (R144). -/
theorem planRule_set {s : State} {i : Fin 32} {d : Descriptor} (h : s.planRule)
    (ok : d.owner = .engine → (s.pft.profiles.get d.request.settings.profile).valid = true ∧
      1000 ≤ d.request.lengthMm ∧ d.request.lengthMm ≤ 20000000) :
    State.planRule { s with sge := { s.sge with ring := s.sge.ring.set i.val d i.isLt } } := by
  intro j
  by_cases same : i = j
  · subst same
    simpa [Vector.get_eq_getElem] using ok
  · have other : (s.sge.ring.set i.val d i.isLt).get j = s.sge.ring.get j := by
      simp only [Vector.get_eq_getElem]
      exact Vector.getElem_set_ne _ _ (by simpa [Fin.val_inj] using same)
    simpa only [other] using h j

/-- The finished segment's descriptor is the master's again (R144). -/
theorem writeback_planRule {s : State} (st : SegStatus) (h : s.planRule) : (s.writeback st).planRule :=
  planRule_set (d := { s.sge.atCursor with owner := .master, result := some (s.sge.resultOf st) }) h nofun

/-- A current segment, written back, leaves the engine between segments. -/
theorem writeback_between {s : State} (st : SegStatus) (h : s.programRule) (busy : s.sge.state = .running) :
    (s.writeback st).Between := by
  obtain ⟨⟨phase, _, _, claims⟩, plan⟩ := h
  rw [Sge.phaseOk, busy] at phase
  exact ⟨phase.2.1, phase.2.2, fun r out => by rw [(claims r).mp out] at busy; contradiction, writeback_planRule st plan⟩

theorem State.engineRule.settings {s : State} (h : s.engineRule) (busy : s.sge.state ≠ .idle) :
    s.sge.settings.isSome = true := h.2.2.1 busy

theorem segmentEnd_programRule {s : State} (h : s.programRule) (running : s.sge.state = .running) :
    s.segmentEnd.programRule := by
  have set := h.1.settings (by rw [running]; decide)
  have between := writeback_between .done h running
  have next : (s.writeback .done).advanceCursor.Between := ⟨between.cause, between.back, between.held, between.plan⟩
  unfold State.segmentEnd; dsimp only; split
  · split
    · exact programEnd_programRule _ between.plan
    · exact fetch_programRule next rfl set
  · split
    · exact programEnd_programRule _ between.plan
    · refine ⟨⟨rfl, nofun, fun _ => set, fun r => ⟨fun out => absurd out (between.held r), nofun⟩⟩, between.plan⟩
  · obtain ⟨⟨phase, owned, _, claims⟩, plan⟩ := h
    rw [Sge.phaseOk, running] at phase
    refine programRule_congr ((EquipKept.of_program _).stopAllHeld rfl) ⟨⟨phase, owned, fun _ => set, fun r => ?_⟩, plan⟩
    exact ⟨fun out => absurd ((claims r).mp out) (by rw [running]; decide), nofun⟩

theorem engineMm_programRule {s : State} (h : s.programRule) : s.engineMm.programRule := by
  unfold State.engineMm; split
  · next running =>
    have counted (n : Nat) : State.programRule { s with sge := { s.sge with figures := { s.sge.figures with distance := n } } } :=
      programRule_congr (s := s) rfl h
    dsimp only; split
    · exact segmentEnd_programRule (counted _) running
    · exact counted _
  · next starved => exact h
  all_goals exact h

theorem stopComplete_programRule {s : State} (h : s.programRule) : s.stopComplete.programRule := by
  unfold State.stopComplete; dsimp only; split
  · exact programEnd_programRule _ (writeback_planRule (s := { s with tgv := _ }) _ h.2)
  · exact h

theorem markMm_programRule {s : State} (h : s.programRule) : s.markMm.programRule := by
  have mark (u : Ctu) : State.programRule ({ s with ctu := u } : State).distanceMark :=
    programRule_congr (s := s) (State.program_eq (by simp [State.distanceMark, apply_ite Sge.core]) rfl rfl) h
  unfold State.markMm; split
  · exact mark _
  · exact h

theorem forwardMms_programRule (n : Nat) {s : State} (h : s.programRule) : (State.forwardMms n s).programRule := by
  induction n generalizing s with
  | zero => exact h
  | succ n ih =>
    exact ih (markMm_programRule (engineMm_programRule (s := { s with ctu := _ }) h))

theorem countEdge_programRule {s : State} (c : ChanId) (e : Edge) (h : s.programRule) : (s.countEdge c e).programRule := by
  unfold State.countEdge; dsimp only; split
  · exact forwardMms_programRule _ (s := { s with ctu := _ }) h
  · exact h

/-! ## The orders -/

/-- A change of one claim that keeps it with or without the program. -/
theorem setClaim_programRule {s : State} (r : Resource) {c : Claim} (same : c.outsideProgram ↔ (s.clt.get r).outsideProgram)
    (h : s.programRule) : (s.setClaim r c).programRule := by
  obtain ⟨⟨phase, owned, set, claims⟩, plan⟩ := h
  refine ⟨⟨phase, owned, set, fun r' => ?_⟩, plan⟩
  have entry : (s.setClaim r c).clt.get r' = if r' = r then c else s.clt.get r' := PerResource.get_set _ _ _ _
  rw [entry]; split
  · next e => rw [same, ← e]; exact claims r'
  · exact claims r'

theorem Claim.claimed_outside (c : Claim) : c.claimed.1.outsideProgram ↔ c.outsideProgram := by cases c <;> decide

theorem Claim.taken_outside (c : Claim) : c.taken.outsideProgram ↔ c.outsideProgram := by cases c <;> decide

theorem Claim.released_outside {c : Claim} (notLent : c ≠ .lent) : c.released.1.outsideProgram ↔ c.outsideProgram := by
  cases c with
  | lent => exact absurd rfl notLent
  | free => decide
  | cab => decide
  | program => decide

theorem Claim.withdrawn_outside (c : Claim) : c.withdrawn.outsideProgram ↔ c.outsideProgram := by cases c <;> decide

theorem Claim.onStart_outside (c : Claim) : ¬ c.onStart.outsideProgram := by cases c <;> decide

/-- A descriptor that the master owns is not the current one (R133, R137). -/
theorem descWrite_programRule {s : State} (i : Fin 32) (d : Descriptor) (free : (s.sge.ring.get i).owner = .master)
    (low : 1000 ≤ d.request.lengthMm) (high : d.request.lengthMm ≤ 20000000)
    (valid : (s.pft.profiles.get d.request.settings.profile).valid = true) (h : s.programRule) :
    State.programRule { s with sge := s.sge.setDesc i d } := by
  obtain ⟨⟨phase, owned, set, claims⟩, plan⟩ := h
  refine ⟨⟨phase, fun present => ?_, set, claims⟩, planRule_set plan fun _ => ⟨valid, low, high⟩⟩
  have other : i ≠ s.sge.cursor := by
    rintro rfl
    have := owned present
    rw [Sge.atCursor, free] at this
    contradiction
  have same : (s.sge.setDesc i d).atCursor = s.sge.atCursor := by
    simp only [Sge.atCursor, Sge.setDesc, Vector.get_eq_getElem]
    exact Vector.getElem_set_ne _ _ (by simpa [Fin.val_inj] using other)
  rw [same]; exact owned present

/-- A descriptor taken back plans nothing (R136). -/
theorem Descriptor.returned_owner (d : Descriptor) : d.returned.owner = .master := by
  unfold Descriptor.returned; split
  · rfl
  · next master => exact master

theorem descReturn_programRule {s : State} (i : Fin 32) (idle : s.sge.state = .idle) (h : s.programRule) :
    State.programRule { s with sge := s.sge.setDesc i (s.sge.ring.get i).returned } := by
  obtain ⟨⟨phase, owned, set, claims⟩, plan⟩ := h
  refine ⟨⟨phase, fun present => ?_, set, claims⟩, planRule_set plan fun own => ?_⟩
  · rw [Sge.phaseOk, idle] at phase
    exact absurd (phase.1.symm.trans present) (by decide)
  · rw [Descriptor.returned_owner] at own; contradiction

theorem startProgram_programRule {s : State} (p : PortId) (i : Fin 32) (idle : s.sge.state = .idle)
    (planned : (s.sge.ring.get i).owner = .engine) (h : s.programRule) : (s.startProgram p i).programRule := by
  obtain ⟨⟨phase, _⟩, plan⟩ := h
  rw [Sge.phaseOk, idle] at phase
  refine segmentStart_programRule ⟨phase.2.1, phase.2.2, fun r => ?_, plan⟩ planned
  have entry : (s.clt.map Claim.onStart).get r = (s.clt.get r).onStart := PerResource.get_map _ _ r
  show ¬ ((s.clt.map Claim.onStart).get r).outsideProgram
  rw [entry]; exact Claim.onStart_outside _

/-- A program that runs has every resource or lends it (R101). -/
theorem State.engineRule.held {s : State} (h : s.engineRule) (busy : s.sge.state ≠ .idle) (r : Resource) :
    ¬ (s.clt.get r).outsideProgram := fun out => busy ((h.2.2.2 r).mp out)

theorem poll_programRule {s : State} (starved : s.sge.state = .starved) (planned : s.sge.atCursor.owner = .engine)
    (h : s.programRule) : s.segmentStart.programRule := by
  have held := h.1.held (by rw [starved]; decide)
  obtain ⟨⟨phase, _⟩, plan⟩ := h
  rw [Sge.phaseOk, starved] at phase
  exact segmentStart_programRule ⟨phase.2.1, phase.2.2, held, plan⟩ planned

/-- A suspension, whatever its cause, keeps the segment that is current and the claims. -/
theorem suspend_programRule {s : State} (c : SuspendCause) (r : ReturnState) (busy : s.sge.state ≠ .idle)
    (phase : Sge.phaseOk { s.sge with state := .suspended, suspendCause := c, returnState := r }) (h : s.programRule) :
    (s.suspend c r).programRule := by
  have held := h.1.held busy
  obtain ⟨⟨_, owned, set, _⟩, plan⟩ := h
  exact ⟨⟨phase, owned, fun _ => set busy, fun r => ⟨fun out => absurd out (held r), nofun⟩⟩, plan⟩

theorem suspendRunning_programRule {s : State} (c : SuspendCause) (cause : c = .command ∨ c = .stopInput)
    (running : s.sge.state = .running) (h : s.programRule) : (s.suspend c .running).programRule := by
  refine suspend_programRule c .running (by rw [running]; decide) ?_ h
  have phase := h.1.1
  rw [Sge.phaseOk, running] at phase
  rcases cause with rfl | rfl <;> exact phase.1

theorem suspendStarved_programRule {s : State} (c : SuspendCause) (cause : c = .command ∨ c = .stopInput)
    (starved : s.sge.state = .starved) (h : s.programRule) : (s.suspend c .starved).programRule := by
  refine suspend_programRule c .starved (by rw [starved]; decide) ?_ h
  have phase := h.1.1
  rw [Sge.phaseOk, starved] at phase
  rcases cause with rfl | rfl <;> exact phase.1

/-- The return state of a suspension that a command or STOPIN caused (R149, R151). -/
theorem Sge.phaseOk_suspended {e : Sge} (h : e.phaseOk) (suspended : e.state = .suspended) :
    (e.suspendCause = .command ∨ e.suspendCause = .stopInput) ∧
        (e.returnState = .running ∧ e.present = true ∨ e.returnState = .starved ∧ e.present = false) ∨
      e.suspendCause = .pauseEnd ∧ e.returnState = .none ∧ e.present = false := by
  rw [Sge.phaseOk, suspended] at h
  dsimp only at h
  split at h <;> simp_all

/-- The engine goes on where it was suspended (R150). -/
theorem returned_programRule {s : State} (suspended : s.sge.state = .suspended)
    (cause : s.sge.suspendCause ≠ .pauseEnd) (h : s.programRule) : s.returned.programRule := by
  have held := h.1.held (by rw [suspended]; decide)
  have set := h.1.settings (by rw [suspended]; decide)
  obtain ⟨⟨phase, owned, _, _⟩, plan⟩ := h
  rcases Sge.phaseOk_suspended phase suspended with ⟨_, ⟨back, present⟩ | ⟨back, present⟩⟩ | ⟨pause, _⟩
  · refine ⟨⟨?_, owned, fun _ => set, fun r => ⟨fun out => absurd out (held r), fun idle => ?_⟩⟩, plan⟩
    · simp [State.returned, back, ReturnState.engine, Sge.phaseOk, present]
    · simp [State.returned, back, ReturnState.engine] at idle
  · refine ⟨⟨?_, owned, fun _ => set, fun r => ⟨fun out => absurd out (held r), fun idle => ?_⟩⟩, plan⟩
    · simp [State.returned, back, ReturnState.engine, Sge.phaseOk, present]
    · simp [State.returned, back, ReturnState.engine] at idle
  · exact absurd pause cause

theorem resumePause_programRule {s : State} (suspended : s.sge.state = .suspended)
    (cause : s.sge.suspendCause = .pauseEnd) (h : s.programRule) : s.resumePause.programRule := by
  have held := h.1.held (by rw [suspended]; decide)
  have set := h.1.settings (by rw [suspended]; decide)
  obtain ⟨⟨phase, _⟩, plan⟩ := h
  rcases Sge.phaseOk_suspended phase suspended with ⟨other | other, _⟩ | ⟨_, _, absent⟩
  · rw [cause] at other; contradiction
  · rw [cause] at other; contradiction
  · exact fetch_programRule ⟨rfl, rfl, held, plan⟩ absent set

theorem abort_programRule {s : State} (h : s.programRule) : (s.abortSegment.stopAllHeld.programEnd .abort).programRule := by
  have aborted : s.abortSegment.planRule := by
    unfold State.abortSegment; split
    · exact writeback_planRule _ h.2
    · exact h.2
  have same := (EquipKept.of_program _).stopAllHeld (s := s.abortSegment) rfl
  simp only [State.program, Prod.mk.injEq] at same
  obtain ⟨core, _, profiles⟩ := same
  exact programEnd_programRule _ (planRule_congr (Sge.ring_of_core core) (fun j => by rw [profiles]; exact id) aborted)

theorem programRule_orders {s t : State} (act : s.Orders t) (h : s.programRule) : t.programRule := by
  have hP := EquipKept.of_program s.program
  have of_same {u : State} (same : u.program = s.program) : u.programRule := programRule_congr same h
  cases act with
  | travel => exact h
  | claim r => exact setClaim_programRule r (Claim.claimed_outside _) h
  | take r =>
    refine programRule_congr (s := s.setClaim r (s.clt.get r).taken) (State.program_eq ?_ rfl rfl)
      (setClaim_programRule r (Claim.taken_outside _) h)
    dsimp only; split
    · exact Sge.noteTake_core _ _
    · rfl
  | release r notLent => exact setClaim_programRule r (Claim.released_outside notLent) h
  | giveBack r lent =>
    exact programRule_congr ((EquipKept.of_program _).returnEvent r rfl)
      (setClaim_programRule r (by rw [lent]; decide) h)
  | deploy => exact of_same (hP.armDeploy _ _ rfl)
  | retarget => exact of_same (hP.armRetarget _ _ rfl)
  | stow => exact of_same (hP.armStow _ _ rfl)
  | armClear => exact of_same (hP.armClear _ rfl)
  | pickupWork => exact of_same (hP.pickupWork rfl)
  | pickupUp => exact of_same (hP.pickupUp rfl)
  | spraySet => exact of_same (hP.setting _ _ rfl)
  | select i => exact of_same (State.program_eq (by simp) (by simp) (State.activateProfile_profiles _ _))
  | descWrite i d free low high valid => exact descWrite_programRule i d free low high valid h
  | descReturn i idle => exact descReturn_programRule i idle h
  | start p i idle planned => exact startProgram_programRule p i idle planned h
  | poll starved planned => exact poll_programRule starved planned h
  | suspendRunning running => exact suspendRunning_programRule _ (.inl rfl) running h
  | suspendStarved starved => exact suspendStarved_programRule _ (.inl rfl) starved h
  | resume suspended cause =>
    exact returned_programRule suspended (by rcases cause with e | e <;> rw [e] <;> decide) h
  | resumePause suspended cause => exact resumePause_programRule suspended cause h
  | resumeStop suspended cause =>
    have same := hP.remakeSettings rfl
    simp only [State.program, Prod.mk.injEq] at same
    have state : s.remakeSettings.sge.state = s.sge.state := Sge.state_of_core same.1
    have why : s.remakeSettings.sge.suspendCause = s.sge.suspendCause := Sge.cause_of_core same.1
    exact returned_programRule (state.trans suspended) (by rw [why, cause]; decide) (of_same (hP.remakeSettings rfl))
  | abort => exact abort_programRule h

/-! ## The other acts -/

/-- A stored profile stays stored, and one that is written is valid (R49). -/
theorem profiles_asks {s t : State} (act : s.Asks t) (j : Fin 8) (valid : (s.pft.profiles.get j).valid = true) :
    (t.pft.profiles.get j).valid = true := by
  cases act with
  | enable => exact valid
  | disable => simpa [State.speedRefresh] using valid
  | load => exact valid
  | clear => simpa [State.speedRefresh] using valid
  | gndFaultClear => simpa [State.speedRefresh] using valid
  | budget => simpa [budgetBody, State.done] using valid
  | tank => simpa using valid
  | lanesClear => exact valid
  | storeProfile i p stored =>
    have profiles : (s.storeProfile i p).pft.profiles = s.pft.profiles.set i.val p i.isLt := by
      unfold State.storeProfile; dsimp only; split <;> rfl
    rw [profiles]
    by_cases same : i = j
    · subst same; simpa [Vector.get_eq_getElem] using stored
    · have other : (s.pft.profiles.set i.val p i.isLt).get j = s.pft.profiles.get j := by
        simp only [Vector.get_eq_getElem]
        exact Vector.getElem_set_ne _ _ (by simpa [Fin.val_inj] using same)
      rw [other]; exact valid

theorem programRule_asks {s t : State} (act : s.Asks t) (h : s.programRule) : t.programRule :=
  ⟨engineRule_congr (State.Still.asks act).core (State.Still.asks act).clt h.1,
    planRule_congr (Sge.ring_of_core (State.Still.asks act).core) (profiles_asks act) h.2⟩

theorem profiles_senses {s t : State} (act : s.Senses t) : t.pft = s.pft := by
  cases act with
  | sampled => rfl
  | pulse => rfl
  | index => rfl
  | gate => simp [State.publishSpeed, State.speedRefresh]
  | gateGnd =>
    have published : (s.publishSpeed .gnd).pft = s.pft := by simp [State.publishSpeed, State.speedRefresh]
    unfold State.plausibility; dsimp only; split
    · simp [State.setGroundFault, State.speedRefresh, published]
    · exact published
  | staled => rfl
  | pulseExpired => simp

theorem programRule_senses {s t : State} (act : s.Senses t) (h : s.programRule) : t.programRule :=
  programRule_congr (State.program_eq (State.Still.senses act).core (State.Still.senses act).clt
    (by rw [profiles_senses act])) h

/-- STOPIN at the engine (R151). -/
theorem engineStopInput_programRule {s : State} (h : s.programRule) : s.engineStopInput.programRule := by
  have noted : State.programRule { s with sge := s.sge.noteStopInput } :=
    programRule_congr (s := s) (State.program_eq (Sge.noteStopInput_core _) rfl rfl) h
  have state : s.sge.noteStopInput.state = s.sge.state := Sge.state_of_core (Sge.noteStopInput_core _)
  unfold State.engineStopInput; split
  · next running => exact suspendRunning_programRule _ (.inr rfl) (state.trans running) noted
  · next starved => exact suspendStarved_programRule _ (.inr rfl) starved h
  · next suspended =>
    split
    · next command =>
      have held := noted.1.held (by rw [state, suspended]; decide)
      have set := noted.1.settings (by rw [state, suspended]; decide)
      obtain ⟨⟨phase, owned, _, _⟩, plan⟩ := noted
      refine ⟨⟨?_, owned, fun _ => set, fun r => ⟨fun out => absurd out (held r), fun idle => ?_⟩⟩, plan⟩
      · have why : s.sge.noteStopInput.suspendCause = .command :=
          (Sge.cause_of_core (Sge.noteStopInput_core _)).trans command
        rcases Sge.phaseOk_suspended phase (state.trans suspended) with ⟨_, ⟨back, present⟩ | ⟨back, present⟩⟩ | ⟨pause, _⟩
        · have back : s.sge.noteStopInput.returnState = .running := back
          simpa only [Sge.phaseOk, state, suspended, back] using present
        · have back : s.sge.noteStopInput.returnState = .starved := back
          simpa only [Sge.phaseOk, state, suspended, back] using present
        · rw [why] at pause; contradiction
      · exact absurd (state.symm.trans idle) (by rw [suspended]; decide)
    · exact h
  · exact noted
  · exact h

theorem stopEffects_programRule {s : State} (h : s.programRule) : s.stopEffects.programRule := by
  have hP := EquipKept.of_program s.program
  have refreshed : (({ s with stopin := true } : State).sprayRefresh).program = s.program :=
    State.program_eq (by simp) (by simp) (by simp)
  exact engineStopInput_programRule (programRule_congr (hP.stopPickup (hP.stopArm _ (hP.stopArm _ refreshed))) h)

theorem cabLost_programRule {s : State} (h : s.programRule) : s.cabLost.programRule := by
  have withdrawn : State.programRule { s with clt := s.clt.map Claim.withdrawn } := by
    obtain ⟨⟨phase, owned, set, claims⟩, plan⟩ := h
    refine ⟨⟨phase, owned, set, fun r => ?_⟩, plan⟩
    have entry : (s.clt.map Claim.withdrawn).get r = (s.clt.get r).withdrawn := PerResource.get_map _ _ r
    show ((s.clt.map Claim.withdrawn).get r).outsideProgram ↔ _
    rw [entry, Claim.withdrawn_outside]; exact claims r
  have hP := EquipKept.of_program (State.program { s with clt := s.clt.map Claim.withdrawn })
  have same : s.cabLost.program = State.program { s with clt := s.clt.map Claim.withdrawn } :=
    hP.withdrawEffect _ _ (hP.withdrawEffect _ _ (hP.withdrawEffect _ _ (hP.withdrawEffect _ _ rfl)))
  exact programRule_congr same withdrawn

theorem State.allocate_core (s : State) : s.allocate.sge.core = s.sge.core := by
  have published : s.publishGrants.sge.core = s.sge.core := by
    unfold State.publishGrants; dsimp only; split
    · rfl
    · exact Sge.noteShed_core _ _
  have refreshed := State.refreshIf_core s.publishGrants.arcOnGrants
    (s.publishGrants.arcOnGrants.sprayServed != s.sprayServed)
  exact refreshed.trans published

/-- After a reset the master owns every descriptor. -/
theorem reset_planRule (s : State) (held : Bool) : (s.fullReset held).planRule := by
  intro i owned
  have master : (s.fullReset held).sge.ring.get i = Descriptor.reset := by simp [State.fullReset, State.reset, Sge.reset, Vector.get_eq_getElem]
  rw [master] at owned
  contradiction

theorem programRule_fullReset (s : State) (held : Bool) : (s.fullReset held).programRule := by
  refine ⟨⟨⟨rfl, rfl, rfl⟩, nofun, fun busy => absurd rfl busy, fun r => ⟨fun _ => rfl, fun _ => .inl ?_⟩⟩,
    reset_planRule s held⟩
  cases r <;> rfl

theorem programRule_does {s t : State} (act : s.Does t) (h : s.programRule) : t.programRule := by
  have hP := EquipKept.of_program s.program
  have of_same {u : State} (same : u.program = s.program) : u.programRule := programRule_congr same h
  cases act with
  | nothing => exact h
  | snaps => exact h
  | ask _ act => exact programRule_asks act h
  | order _ act => exact programRule_orders act h
  | sense act => exact programRule_senses act h
  | cfgWrite => exact h
  | commitRefused => exact h
  | commit => exact of_same (State.program_eq (by simp [State.commit, State.commitBlocks])
      (by simp [State.commit, State.commitBlocks]) (by simp [State.commit, State.commitBlocks]))
  | edge c => exact countEdge_programRule (s := s.setChan c _) c _ h
  | indexClear side => exact programRule_congr ((EquipKept.of_program _).indexEvent (s := s.setChan _ _) side rfl) h
  | switchHeld => exact of_same (hP.withSwitch _ _ _ rfl)
  | switch => exact of_same (hP.switchChange _ _ _ rfl)
  | stopHeld => exact h
  | stopAsserted => exact programRule_congr (s := s.stopEffects) rfl (stopEffects_programRule h)
  | stopReleased => exact of_same (State.program_eq (by simp [State.rearm]) (by simp [State.rearm]) (by simp [State.rearm]))
  | cabLost b => exact cabLost_programRule (s := { s with ctu := _ }) h
  | fullReset held => exact programRule_fullReset s held
  | rstnRelease => exact h
  | tick => exact h
  | allocate => exact of_same (State.program_eq s.allocate_core (by simp) (by simp))
  | travelTick =>
    unfold State.travelTick; dsimp only; split
    · exact stopComplete_programRule (s := s.travelStages) h
    · exact h
  | armUpdate => exact of_same (hP.armUpdate rfl)
  | armTimeout side => exact of_same (hP.armTimeout side rfl)
  | pickupTimeout => exact of_same (hP.pickupTimeout rfl)

/-- Settles O59, for the engine record, the claims and the plan together. -/
theorem programStaysConsistent : Obligations.ProgramStaysConsistent := by
  intro s t engine plan next
  exact step_keeps (P := State.programRule) (fun _ _ _ => Iff.rfl) (fun _ _ _ => Iff.rfl) (fun _ _ => programRule_does)
    ⟨engine, plan⟩ next

end Sys2Proof.Machine

/-! PROOF. The front of the queue (O1), the reset state and its invariants (O3, O54), a full reset and the release of RSTN (O4). -/

namespace Sys2Proof.Machine

/-- Settles O1. -/
theorem stepTakesFront : Obligations.StepTakesFront := by
  intro c rest s front
  rw [step, front]

/-! ## The reset state -/

theorem reset_quiet : State.reset.quiet := (State.quiet_iff _).mpr (State.reset.quiet_fullReset State.reset.rstnHeld)

/-- Settles O54: the reset state is one after a full reset. -/
theorem resetMeetsInvariants : Obligations.ResetMeetsInvariants := by
  obtain ⟨_, ⟨fwd, rev, motor, coils⟩, arms, pickup⟩ : State.reset.drivesLegal :=
    drivesLegal_fullReset State.reset State.reset.rstnHeld
  obtain ⟨pump, water, estimate⟩ : State.reset.spc.sound := spcSound_fullReset State.reset State.reset.rstnHeld
  obtain ⟨speeds, um⟩ : State.reset.ctu.sound := ctuSound_fullReset State.reset State.reset.rstnHeld
  obtain ⟨engine, plan⟩ : State.reset.programRule := programRule_fullReset State.reset State.reset.rstnHeld
  exact ⟨reset_paramsRule, ⟨fun _ => rfl, fun _ => reset_quiet⟩, fun _ => inside_of_quiet reset_quiet,
    valveRule_fullReset State.reset State.reset.rstnHeld, engine, plan,
    ⟨fwd, rev, motor, coils, pump, arms .left, arms .right, pickup⟩, speeds, um, water, estimate⟩

/-! ## Full reset and release -/

theorem exec_fullReset (kind : ResetKind) (s : State) :
    exec (.fullReset kind) s = .next (s.fullReset (rstnAfter kind s.rstnHeld)) := rfl

theorem exec_rstnRelease (s : State) : exec .rstnRelease s = .next (if s.rstnHeld then
      { s with
        rstnHeld := false
        ports := .ofFn fun p => { s.ports.get p with silenceTimer := startedSilence false (s.ports.get p).inReset } }
     else s) := rfl

/-- A full reset, block by block: the reset values, with the levels of the pins (R172, R179). -/
theorem fullReset_blocks (s : State) (held : Bool) :
    (s.fullReset held).stopin = s.stopin ∧ (s.fullReset held).pft = Pft.reset ∧ (s.fullReset held).pba = Pba.reset ∧
      (s.fullReset held).tgv = Tgv.reset ∧ (s.fullReset held).clt = Clt.reset ∧ (s.fullReset held).sge = Sge.reset ∧
      (s.fullReset held).cfs = Cfs.reset := ⟨rfl, rfl, rfl, rfl, rfl, rfl, rfl⟩

theorem fullReset_port (s : State) (held : Bool) (p : PortId) : (s.fullReset held).port p = { Port.reset with
    inReset := (s.port p).inReset
    silenceTimer := if held || (s.port p).inReset then none else some 1000 } := by
  have entry : (s.fullReset held).port p = (s.ports.get p).fullReset held := PerPort.get_ofFn _ p
  rw [entry]; rfl

theorem startedSilence_released (inReset : Bool) :
    startedSilence false inReset = if inReset then none else some 1000 := by cases inReset <;> rfl

/-- Settles O4. -/
theorem fullResetAndRelease : Obligations.FullResetAndRelease := by
  intro s
  refine ⟨fun kind => ⟨_, exec_fullReset kind s, ?_⟩, fun held => ?_, fun released => ?_⟩
  · obtain ⟨stopin, pft, pba, tgv, clt, sge, cfs⟩ := fullReset_blocks s (rstnAfter kind s.rstnHeld)
    refine ⟨by cases kind <;> rfl, stopin, pft, pba, tgv, clt, sge, cfs, fun c => ?_, rfl, fun side => ?_, rfl, rfl, rfl,
      fun i => ?_, rfl, rfl, fullReset_port s _⟩
    · cases c <;> rfl
    · cases side <;> rfl
    · cases i <;> rfl
  · refine ⟨_, exec_rstnRelease s, ?_⟩
    rw [if_pos held]
    refine ⟨fun p => ?_, rfl⟩
    have entry : (PerPort.ofFn fun p => { s.ports.get p with
        silenceTimer := startedSilence false (s.ports.get p).inReset }).get p = { s.ports.get p with
        silenceTimer := startedSilence false (s.ports.get p).inReset } := PerPort.get_ofFn _ p
    exact entry.trans (by rw [startedSilence_released]; rfl)
  · rw [exec_rstnRelease, if_neg (by simp [released])]

/-! ## The reset values -/

/-- Settles O3, block by block. -/
theorem resetValues : Obligations.ResetValues := by
  refine ⟨by decide, fun p => ⟨rfl, ⟨rfl, rfl⟩, rfl, rfl, rfl, rfl, rfl, rfl⟩, rfl, fun side => ?indexClear,
    fun c => ?chan, rfl, fun p => ?snap, rfl, fun l => ?lane, ⟨rfl, fun i => ?profile⟩, rfl, fun side => ?arm, rfl, rfl, rfl,
    fun r => ?claim, ⟨rfl, rfl, fun i => ?bank⟩, rfl, fun i => ?descriptor, fun p => ?port⟩
  case indexClear => cases side <;> decide
  case chan => cases c <;> rfl
  case snap => cases p <;> rfl
  case lane => cases l <;> rfl
  case profile => simp [State.reset, Pft.reset, Vector.get_eq_getElem]; rfl
  case arm => cases side <;> rfl
  case claim => cases r <;> exact ⟨rfl, rfl⟩
  case bank => cases i <;> rfl
  case descriptor =>
    have entry : State.reset.sge.ring.get i = Descriptor.reset := by simp [State.reset, Sge.reset, Vector.get_eq_getElem]
    rw [entry]
    exact ⟨rfl, rfl, rfl⟩
  case port => cases p <;> exact ⟨rfl, rfl, rfl, rfl, rfl, rfl, rfl⟩

end Sys2Proof.Machine

/-! PROOF. The code table, the permission matrix, and the codes of the enumerated sets (R161, R181 to R185): O6. -/

namespace Sys2Proof

/-! ## The code table -/

theorem Cmd.mem_list (c : Cmd) : c ∈ Cmd.list := by cases c <;> decide

/-- No two commands share a code. -/
theorem Cmd.ofCode_code (c : Cmd) : Cmd.ofCode c.code = some c := by cases c <;> rfl

theorem Cmd.ofCode_eq_some {code : Byte} {c : Cmd} : Cmd.ofCode code = some c ↔ c.code = code := by
  constructor
  · intro found
    simpa using List.find?_some found
  · rintro rfl; exact c.ofCode_code

theorem Cmd.ofCode_eq_none {code : Byte} : Cmd.ofCode code = none ↔ ∀ c : Cmd, c.code ≠ code := by
  rw [Option.eq_none_iff_forall_ne_some]
  simp only [ne_eq, Cmd.ofCode_eq_some]

/-- The rows of the code table, in code order (R183). -/
theorem Cmd.mem_rows {code : Byte} {c : Cmd} :
    (code, c, c.reqLen) ∈ Cmd.list.map (fun c => (c.code, c, c.reqLen)) ↔ c.code = code := by
  simp only [List.mem_map, Prod.mk.injEq]
  constructor
  · rintro ⟨_, _, codes, rfl, _⟩; exact codes
  · rintro rfl; exact ⟨c, c.mem_list, rfl, rfl, rfl⟩

namespace Machine

/-! ## The codes that a byte can carry -/

/-- A byte that names an entry of a list by its number. -/
theorem mem_numbered {α : Type} {l : List α} (short : l.length ≤ 256) {b : Byte} {x : α} :
    (b, x) ∈ l.zipIdx.map (fun e => ((BitVec.ofNat 8 e.2 : Byte), e.1)) ↔ l[b.toNat]? = some x := by
  simp only [List.mem_map, Prod.exists, List.mem_zipIdx_iff_getElem?, Prod.mk.injEq]
  constructor
  · rintro ⟨y, i, found, rfl, rfl⟩
    have low : i < 256 := Nat.lt_of_lt_of_le (List.getElem?_eq_some_iff.mp found).1 short
    rwa [BitVec.toNat_ofNat, Nat.mod_eq_of_lt low]
  · intro found
    exact ⟨x, b.toNat, found, by simp, rfl⟩

theorem chanOf_eq (b : Byte) :
    chanOf b = [ChanId.gnd, .tmot, .bmain, .barml, .barmr, .slewl, .slewr, .fan][b.toNat]? := by
  unfold chanOf
  generalize b.toNat = n
  rcases n with _ | _ | _ | _ | _ | _ | _ | _ | n <;> rfl

theorem modeOf_eq (b : Byte) : modeOf b = [TravelMode.parked, .sweep, .transport][b.toNat]? := by
  unfold modeOf
  generalize b.toNat = n
  rcases n with _ | _ | _ | n <;> rfl

theorem directionOf_eq (b : Byte) : directionOf b = [Direction.fwd, .rev][b.toNat]? := by
  unfold directionOf
  generalize b.toNat = n
  rcases n with _ | _ | n <;> rfl

theorem sideOf_eq (b : Byte) : sideOf b = [Side.left, .right][b.toNat]? := by
  unfold sideOf
  generalize b.toNat = n
  rcases n with _ | _ | n <;> rfl

theorem armSettingOf_eq (b : Byte) : armSettingOf b = [ArmSetting.stow, .work, .keep][b.toNat]? := by
  unfold armSettingOf
  generalize b.toNat = n
  rcases n with _ | _ | _ | n <;> rfl

theorem pickupSettingOf_eq (b : Byte) : pickupSettingOf b = [PickupSetting.up, .work, .keep][b.toNat]? := by
  unfold pickupSettingOf
  generalize b.toNat = n
  rcases n with _ | _ | _ | n <;> rfl

theorem endActionOf_eq (b : Byte) : endActionOf b = [EndAction.cont, .pause, .stop][b.toNat]? := by
  unfold endActionOf
  generalize b.toNat = n
  rcases n with _ | _ | _ | n <;> rfl

theorem resourceOf_eq (b : Byte) : resourceOf b = [Resource.armL, .armR, .pickup, .spray][b.toNat]? := by
  unfold resourceOf
  generalize b.toNat = n
  rcases n with _ | _ | _ | _ | n <;> rfl

/-- Settles O6. -/
theorem commandTable : Obligations.CommandTable := by
  have entry {α : Type} (l : List α) (short : l.length ≤ 256) (b : Byte) (x : α) :
      l[b.toNat]? = some x ↔ (b, x) ∈ l.zipIdx.map (fun e => ((BitVec.ofNat 8 e.2 : Byte), e.1)) :=
    (mem_numbered short).symm
  refine ⟨fun code c => Cmd.ofCode_eq_some.trans Cmd.mem_rows.symm, fun c p => ?senders, fun c => ?quiet, fun b => ?codes,
    by decide, fun a b c d => ⟨rfl, rfl, rfl, BitVec.toInt_ofNat' _, BitVec.toInt_ofNat' _, rfl⟩, fun _ => rfl⟩
  case senders => cases p <;> cases c <;> rfl
  case quiet => cases c <;> decide
  case codes =>
    refine ⟨fun x => ?_, fun x => ?_, fun x => ?_, fun x => ?_, fun x => ?_, fun x => ?_, fun x => ?_, fun x => ?_,
      profileIndexOf_eq_some b, descIndexOf_eq_some b, paramIdOf_eq_some b, rfl, ?_⟩
    · rw [chanOf_eq]; exact entry _ (by decide) b x
    · rw [modeOf_eq]; exact entry _ (by decide) b x
    · rw [directionOf_eq]; exact entry _ (by decide) b x
    · rw [sideOf_eq]; exact entry _ (by decide) b x
    · rw [armSettingOf_eq]; exact entry _ (by decide) b x
    · rw [pickupSettingOf_eq]; exact entry _ (by decide) b x
    · rw [endActionOf_eq]; exact entry _ (by decide) b x
    · rw [resourceOf_eq]; exact entry _ (by decide) b x
    · have same : b.toInt = -128 ↔ b = 128 := by
        rw [← BitVec.toInt_inj]; rfl
      simp only [ambientOf, same]

end Machine

end Sys2Proof

/-! PROOF. What a master clocks in for a transaction is read as that transaction (R157 to R160, R180): O5. -/

namespace Sys2Proof

/-! ## A frame is valid -/

theorem byteOf_toNat {n : Nat} (short : n < 256) : (byteOf n).toNat = n := by
  rw [byteOf, BitVec.toNat_ofNat, Nat.mod_eq_of_lt short]

/-- The shape check and the CRC check pass on a frame with zeros behind it (R158). -/
theorem frameFault_requestFrame (code : Byte) {payload : List Byte} (short : payload.length ≤ 28) (n : Nat) :
    frameFault (requestFrame code payload ++ List.replicate n 0) = none := by
  have size : (byteOf payload.length).toNat = payload.length := byteOf_toNat (by omega)
  have kept : (requestFrame code payload ++ List.replicate n 0).take 32 = code :: byteOf payload.length ::
      (payload ++ ([crc (code :: byteOf payload.length :: payload)] ++ List.replicate n 0)).take 30 := by
    simp [requestFrame]
  have rest : (payload ++ ([crc (code :: byteOf payload.length :: payload)] ++ List.replicate n 0)).take 30 =
      payload ++ ([crc (code :: byteOf payload.length :: payload)] ++ List.replicate n 0).take (30 - payload.length) := by
    rw [List.take_append, List.take_of_length_le (by omega)]
  have last : ([crc (code :: byteOf payload.length :: payload)] ++ List.replicate n 0).take (30 - payload.length) =
      crc (code :: byteOf payload.length :: payload) :: (List.replicate n 0).take (29 - payload.length) := by
    obtain ⟨k, e⟩ : ∃ k, 30 - payload.length = k + 1 := ⟨29 - payload.length, by omega⟩
    rw [e, List.singleton_append, List.take_succ_cons]
    congr 2; omega
  unfold frameFault
  rw [kept, rest, last]
  simp only [size]
  rw [if_neg (by simp; omega), if_pos (by simp)]

theorem payloadOf_requestFrame (code : Byte) {payload : List Byte} (short : payload.length ≤ 28) (n : Nat) :
    payloadOf (requestFrame code payload ++ List.replicate n 0) = payload := by
  simp [payloadOf, requestFrame, byteOf_toNat (show payload.length < 256 by omega)]

theorem paddingOf_requestFrame (code : Byte) {payload : List Byte} (short : payload.length ≤ 28) (n : Nat) :
    paddingOf (requestFrame code payload ++ List.replicate n 0) = n := by
  simp [paddingOf, requestFrame, byteOf_toNat (show payload.length < 256 by omega)]
  omega

/-- The bytes of a request frame and its padding are read as the row of its code. -/
theorem decode_requestFrame (p : PortId) (code : Byte) {payload : List Byte} (short : payload.length ≤ 28) (n : Nat) :
    decodeTransaction p (requestFrame code payload ++ List.replicate n 0) = some (instrOf code ⟨p, payload, n⟩) := by
  have some_bytes : requestFrame code payload ++ List.replicate n 0 ≠ [] := by simp [requestFrame]
  rw [decodeTransaction, if_neg some_bytes, frameFault_requestFrame code short]
  dsimp only
  rw [payloadOf_requestFrame code short, paddingOf_requestFrame code short]
  rfl

/-! ## Sending and receiving -/

theorem encodeTransaction_of_request {c : Instr} {code : Byte} {f : Frame} (h : c.request = some (code, f)) :
    encodeTransaction c = some (f.port, requestFrame code f.payload ++ List.replicate f.padding 0) := by
  unfold encodeTransaction; split
  · contradiction
  · rw [h]

/-- A term that spells a request stands at the row of its code, with a payload that fits (R180, R183). -/
theorem Instr.wf_request {c : Instr} {code : Byte} {f : Frame} (h : c.request = some (code, f)) (wf : c.wf = true) :
    f.payload.length ≤ 28 ∧ instrOf code f = c := by
  unfold Instr.wf at wf; split at wf
  · contradiction
  · rw [h] at wf
    simpa [Frame.wf] using wf

theorem decode_encode_request {c : Instr} {code : Byte} {f : Frame} (h : c.request = some (code, f)) (wf : c.wf = true) :
    decodeTransaction f.port (requestFrame code f.payload ++ List.replicate f.padding 0) = some c := by
  obtain ⟨short, row⟩ := Instr.wf_request h wf
  rw [decode_requestFrame f.port code short, row]

theorem decode_badFrame {p : PortId} {bytes : List Byte} (bad : badBytes bytes = true) :
    decodeTransaction p bytes = some (.badFrame p bytes) := by
  simp only [badBytes, Bool.and_eq_true, Bool.not_eq_true', List.isEmpty_eq_false_iff] at bad
  obtain ⟨some_bytes, fault⟩ := bad
  obtain ⟨st, fault⟩ : ∃ st, frameFault bytes = some st := Option.isSome_iff_exists.mp fault
  rw [decodeTransaction, if_neg some_bytes, fault]

/-- Zeros alone are the frame of a NOP with its padding. -/
theorem zeros_eq_nopFrame {n : Nat} (enough : 3 ≤ n) :
    List.replicate n (0 : Byte) = requestFrame 0 [] ++ List.replicate (n - 3) 0 := by
  obtain ⟨k, rfl⟩ := Nat.exists_eq_add_of_le enough
  have step : crcStep 0#8 = 0#8 := by decide
  have frame : requestFrame 0 [] = List.replicate 3 (0 : Byte) := by simp [requestFrame, crc, crcByte, step, byteOf, List.replicate]
  rw [frame, Nat.add_sub_cancel_left, List.replicate_append_replicate]

/-- Settles O5. -/
theorem transactionsRoundTrip : Obligations.TransactionsRoundTrip := by
  refine ⟨fun c wf kind => ?roundTrip, fun p n enough => ?zeros, fun c code f head wf h hd => ?frame,
    fun r head hd => by rw [hd]; rfl, rfl, fun step hs l b => ?crc⟩
  case roundTrip =>
    rcases kind with some_request | ⟨p, bytes, rfl⟩
    · obtain ⟨⟨code, f⟩, h⟩ := Option.isSome_iff_exists.mp some_request
      exact ⟨_, _, encodeTransaction_of_request h, decode_encode_request h wf⟩
    · exact ⟨p, bytes, rfl, decode_badFrame wf⟩
  case zeros =>
    rw [zeros_eq_nopFrame enough, decode_requestFrame p 0 (by simp)]
    rfl
  case frame =>
    rw [hd]; exact encodeTransaction_of_request h
  case crc =>
    have same : step = crcStep := funext fun r => (hs r).trans rfl
    rw [same, crc, List.foldl_append]
    rfl

end Sys2Proof

/-! PROOF. A request goes through the tests of its port and then to its block (R157 to R163): O7, O8, O9, O10. -/

namespace Sys2Proof.Machine

/-! ## What the block of each command makes of a request -/

/-- What the owning block makes of each command, NOP apart. -/
def blockOf : Cmd → Frame → State → Done
  | .nop, _ => fun t => t.done .ok
  | .noticeRead, f => noticeReadBody f
  | .noticeMask, f => noticeMaskBody f
  | .readCount, f => readCountBody f
  | .readSnap, f => readSnapBody f
  | .readLanes, _ => fun t => t.readOk t.lanesContent
  | .profileRead, f => profileReadBody f
  | .travelRead, _ => fun t => t.readOk t.travelContent
  | .armRead, _ => fun t => t.readOk t.armContent
  | .claimRead, _ => fun t => t.readOk (Clt.content t.clt)
  | .sprayRead, _ => fun t => t.readOk t.sprayContent
  | .descRead, f => descReadBody f
  | .pgmRead, _ => fun t => t.readOk t.sge.content
  | .cfgRead, f => cfgReadBody f
  | .snapshot, f => snapshotBody f
  | .chEnable, f => chEnableBody f
  | .chDisable, f => chDisableBody f
  | .setCount, f => setCountBody f
  | .chClear, f => chClearBody f
  | .gndFaultClear, _ => gndFaultClearBody
  | .budget, f => budgetBody f
  | .tank, f => tankBody f
  | .lanesClear, _ => fun t => ({ t with pba := t.pba.cleared } : State).done .ok
  | .cfgWrite, f => cfgWriteBody f
  | .cfgCommit, _ => cfgCommitBody
  | .travelReq, f => travelReqBody f
  | .claim, f => claimBody f
  | .take, f => takeBody f
  | .release, f => releaseBody f
  | .armSet, f => armSetBody f
  | .armClear, f => fun t => forArm f t fun side => doneOf (t.armClear side)
  | .pickupSet, f => pickupSetBody f
  | .spraySet, f => spraySetBody f
  | .profileSelect, f => profileSelectBody f
  | .profileWrite, f => profileWriteBody f
  | .descWrite, f => descWriteBody f
  | .descReturn, f => descReturnBody f
  | .pgmStart, f => pgmStartBody f
  | .pgmPoll, _ => pgmPollBody
  | .pgmSuspend, _ => pgmSuspendBody
  | .pgmResume, _ => pgmResumeBody
  | .pgmAbort, _ => pgmAbortBody

/-- A request other than NOP is served by its block, whichever row of the table it stands at. -/
theorem exec_toInstr {c : Cmd} (named : c ≠ .nop) (f : Frame) (s : State) :
    exec (c.toInstr f) s = .next (s.transact c f (blockOf c f)) := by
  cases c with
  | nop => exact absurd rfl named
  | armSet =>
    unfold Cmd.toInstr; dsimp only; split
    · rfl
    · split <;> rfl
  | pickupSet =>
    unfold Cmd.toInstr; dsimp only; split <;> rfl
  | _ => rfl

theorem exec_of_hears (c : Cmd) {f : Frame} {s : State} (heard : s.hears c f) (named : c ≠ .nop := by decide) :
    exec (c.toInstr f) s = .next ((blockOf c f (s.atBlock f)).answer f.port c.code) := by
  rw [exec_toInstr named, transact_of_hears _ heard]

theorem exec_nop (f : Frame) (s : State) :
    exec (.nop f) s = .next (if s.deaf f.port then s.ignored f.port f.size else s.nopServed f) := rfl

theorem exec_unknownCommand {code : Byte} (unknown : ∀ c : Cmd, c.code ≠ code) (f : Frame) (s : State) :
    exec (.unknownCommand code f) s = .next (if s.deaf f.port then s.ignored f.port f.size
      else ((s.atBlock f).done .unknown).answer f.port code) := by
  show execUnknownCommand code f s = _
  rw [execUnknownCommand, Cmd.ofCode_eq_none.mpr unknown]

theorem exec_badFrame {p : PortId} {bytes : List Byte} {st : Status} (some_bytes : bytes ≠ [])
    (fault : frameFault bytes = some st) (s : State) :
    exec (.badFrame p bytes) s =
      .next (if s.deaf p then s.ignored p bytes.length else s.badServed p bytes st) := by
  show execBadFrame p bytes s = _
  rw [execBadFrame, if_neg some_bytes, fault]

/-- A port that takes no transaction ignores every command. -/
theorem exec_of_deaf {c : Instr} {code : Byte} {f : Frame} {s : State} (wf : c.wf = true) (h : c.request = some (code, f))
    (deaf : s.deaf f.port = true) : exec c s = .next (s.ignored f.port f.size) := by
  obtain ⟨_, row⟩ := Instr.wf_request h wf
  rw [← row, instrOf]
  cases known : Cmd.ofCode code with
  | none =>
    dsimp only
    rw [exec_unknownCommand (Cmd.ofCode_eq_none.mp known), if_pos deaf]
  | some cmd =>
    dsimp only
    by_cases nop : cmd = .nop
    · subst nop
      rw [Cmd.toInstr, exec_nop, if_pos deaf]
    · rw [exec_toInstr nop, transact_of_deaf deaf]

theorem exec_badFrame_of_deaf {p : PortId} {bytes : List Byte} {s : State} (wf : badBytes bytes = true)
    (deaf : s.deaf p = true) : exec (.badFrame p bytes) s = .next (s.ignored p bytes.length) := by
  simp only [badBytes, Bool.and_eq_true, Bool.not_eq_true', List.isEmpty_eq_false_iff] at wf
  obtain ⟨st, fault⟩ : ∃ st, frameFault bytes = some st := Option.isSome_iff_exists.mp wf.2
  rw [exec_badFrame wf.1 fault, if_pos deaf]

/-! ## The port's tests -/

theorem State.deaf_of_inReset {s : State} {p : PortId} (h : (s.ports.get p).inReset = true) : s.deaf p = true := by
  simp [State.deaf, State.port, h]

theorem State.deaf_of_held {s : State} (p : PortId) (h : s.rstnHeld = true) : s.deaf p = true := by simp [State.deaf, h]

theorem State.not_deaf {s : State} {p : PortId} (up : s.rstnHeld = false) (awake : (s.ports.get p).inReset = false) :
    s.deaf p = false := by simp [State.deaf, State.port, up, awake]

theorem State.ignored_of_inReset {s : State} {p : PortId} (h : (s.ports.get p).inReset = true) (n : Nat) :
    s.ignored p n = { s with ports := s.ports.set p { s.ports.get p with shifted := List.replicate n 0 } } := by
  have reset : (s.port p).inReset = true := h
  rw [State.ignored, if_pos reset]; rfl

theorem State.ignored_of_awake {s : State} {p : PortId} (h : (s.ports.get p).inReset = false) (n : Nat) :
    s.ignored p n = s := by
  rw [State.ignored, if_neg (by simp [State.port, h])]

theorem State.atBlock_eq (s : State) (f : Frame) : s.atBlock f = { s with
    ports := s.ports.set f.port { s.ports.get f.port with
      shifted := (s.ports.get f.port).response.shiftedOut f.size
      link := .active
      silenceTimer := some (s.params.silenceLimit f.port)
      held := none } } := by
  unfold State.atBlock State.dropHeld State.heard
  rw [State.port_setPort_same]
  simp only [State.setPort, PerPort.set_set]
  rfl

/-- A request that the port refuses, by the status of the test that it fails; a NOP fails only the first. -/
theorem exec_refused {c : Cmd} {f : Frame} {s : State} {st : Status} (up : s.rstnHeld = false)
    (awake : (s.ports.get f.port).inReset = false) (refused : s.refusal c f = some st)
    (nop : c = .nop → st = .length ∧ f.payload ≠ []) :
    exec (c.toInstr f) s = .next ((s.atBlock f).replied f c st) := by
  by_cases named : c = .nop
  · obtain ⟨rfl, loaded⟩ := nop named
    subst named
    rw [Cmd.toInstr, exec_nop, if_neg (by simp [State.not_deaf up awake]), State.nopServed, if_neg loaded]
    rfl
  · rw [exec_toInstr named, transact_of_refusal _ up awake refused]

/-- Settles O7. -/
theorem portTests : Obligations.PortTests := by
  intro s
  refine ⟨fun c wf => ⟨fun code f h => ⟨fun reset => ?_, fun awake held => ?_⟩, fun p bytes bad => ?_⟩,
    fun f => ⟨s.atBlock_eq f, fun c up awake => ⟨fun long => ?_, fun fits denied => ?_, fun fits sent waits quiet => ?_⟩⟩⟩
  · rw [exec_of_deaf wf h (State.deaf_of_inReset reset), State.ignored_of_inReset reset]; rfl
  · rw [exec_of_deaf wf h (State.deaf_of_held _ held), State.ignored_of_awake awake]
  · subst bad
    refine ⟨fun reset => ?_, fun awake held => ?_⟩
    · rw [exec_badFrame_of_deaf wf (State.deaf_of_inReset reset), State.ignored_of_inReset reset]
    · rw [exec_badFrame_of_deaf wf (State.deaf_of_held _ held), State.ignored_of_awake awake]
  · refine exec_refused up awake (by simp [State.refusal, long]) ?_
    rintro rfl
    exact ⟨rfl, fun empty => long (by simp [empty, Cmd.reqLen])⟩
  · refine exec_refused up awake (by simp [State.refusal, fits, denied]) ?_
    rintro rfl
    simp [Cmd.allowed, Cmd.senders] at denied
  · refine exec_refused up awake (by simp [State.refusal, fits, sent, waits, quiet]) ?_
    rintro rfl
    simp [Cmd.inUnconfigured] at quiet

/-! ## Bad and unknown frames -/

/-- The shape check of R158, at the offsets of the frame. -/
theorem frameFault_length {bytes : List Byte} (h : bytes.length < 3 ∨ 28 < (bytes.getD 1 0).toNat ∨
    bytes.length < (bytes.getD 1 0).toNat + 3) : frameFault bytes = some .length := by
  rcases bytes with _ | ⟨code, _ | ⟨n, rest⟩⟩
  · rfl
  · rfl
  · simp only [List.getD_cons_succ, List.getD_cons_zero, List.length_cons] at h
    unfold frameFault
    simp only [List.take_succ_cons]
    rw [if_pos (by simp only [List.length_take]; omega)]

/-- The CRC check of R158, at the offsets of the frame. -/
theorem frameFault_crc {bytes : List Byte} (short : (bytes.getD 1 0).toNat ≤ 28)
    (whole : (bytes.getD 1 0).toNat + 3 ≤ bytes.length)
    (wrong : bytes.getD ((bytes.getD 1 0).toNat + 2) 0 ≠ crc (bytes.take ((bytes.getD 1 0).toNat + 2))) :
    frameFault bytes = some .crc := by
  rcases bytes with _ | ⟨code, _ | ⟨n, rest⟩⟩
  · simp at whole
  · simp at whole
  · simp only [List.getD_cons_succ, List.getD_cons_zero, List.length_cons, List.take_succ_cons] at short whole wrong
    unfold frameFault
    simp only [List.take_succ_cons]
    have byte : (rest.take 30).getD n.toNat 0 = rest.getD n.toNat 0 := by
      simp only [List.getD_eq_getElem?_getD, List.getElem?_take]
      rw [if_pos (by omega)]
    have payload : (rest.take 30).take n.toNat = rest.take n.toNat := by
      rw [List.take_take, Nat.min_eq_left (by omega)]
    rw [if_neg (by simp only [List.length_take]; omega), byte, payload, if_neg wrong]

/-- Settles O8. -/
theorem badAndUnknownFrames : Obligations.BadAndUnknownFrames := by
  intro s p up awake
  have hears := State.not_deaf up awake
  refine ⟨fun bytes st some_bytes fault => ?_, fun code f port unknown => ?_⟩
  · have fault : frameFault bytes = some st := by
      rcases fault with ⟨shape, rfl⟩ | ⟨short, whole, wrong, rfl⟩
      · exact frameFault_length shape
      · exact frameFault_crc short whole wrong
    rw [exec_badFrame some_bytes fault, if_neg (by simp [hears])]
    rfl
  · subst port
    rw [exec_unknownCommand unknown, if_neg (by simp [hears])]
    rfl

/-! ## NOP and the parts of a read -/

/-- A part of the content, without its two header bytes. -/
theorem partPayload_drop (content : List Byte) (k : Nat) :
    (partPayload content k).drop 2 = (content.drop (26 * k)).take 26 := rfl

theorem partPayload_length (content : List Byte) (k : Nat) :
    (partPayload content k).length = 2 + min 26 (content.length - 26 * k) := by
  simp [partPayload]; omega

theorem partCount_eq (content : List Byte) :
    partCount content = content.length / 26 + (if content.length % 26 = 0 then 0 else 1) := by
  unfold partCount ceilDiv
  split <;> omega

/-- The first parts, joined, are as much of the content as they hold. -/
theorem parts_join (content : List Byte) (n : Nat) :
    (List.range n).flatMap (fun k => (partPayload content k).drop 2) = content.take (26 * n) := by
  induction n with
  | zero => simp
  | succ n ih =>
    rw [List.range_succ, List.flatMap_append, ih, List.flatMap_singleton, partPayload_drop, Nat.mul_succ, List.take_add]

theorem exec_nop_of_hears {f : Frame} {s : State} (heard : s.hears .nop f) :
    exec (.nop f) s = .next ((s.heard f).nextPart f.port) := by
  obtain ⟨up, awake, fits, _⟩ := heard
  have empty : f.payload = [] := List.length_eq_zero_iff.mp fits
  rw [exec_nop, if_neg (by simp [State.not_deaf up awake]), State.nopServed, if_pos empty]

/-- Settles O9. -/
theorem longReadsComeInParts : Obligations.LongReadsComeInParts := by
  refine ⟨fun s f heard => ?nop, fun content long => ?parts⟩
  case nop =>
    have kept : ((s.heard f).port f.port).held = (s.port f.port).held := by
      rw [State.heard, State.port_setPort_same]; rfl
    refine ⟨fun none => ?_, fun h held => ?_⟩
    · rw [exec_nop_of_hears heard, State.nextPart, kept, none]
    · rw [exec_nop_of_hears heard, State.nextPart, kept, held]
      rfl
  case parts =>
    have count := partCount_eq content
    refine ⟨?_, fun k before => ?_, fun k part => ?_, count⟩
    · rw [parts_join, List.take_of_length_le]
      split at count <;> omega
    · rw [partPayload_length]; split at count <;> omega
    · rw [partPayload_length]; split at count <;> omega

/-! ## Reads -/

/-- The byte of a claim is its condition: 0 Free, 1 Cab, 2 Program, 5 Lent (R111). -/
theorem Claim.byte_eq {code : Claim → Byte} (free : code .free = 0) (cab : code .cab = 1) (program : code .program = 2)
    (lent : code .lent = 5) (c : Claim) : c.byte = code c := by
  cases c with
  | free => rw [free]; rfl
  | cab => rw [cab]; rfl
  | program => rw [program]; rfl
  | lent => rw [lent]; rfl

/-- Settles O10. -/
theorem readsAnswered : Obligations.ReadsAnswered := by
  intro s f
  refine ⟨fun c heard named => ?readCount, fun heard filled => ?readSnap, fun heard empty => ?noSnap,
    fun heard => exec_of_hears .readLanes heard, fun i heard named => ?profileRead, fun heard => exec_of_hears .travelRead heard,
    fun heard => exec_of_hears .armRead heard, fun code free cab program lent heard => ?claimRead,
    fun heard => exec_of_hears .sprayRead heard, fun i heard named => ?descRead, fun heard => exec_of_hears .pgmRead heard,
    fun i heard named => ?cfgRead, fun high => ⟨fun heard => ?noChannel, fun heard => ?noProfile⟩,
    fun high heard => ?noDescriptor, fun high heard => ?noParameter⟩
  case readCount =>
    refine (exec_of_hears .readCount heard).trans ?_
    rw [blockOf, readCountBody, named]; rfl
  case readSnap =>
    refine (exec_of_hears .readSnap heard).trans ?_
    rw [blockOf, readSnapBody, State.atBlock_ctu, if_neg (by simp [filled])]; rfl
  case noSnap =>
    refine (exec_of_hears .readSnap heard).trans ?_
    rw [blockOf, readSnapBody, State.atBlock_ctu, if_pos empty]; rfl
  case profileRead =>
    refine (exec_of_hears .profileRead heard).trans ?_
    rw [blockOf, profileReadBody, named]; rfl
  case claimRead =>
    refine (exec_of_hears .claimRead heard).trans ?_
    simp only [← Claim.byte_eq free cab program lent]
    rfl
  case descRead =>
    refine (exec_of_hears .descRead heard).trans ?_
    rw [blockOf, descReadBody, named]; rfl
  case cfgRead =>
    refine (exec_of_hears .cfgRead heard).trans ?_
    rw [blockOf, cfgReadBody, named]; rfl
  case noChannel =>
    refine (exec_of_hears .readCount heard).trans ?_
    rw [blockOf, readCountBody, (chanOf_eq_none _).mpr high]; rfl
  case noProfile =>
    refine (exec_of_hears .profileRead heard).trans ?_
    rw [blockOf, profileReadBody, (profileIndexOf_eq_none _).mpr high]; rfl
  case noDescriptor =>
    refine (exec_of_hears .descRead heard).trans ?_
    rw [blockOf, descReadBody, (descIndexOf_eq_none _).mpr high]; rfl
  case noParameter =>
    refine (exec_of_hears .cfgRead heard).trans ?_
    rw [blockOf, cfgReadBody, (paramIdOf_eq_none _).mpr high]; rfl

end Sys2Proof.Machine

/-! PROOF. The fields of the read contents stand at their places, each modulo its width (section 11.3.4): O11. -/

namespace Sys2Proof.Machine

/-! ## A field read back from its bytes -/

theorem byteOf_toNat_mod (n : Nat) : (byteOf n).toNat = n % 256 := BitVec.toNat_ofNat n 8

theorem u16_be16 (n : Nat) : u16 (BitVec.ofNat 8 (n / 256)) (BitVec.ofNat 8 n) = n % 65536 := by
  simp only [u16, BitVec.toNat_ofNat]; omega

theorem u32_be32 (n : Nat) : u32 (BitVec.ofNat 8 (n / 16777216)) (BitVec.ofNat 8 (n / 65536)) (BitVec.ofNat 8 (n / 256))
    (BitVec.ofNat 8 n) = n % 4294967296 := by
  simp only [u32, BitVec.toNat_ofNat]; omega

/-- Four bytes of a word give the word back. -/
theorem u32_word (w : BitVec 32) : u32 (BitVec.ofNat 8 (w.toNat / 16777216)) (BitVec.ofNat 8 (w.toNat / 65536))
    (BitVec.ofNat 8 (w.toNat / 256)) (BitVec.ofNat 8 w.toNat) = w.toNat :=
  (u32_be32 _).trans (Nat.mod_eq_of_lt w.isLt)

theorem s16_sbe16 (i : Int) : s16 (BitVec.ofNat 8 ((BitVec.ofInt 16 i).toNat / 256))
    (BitVec.ofNat 8 (BitVec.ofInt 16 i).toNat) = Int.bmod i 65536 := by
  rw [s16, u16_be16, Nat.mod_eq_of_lt (BitVec.isLt _), BitVec.ofNat_toNat, BitVec.setWidth_eq, BitVec.toInt_ofInt]

theorem s32_word (w : BitVec 32) : s32 (BitVec.ofNat 8 (w.toNat / 16777216)) (BitVec.ofNat 8 (w.toNat / 65536))
    (BitVec.ofNat 8 (w.toNat / 256)) (BitVec.ofNat 8 w.toNat) = w.toInt := by
  rw [s32, u32_word, BitVec.ofNat_toNat, BitVec.setWidth_eq]

theorem s32_sbe32 (i : Int) : s32 (BitVec.ofNat 8 ((BitVec.ofInt 32 i).toNat / 16777216))
    (BitVec.ofNat 8 ((BitVec.ofInt 32 i).toNat / 65536)) (BitVec.ofNat 8 ((BitVec.ofInt 32 i).toNat / 256))
    (BitVec.ofNat 8 (BitVec.ofInt 32 i).toNat) = Int.bmod i 4294967296 :=
  (s32_word _).trans (BitVec.toInt_ofInt i)

/-- Bit k of a bit field is its k-th entry (R181). -/
theorem bitsByte_getLsbD (bs : List Bool) {k : Nat} (inByte : k < 8 := by decide) :
    (bitsByte bs).getLsbD k = bs.getD k false := by
  induction bs generalizing k with
  | nil => simp [bitsByte]
  | cons b rest ih =>
    cases k with
    | zero => cases b <;> simp [bitsByte]
    | succ k =>
      have rest := ih (k := k) (by omega)
      cases b <;> simpa [bitsByte, inByte, BitVec.getLsbD_eq_getElem (show k < 8 by omega)] using rest

theorem pair12_pair12Bytes (x : Nat) {y : Nat} (short : y < 4096) :
    pair12 (byteOf (x / 16)) (byteOf (x % 16 * 16 + y / 256)) (byteOf y) = (x % 4096, y) := by
  simp only [pair12, byteOf_toNat_mod, Prod.mk.injEq]; omega

/-! ## The codes of the enumerations fit their byte -/

theorem TravelMode.num_lt (x : TravelMode) : x.num < 256 := by cases x <;> decide
theorem ArmSetting.num_lt (x : ArmSetting) : x.num < 256 := by cases x <;> decide
theorem PickupSetting.num_lt (x : PickupSetting) : x.num < 256 := by cases x <;> decide
theorem EndAction.num_lt (x : EndAction) : x.num < 256 := by cases x <;> decide
theorem LaneState.num_lt (x : LaneState) : x.num < 4 := by cases x <;> decide
theorem ArmState.num_lt (x : ArmState) : x.num < 256 := by cases x <;> decide
theorem Phase.num_lt (x : Phase) : x.num < 256 := by cases x <;> decide
theorem Cause.num_lt (x : Cause) : x.num < 256 := by cases x <;> decide
theorem PickupState.num_lt (x : PickupState) : x.num < 256 := by cases x <;> decide
theorem EngineState.num_lt (x : EngineState) : x.num < 256 := by cases x <;> decide
theorem SuspendCause.num_lt (x : SuspendCause) : x.num < 256 := by cases x <;> decide
theorem ReturnState.num_lt (x : ReturnState) : x.num < 256 := by cases x <;> decide
theorem StartPort.num_lt (x : StartPort) : x.num < 256 := by cases x <;> decide
theorem EndKind.num_lt (x : EndKind) : x.num < 256 := by cases x <;> decide
theorem CommitResult.num_lt (x : CommitResult) : x.num < 256 := by cases x <;> decide
theorem SegStatus.num_lt (x : SegStatus) : x.num < 256 := by cases x <;> decide
theorem ChanId.num_lt (x : ChanId) : ChanId.num x < 256 := by cases x <;> decide
theorem termNum_lt (x : Option Term) : termNum x < 256 := by rcases x with _ | x <;> [decide; cases x <;> decide]

theorem sprayByte_toNat (m : Option (BitVec 4)) :
    (sprayByte m).toNat = match m with
      | none => 255
      | some m => m.toNat := by
  cases m with
  | none => rfl
  | some m => exact byteOf_toNat (by omega)

/-! ## Bytes that pack several fields -/

theorem Params.laneClass_lt (p : Params) (l : LaneId) : p.laneClass l < 4 := by
  cases l <;> simp only [Params.laneClass] <;> omega

/-- The first byte of a lane: its state in bits 1 and 2, its class in bits 3 and 4. -/
theorem laneByte_fields (active demand flow level : Bool) {n c : Nat} (hn : n < 4) (hc : c < 4) (b : Byte)
    (e : b = byteOf (active.toNat + 2 * n + 8 * c + 32 * demand.toNat + 64 * flow.toNat + 128 * level.toNat)) :
    b.getLsbD 0 = active ∧ b.toNat / 2 % 4 = n ∧ b.toNat / 8 % 4 = c ∧ b.getLsbD 5 = demand ∧ b.getLsbD 6 = flow ∧
      b.getLsbD 7 = level := by
  subst e
  have all : ∀ (active demand flow level : Bool) (n c : Fin 4),
      let b := byteOf (active.toNat + 2 * n.val + 8 * c.val + 32 * demand.toNat + 64 * flow.toNat + 128 * level.toNat)
      b.getLsbD 0 = active ∧ b.toNat / 2 % 4 = n.val ∧ b.toNat / 8 % 4 = c.val ∧ b.getLsbD 5 = demand ∧
        b.getLsbD 6 = flow ∧ b.getLsbD 7 = level := by decide +kernel
  exact all active demand flow level ⟨n, hn⟩ ⟨c, hc⟩

/-- The first byte of a profile record. -/
theorem profileByte_fields (i : Fin 8) (valid inUse : Bool) :
    (byteOf (i.val + 8 * valid.toNat + 16 * inUse.toNat)).toNat % 8 = i.val ∧
      (byteOf (i.val + 8 * valid.toNat + 16 * inUse.toNat)).getLsbD 3 = valid ∧
      (byteOf (i.val + 8 * valid.toNat + 16 * inUse.toNat)).getLsbD 4 = inUse := by
  revert i valid inUse; decide

/-- Bit k of the ownership number is the owner of descriptor k. -/
theorem ownerNum_testBit (ring : List Descriptor) (k : Nat) :
    (ownerNum ring).testBit k = (ring[k]?.map fun d => d.owner == .engine).getD false := by
  induction ring generalizing k with
  | nil => simp [ownerNum]
  | cons d rest ih =>
    cases k with
    | zero => simp [ownerNum, Nat.testBit_zero]; cases d.owner == .engine <;> rfl
    | succ k =>
      rw [List.getElem?_cons_succ, ← ih k, Nat.testBit_succ]
      congr 1
      have := Bool.toNat_lt (d.owner == .engine)
      simp only [ownerNum]; omega

theorem ownerNum_lt (ring : List Descriptor) : ownerNum ring < 2 ^ ring.length := by
  induction ring with
  | nil => simp [ownerNum]
  | cons d rest ih =>
    have := Bool.toNat_lt (d.owner == .engine)
    simp only [ownerNum, List.length_cons, Nat.pow_succ]; omega

/-- A number of three bytes, bit by bit: bit k stands in byte 2 − k / 8 (log entry 38). -/
theorem be24_testBit (n : Nat) {k : Nat} (inField : k < 24) :
    ((be24 n).getD (2 - k / 8) 0).getLsbD (k % 8) = n.testBit k := by
  have byte : k / 8 = 0 ∨ k / 8 = 1 ∨ k / 8 = 2 := by omega
  have bit (m j : Nat) (h : j < 8) : (BitVec.ofNat 8 m).getLsbD j = m.testBit j := by
    rw [BitVec.getLsbD_ofNat, decide_eq_true h, Bool.true_and]
  rcases byte with h | h | h <;> rw [h]
  · exact (bit n (k % 8) (by omega)).trans (by rw [show k % 8 = k by omega])
  · exact (bit (n / 2 ^ 8) (k % 8) (by omega)).trans (by rw [Nat.testBit_div_two_pow, show k % 8 + 8 = k by omega])
  · exact (bit (n / 2 ^ 16) (k % 8) (by omega)).trans (by rw [Nat.testBit_div_two_pow, show k % 8 + 16 = k by omega])

/-! ## The lengths of the contents -/

@[simp] theorem be16_length (n : Nat) : (be16 n).length = 2 := rfl
@[simp] theorem be24_length (n : Nat) : (be24 n).length = 3 := rfl
@[simp] theorem be32_length (n : Nat) : (be32 n).length = 4 := rfl
@[simp] theorem sbe16_length (i : Int) : (sbe16 i).length = 2 := rfl
@[simp] theorem sbe32_length (i : Int) : (sbe32 i).length = 4 := rfl
@[simp] theorem pair12Bytes_length (x y : Nat) : (pair12Bytes x y).length = 3 := rfl

@[simp] theorem Settings.bytes_length (st : Settings) : st.bytes.length = 11 := rfl
@[simp] theorem Request.bytes_length (r : Request) : r.bytes.length = 17 := rfl
@[simp] theorem Bank.bytes_length (b : Bank) : b.bytes.length = 15 := rfl
@[simp] theorem Pickup.bytes_length (u : Pickup) : u.bytes.length = 14 := rfl
@[simp] theorem Profile.bytes_length (p : Profile) : p.bytes.length = 27 := by simp [Profile.bytes]
@[simp] theorem State.armBytes_length (s : State) (side : Side) : (s.armBytes side).length = 21 := by simp [State.armBytes]
@[simp] theorem State.laneBytes_length (s : State) (l : LaneId) : (s.laneBytes l).length = 11 := by simp [State.laneBytes]
@[simp] theorem SnapBuffer.chanBytes_length (b : SnapBuffer) (c : ChanId) : (b.chanBytes c).length = 6 := by
  simp [SnapBuffer.chanBytes]
@[simp] theorem resultBytes_length (r : Option SegResult) : (resultBytes r).length = 15 := by
  cases r <;> simp [resultBytes]
@[simp] theorem settingsBytes_length (st : Option Settings) : (settingsBytes st).length = 13 := by
  cases st <;> simp [settingsBytes, capBytes]

theorem State.countContent_length (s : State) (c : ChanId) : (s.countContent c).length = 8 := by simp [State.countContent]
theorem SnapBuffer.content_length (b : SnapBuffer) : b.content.length = 57 := by simp [SnapBuffer.content]
theorem State.lanesContent_length (s : State) : s.lanesContent.length = 82 := by simp [State.lanesContent]
theorem State.profileContent_length (s : State) (i : Fin 8) : (s.profileContent i).length = 28 := by
  simp [State.profileContent]
theorem tractionCapBytes_length (c : Option Nat) : (tractionCapBytes c).length = 2 := by cases c <;> rfl
theorem State.travelContent_length (s : State) : s.travelContent.length = 26 := by
  simp [State.travelContent, capBytes, tractionCapBytes_length]
theorem State.armContent_length (s : State) : s.armContent.length = 58 := by simp [State.armContent, capBytes]
theorem State.sprayContent_length (s : State) : s.sprayContent.length = 74 := by simp [State.sprayContent]
theorem Sge.descContent_length (e : Sge) (i : Fin 32) : (e.descContent i).length = 34 := by simp [Sge.descContent]
theorem Sge.content_length (e : Sge) : e.content.length = 44 := by simp [Sge.content]
theorem Cfs.content_length (c : Cfs) (i : Fin 64) : (c.content i).length = 11 := by simp [Cfs.content]
theorem State.noticeContent_length (s : State) (p : PortId) : (s.noticeContent p).length = 7 := by
  simp [State.noticeContent]

theorem partCount_of_length {content : List Byte} {n : Nat} (h : content.length = n) :
    partCount content = n / 26 + (if n % 26 = 0 then 0 else 1) := h ▸ partCount_eq content

theorem tractionCapBytes_eq (c : Option Nat) :
    tractionCapBytes c = be16 (match c with
      | none => 65535
      | some c => min c 65534) := by cases c <;> rfl

theorem Tgv.tractionCap_field (g : Tgv) :
    (match g.tractionCap with
      | none => 65535
      | some c => min c 65534) % 65536 =
    match g.tractionCap with
      | none => 65535
      | some c => min c 65534 := by
  cases g.tractionCap with
  | none => rfl
  | some c => exact Nat.mod_eq_of_lt (show min c 65534 < 65536 by omega)

theorem bmod_toInt (w : BitVec 32) : Int.bmod w.toInt 4294967296 = w.toInt :=
  (BitVec.toInt_ofInt w.toInt).symm.trans (by rw [BitVec.ofInt_toInt])

theorem Pba.anyClamp_eq (p : Pba) :
    p.anyClamp = ((lanesUp.any fun x => (p.lane x).demandClamp || (p.lane x).flowClamp || (p.lane x).levelClamp) ||
      p.budgetClamp) := by
  simp only [Pba.anyClamp, Lane.anyClamp, lanesUp, List.any, Bool.or_false, Bool.or_assoc]
  rfl

theorem Tgv.reversalPending_eq (g : Tgv) :
    g.reversalPending = (g.reqDirection != g.direction && decide (0 < g.commandedSpeed)) := by
  simp only [Tgv.reversalPending]
  cases g.reqDirection <;> cases g.direction <;> rfl

/-! ## O11 -/

/-- Settles O11: each content is the list of its fields' bytes, so a field at its offset is read back from exactly the bytes
written for it. -/
theorem readContentLayout : Obligations.ReadContentLayout := by
  unfold Obligations.ReadContentLayout
  intro s
  have bit (bs : List Bool) {k : Nat} (inByte : k < 8 := by decide) : (bitsByte bs).getLsbD k = bs.getD k false :=
    bitsByte_getLsbD bs inByte
  refine ⟨⟨s.countContent_length, fun p => SnapBuffer.content_length _, s.lanesContent_length, s.profileContent_length,
    s.travelContent_length, s.armContent_length, rfl, s.sprayContent_length, s.sge.descContent_length,
    s.sge.content_length,
    s.cfs.content_length, s.noticeContent_length, fun p => partCount_of_length (SnapBuffer.content_length _),
    partCount_of_length s.lanesContent_length, partCount_of_length s.sprayContent_length,
    partCount_of_length s.armContent_length, fun i => partCount_of_length (s.sge.descContent_length i),
    partCount_of_length s.sge.content_length⟩, ?count, ?snap, ?lanes, ?profile, ?travel, ?arm, ?spray, ?desc, ?program,
    ?config, ?notice⟩
  case count =>
    intro c l h
    subst h
    refine ⟨byteOf_toNat (ChanId.num_lt c), u32_word _, s16_sbe16 _, bit _, bit _,
      (bit _).trans ?_, (bit _).trans ?_, bit _, bit _⟩ <;>
      cases c <;> rfl
  case snap =>
    intro p b l hb hl
    simp only [SnapBuffer.content, SnapBuffer.chanBytes, be32, sbe16, be16, List.cons_append, List.nil_append] at hl
    subst hl
    refine ⟨rfl, u32_word _, u32_word _, fun c => ?_⟩
    cases c <;> exact ⟨u32_word _, s16_sbe16 _⟩
  case lanes =>
    intro l h
    simp only [State.lanesContent, State.laneBytes, be16, List.cons_append, List.nil_append] at h
    subst h
    refine ⟨u16_be16 _, u16_be16 _, u16_be16 _, u16_be16 _, BitVec.toInt_ofInt _, bit _, bit _,
      (bit _).trans ?_, u16_be16 _, rfl, u16_be16 _, byteOf_toNat_mod _, ?_⟩
    · exact s.pba.anyClamp_eq.trans (Bool.or_comm _ _)
    · intro i x o hx ho
      obtain ⟨active, state, cls, demand, flow, level⟩ := laneByte_fields x.req.active x.demandClamp x.flowClamp
        x.levelClamp x.out.state.num_lt (s.params.laneClass_lt i) _ rfl
      subst hx ho
      cases i <;> exact ⟨active, state, cls, demand, flow, level, u16_be16 _, u16_be16 _, u16_be16 _, u16_be16 _,
        u16_be16 _⟩
  case profile =>
    intro i p l hp hl
    subst hp hl
    obtain ⟨active, valid, inUse⟩ := profileByte_fields s.pft.active (s.pft.profiles.get i).valid (s.profileInUse i)
    exact ⟨active, valid, inUse, fun h1 h3 m1 m3 a1 a3 fan d1 d3 => ⟨pair12_pair12Bytes _ h1, pair12_pair12Bytes _ h3,
      pair12_pair12Bytes _ m1, pair12_pair12Bytes _ m3, pair12_pair12Bytes _ a1, pair12_pair12Bytes _ a3,
      pair12_pair12Bytes _ fan, pair12_pair12Bytes _ d1, pair12_pair12Bytes _ d3⟩⟩
  case travel =>
    intro l g hl hg
    simp only [State.travelContent, capBytes, tractionCapBytes_eq, sbe16, be16, List.cons_append, List.nil_append] at hl
    subst hl hg
    exact ⟨byteOf_toNat (TravelMode.num_lt _), bit _, bit _, bit _, bit _,
      bit _, (bit _).trans s.tgv.reversalPending_eq, bit _, bit _, u16_be16 _, u16_be16 _, u16_be16 _, u16_be16 _,
      (u16_be16 _).trans s.tgv.tractionCap_field, u16_be16 _, u16_be16 _, u16_be16 _, s16_sbe16 _, u16_be16 _,
      u16_be16 _, u16_be16 _⟩
  case arm =>
    intro l h
    simp only [State.armContent, State.armBytes, Pickup.bytes, capBytes, sbe32, be32, sbe16, be16, List.cons_append,
      List.nil_append] at h
    subst h
    refine ⟨fun side a o ha ho => ?_, fun u hu => ?_⟩
    · subst ha ho
      cases side <;> exact ⟨byteOf_toNat (ArmState.num_lt _), byteOf_toNat (Phase.num_lt _),
        byteOf_toNat (Cause.num_lt _),
        s16_sbe16 _, (s32_sbe32 _).trans (bmod_toInt _), bit _, bit _, bit _, bit _, bit _, bit _, bit _,
        u16_be16 _, u16_be16 _, byteOf_toNat_mod _, u16_be16 _, u16_be16 _, u16_be16 _⟩
    · subst hu
      exact ⟨byteOf_toNat (PickupState.num_lt _), byteOf_toNat (Cause.num_lt _), u16_be16 _, u16_be16 _, u16_be16 _,
        byteOf_toNat_mod _, bit _, bit _, bit _, bit _, u16_be16 _, u16_be16 _, u16_be16 _⟩
  case spray =>
    intro l h
    simp only [State.sprayContent, Bank.bytes, doseBytes, be32, be16, List.cons_append, List.nil_append] at h
    subst h
    refine ⟨u32_be32 _, bit _, fun i b o hb ho => ?_, bit _, u16_be16 _, u16_be16 _, u16_be16 _,
      u16_be16 _⟩
    subst hb ho
    cases i <;> exact ⟨bit _, bit _, bit _, bit _, bit _, u16_be16 _, u16_be16 _, u16_be16 _, bit _, bit _, bit _, bit _,
      bit _, bit _, bit _, byteOf_toNat (termNum_lt _), u32_be32 _, u16_be16 _⟩
  case desc =>
    intro i d st l hd hst hl
    simp only [Sge.descContent, Request.bytes, Settings.bytes, angleBytes, doseBytes, sbe16, be16, List.cons_append,
      List.nil_append] at hl
    subst hl hst hd
    refine ⟨byteOf_toNat (by omega), bit _, bit _, bit _, u16_be16 _, u16_be16 _, byteOf_toNat (by omega),
      byteOf_toNat (ArmSetting.num_lt _), s16_sbe16 _,
      byteOf_toNat (ArmSetting.num_lt _), s16_sbe16 _, byteOf_toNat (PickupSetting.num_lt _), sprayByte_toNat _,
      u16_be16 _,
      byteOf_toNat (EndAction.num_lt _), bit _, bit _, fun absent => ?_, fun r there => ?_⟩
    · rw [absent]; rfl
    · rw [there]
      exact ⟨byteOf_toNat (SegStatus.num_lt _), u32_be32 _, u32_be32 _, u32_be32 _, byteOf_toNat_mod _, bit _, bit _,
        bit _, bit _, bit _, bit _, bit _, bit _⟩
  case program =>
    intro e l _ hl
    have owners : ∀ i : Fin 32, (u32 (BitVec.ofNat 8 (ownerNum e.ring.toList / 16777216))
        (BitVec.ofNat 8 (ownerNum e.ring.toList / 65536)) (BitVec.ofNat 8 (ownerNum e.ring.toList / 256))
        (BitVec.ofNat 8 (ownerNum e.ring.toList))).testBit i.val = ((e.ring.get i).owner == .engine) := by
      intro i
      have short : ownerNum e.ring.toList < 4294967296 := by simpa using ownerNum_lt e.ring.toList
      rw [u32_be32, Nat.mod_eq_of_lt short, ownerNum_testBit]
      simp [Vector.get]
    rcases present : e.settings with _ | st <;>
      simp only [Sge.content, present, settingsBytes, List.replicate, Settings.bytes, capBytes, angleBytes, doseBytes,
        be32,
        sbe16, be16, List.cons_append, List.nil_append] at hl <;>
      subst hl <;>
      refine ⟨byteOf_toNat (EngineState.num_lt _), byteOf_toNat (SuspendCause.num_lt _),
        byteOf_toNat (ReturnState.num_lt _),
        byteOf_toNat (by omega), bit _, bit _, byteOf_toNat (StartPort.num_lt _), byteOf_toNat (EndKind.num_lt _),
        ?_, ?_, u32_be32 _, u32_be32 _, u32_be32 _, byteOf_toNat_mod _, bit _, bit _, bit _, bit _, bit _, bit _, bit _,
        bit _, u32_be32 _,
        u16_be16 _, owners⟩
    · exact fun _ => rfl
    · exact fun _ h => nomatch h
    · exact fun h => nomatch h
    · rintro _ ⟨⟩
      exact ⟨u16_be16 _, byteOf_toNat (by omega), byteOf_toNat (ArmSetting.num_lt _), s16_sbe16 _,
        byteOf_toNat (ArmSetting.num_lt _), s16_sbe16 _, byteOf_toNat (PickupSetting.num_lt _), sprayByte_toNat _,
        u16_be16 _⟩
  case config =>
    intro i l h
    subst h
    refine ⟨byteOf_toNat (by omega), s32_sbe32 _, ?_, bit _, bit _, byteOf_toNat (CommitResult.num_lt _)⟩
    refine (s32_sbe32 _).trans ?_
    cases s.cfs.activeSet <;> rfl
  case notice =>
    intro p l h
    subst h
    refine ⟨fun k => ⟨?_, ?_⟩, bit _, bit _, bit _, bit _,
      bit _, bit _⟩
    · have byte : bitAt (s.noticeContent p) (2 - k.num / 8) (k.num % 8) =
          ((be24 (s.port p).notices.toNat).getD (2 - k.num / 8) 0).getLsbD (k.num % 8) := by cases k <;> rfl
      rw [byte, be24_testBit _ (by have := k.num_lt; omega), BitVec.testBit_toNat, Port.hasNotice_eq_getLsbD]
    · have byte : bitAt (s.noticeContent p) (5 - k.num / 8) (k.num % 8) =
          ((be24 (s.port p).mask.toNat).getD (2 - k.num / 8) 0).getLsbD (k.num % 8) := by cases k <;> rfl
      rw [byte, be24_testBit _ (by have := k.num_lt; omega), BitVec.testBit_toNat]

end Sys2Proof.Machine

/-! PROOF. The notices of a port (O12, O13) and the commands of the Counter Unit (O14, O16, O17). -/

namespace Sys2Proof.Machine

/-! ## What an operation posts

Postings join a notice set and take nothing away (R164): `Posts K s t` says that from `s` to `t` only kinds of `K` have been
posted, and that nothing else of a port has changed. -/

structure State.Posts (K : Notice → Bool) (s t : State) : Prop where
  keeps : ∀ {q : PortId} {k : Notice}, (s.port q).hasNotice k = true → (t.port q).hasNotice k = true
  only : ∀ {q : PortId} {k : Notice}, K k = false → (t.port q).hasNotice k = (s.port q).hasNotice k
  rest : ∀ q : PortId, { t.port q with notices := (s.port q).notices } = s.port q

/-- The kinds that the Spray Controller and the lanes post: what a refresh of the terms can do. -/
def Notice.ofSpray : Notice → Bool
  | .clamp | .sprayBlock | .tankReserve => true
  | _ => false

/-- The kinds that the Arm Controller posts, with those of the refresh after it. -/
def Notice.ofEquipment : Notice → Bool
  | .clamp | .sprayBlock | .tankReserve | .armFault | .armStall => true
  | _ => false

namespace State.Posts

variable {K : Notice → Bool} {s t u : State}

theorem refl (s : State) : s.Posts K s := ⟨id, fun _ => rfl, fun _ => rfl⟩

theorem trans (first : s.Posts K t) (second : t.Posts K u) : s.Posts K u where
  keeps h := second.keeps (first.keeps h)
  only h := (second.only h).trans (first.only h)
  rest q := by rw [← first.rest q, ← second.rest q]

/-- A posting to all three ports. -/
theorem of_postAllIf {k : Notice} {on : Bool} (ports : t.ports = postAllIf s.ports k on) (kind : K k = true) :
    s.Posts K t := by
  have port (q : PortId) : t.port q = (s.port q).postIf k on := by rw [State.port, ports, postAllIf_get]; rfl
  refine ⟨fun {q j} h => ?_, fun {q j} out => ?_, fun q => ?_⟩
  · rw [port, Port.postIf_hasNotice, h, Bool.true_or]
  · rw [port, Port.postIf_hasNotice_other _ _ (fun e => by rw [e, kind] at out; cases out)]
  · rw [port]; rfl

theorem of_ports (ports : t.ports = s.ports) : s.Posts K t := by
  have port (q : PortId) : t.port q = s.port q := congrArg (PerPort.get · q) ports
  exact ⟨fun h => by rw [port, h], fun _ => by rw [port], fun q => by rw [port]⟩

/-- The first step may leave the ports as they are. -/
theorem after (second : t.Posts K u) (ports : t.ports = s.ports) : s.Posts K u := (of_ports ports).trans second

theorem after_post {k : Notice} {on : Bool} (second : t.Posts K u) (ports : t.ports = postAllIf s.ports k on)
    (kind : K k = true) : s.Posts K u := (of_postAllIf ports kind).trans second

variable (spray : ∀ k, k.ofSpray = true → K k = true)
include spray

theorem publishLane (s : State) (l : LaneId) (r : LaneReq) : s.Posts K (s.publishLane l r) :=
  of_postAllIf rfl (spray .clamp rfl)

theorem raiseClamp (s : State) (l : LaneId) (k : ClampKind) (sat : Bool) : s.Posts K (s.raiseClamp l k sat) :=
  of_postAllIf rfl (spray .clamp rfl)

theorem evalTerms (s : State) : s.Posts K s.evalTerms := of_postAllIf rfl (spray .sprayBlock rfl)

theorem closeWhere (s : State) (p : BankId → Bank → Bool) : s.Posts K (s.closeWhere p) :=
  of_postAllIf rfl (spray .tankReserve rfl)

theorem settleBanks (s : State) : s.Posts K s.settleBanks :=
  (((evalTerms spray s).trans (closeWhere spray _ _)).trans (evalTerms spray _)).trans (closeWhere spray _ _)

theorem publishSpry (s : State) : s.Posts K s.publishSpry := by
  unfold State.publishSpry; split
  · exact refl s
  · exact (publishLane spray s _ _).trans (of_postAllIf rfl (spray .clamp rfl))

theorem sprayRefresh (s : State) : s.Posts K s.sprayRefresh := (settleBanks spray s).trans (publishSpry spray _)

theorem refreshIf (s : State) (changed : Bool) : s.Posts K (s.refreshIf changed) := by
  cases changed
  · exact refl s
  · exact sprayRefresh spray s

theorem profilePublished (s : State) : s.Posts K s.profilePublished := of_postAllIf rfl (spray .clamp rfl)

theorem activateProfile (s : State) (i : Fin 8) : s.Posts K (s.activateProfile i) := by
  unfold State.activateProfile; split
  · exact refl s
  · exact (profilePublished spray _).after rfl

omit spray in
/-- The updates of the equipment post the kinds of the equipment alone. -/
theorem equipKept (s : State) (equip : ∀ k, k.ofEquipment = true → K k = true) : EquipKept (s.Posts K) := by
  have spray : ∀ k, k.ofSpray = true → K k = true := fun k h => equip k (by revert h; cases k <;> decide)
  exact {
    fault := fun h => h.trans (of_postAllIf rfl (equip .armFault rfl))
    lane := fun l r h => h.trans (publishLane spray _ _ _)
    clamp := fun l k sat h => h.trans (raiseClamp spray _ _ _ _)
    stall := fun h => h.trans (of_postAllIf rfl (equip .armStall rfl))
    arm := fun _ h => h.trans ((refreshIf spray _ _).after rfl)
    pickup := fun _ h => h.trans ((refreshIf spray _ _).after rfl)
    clock := fun _ _ h => h.trans (of_ports rfl)
    setting := fun _ _ h => h.trans ((sprayRefresh spray _).after_post rfl (spray .clamp rfl))
    disable := fun {t} h => by
      unfold State.disableBanks; split
      · exact h.trans ((sprayRefresh spray _).after rfl)
      · exact h }

omit spray in
/-- No update of the engine or of the distance takes a notice away. -/
theorem distanceKept (s : State) : DistanceKept (s.Posts fun _ => true) where
  toEquipKept := equipKept s fun _ _ => rfl
  engine _ h := h.trans (of_ports rfl)
  claims _ h := h.trans (of_ports rfl)
  travel _ _ _ _ h := h.trans (of_ports rfl)
  activate _ h := h.trans (activateProfile (fun _ _ => rfl) _ _)
  segment h := h.trans (of_ports rfl)
  post _ _ h := h.trans (of_postAllIf rfl rfl)
  told {t} on h := by
    refine h.trans { keeps := fun {q k} has => ?_, only := fun out => Bool.noConfusion out, rest := fun q => by cases q <;> rfl }
    cases q with
    | cab => exact (Port.postIf_hasNotice _ _ _ _).trans (by rw [show (t.ports.cab).hasNotice k = true from has]; rfl)
    | chassis => exact has
    | route => exact has
  mark h := h.trans (of_postAllIf rfl rfl)
  distance _ _ _ h := h.trans (of_ports rfl)

end State.Posts

/-! ## The port at the block -/

@[simp] theorem State.atBlock_notices (s : State) (f : Frame) (q : PortId) :
    ((s.atBlock f).port q).notices = (s.port q).notices := by
  rw [State.atBlock_eq, State.port, PerPort.get_set]; split <;> simp_all [State.port]

@[simp] theorem State.atBlock_mask (s : State) (f : Frame) (q : PortId) :
    ((s.atBlock f).port q).mask = (s.port q).mask := by
  rw [State.atBlock_eq, State.port, PerPort.get_set]; split <;> simp_all [State.port]

/-! ## A block's answer without a content -/

theorem exec_replied (c : Cmd) {f : Frame} {s t : State} {st : Status} (heard : s.hears c f)
    (block : blockOf c f (s.atBlock f) = t.done st) (named : c ≠ .nop := by decide) :
    exec (c.toInstr f) s = .next (t.replied f c st) := by
  rw [exec_of_hears c heard named, block, done_answer]

/-! ## Notices -/

theorem Port.postIf_twice (x : Port) (k : Notice) : (x.postIf k true).postIf k true = x.postIf k true := by
  simp [Port.postIf, BitVec.or_assoc]

theorem postAllIf_twice (ps : PerPort Port) (k : Notice) : postAllIf (postAllIf ps k true) k true = postAllIf ps k true := by
  simp only [postAllIf, Port.postIf_twice]

/-- Settles O12. -/
theorem noticesPostedAndRead : Obligations.NoticesPostedAndRead := by
  refine ⟨fun s f heard => ⟨_, (exec_of_hears .noticeRead heard).trans ?_, rfl, ?_⟩, fun s k p j => ⟨?_, ?_, rfl, ?_⟩⟩
  · rw [blockOf, noticeReadBody, State.noticeContent, State.atBlock_eq]
    simp only [State.port, PerPort.get_set_same]
    rfl
  · simp [Port.attnLow, State.respond]
  · rw [State.post_port, Port.postIf_hasNotice, Bool.or_eq_true, Bool.true_and, decide_eq_true_iff]
    exact or_comm
  · simp only [State.post, State.postIf, postAllIf_twice]
  · rw [State.post_port]; rfl

theorem Notice.exists_num {n : Nat} (h : n < 17) : ∃ k : Notice, k.num = n := by
  have all : ∀ n : Fin 17, ∃ k ∈ [Notice.cfgDone, .budgetStale, .laneShed, .laneReadmit, .clamp, .armStall, .armFault,
      .claimLost, .segDone, .pgmStarved, .pgmSuspended, .pgmEnd, .sprayBlock, .doseShort, .tankReserve, .stopInput,
      .groundFault], k.num = n.val := by decide
  obtain ⟨k, _, e⟩ := all ⟨n, h⟩
  exact ⟨k, e⟩

/-- ATTN is low exactly where some kind stands in both sets (R165). -/
theorem Port.attnLow_iff (x : Port) :
    x.attnLow = true ↔ ∃ k : Notice, x.notices.getLsbD k.num = true ∧ x.mask.getLsbD k.num = true := by
  have both (n : Nat) : (x.notices &&& x.mask).getLsbD n = (x.notices.getLsbD n && x.mask.getLsbD n) :=
    BitVec.getLsbD_and
  rw [Port.attnLow, bne_iff_ne]
  constructor
  · intro some_bit
    by_contra none
    refine some_bit (BitVec.eq_of_getLsbD_eq fun n h => ?_)
    obtain ⟨k, rfl⟩ := Notice.exists_num h
    rw [both, show (0 : BitVec 17) = 0#17 from rfl, BitVec.getLsbD_zero, Bool.and_eq_false_iff]
    by_contra h
    exact none ⟨k, by simpa using h⟩
  · rintro ⟨k, set, masked⟩ zero
    have := both k.num
    rw [zero, set, masked] at this
    exact absurd this (by simp)

/-- Settles O13. -/
theorem noticeMaskSet : Obligations.NoticeMaskSet := by
  intro s f heard
  refine ⟨fun high => ?_, fun low => ⟨_, (exec_of_hears .noticeMask heard).trans ?_, rfl, fun p => ?_, fun p other => ?_, ?_⟩⟩
  · exact exec_replied .noticeMask heard (by rw [blockOf, noticeMaskBody, maskOf, if_pos high])
  · rw [blockOf, noticeMaskBody, maskOf, if_neg (by omega)]; rfl
  · by_cases h : p = f.port
    · subst h; simp
    · simp [State.port_setPort, h]
  · simp [State.port_setPort, other]
  · rw [Port.attnLow_iff]
    have masked (k : Notice) : (BitVec.ofNat 17 (maskOf f)).getLsbD k.num = (maskOf f).testBit k.num := by
      rw [BitVec.getLsbD_ofNat, decide_eq_true k.num_lt, Bool.true_and]
    simp [maskOf] at masked
    simp [masked]

/-! ## Snapshots and the commands of one channel -/

/-- Settles O14. -/
theorem snapshotLatches : Obligations.SnapshotLatches := by
  intro s f b heard latched
  refine (exec_of_hears .snapshot heard).trans ?_
  subst latched; rfl

/-- Settles O16. -/
theorem channelCommands : Obligations.ChannelCommands := by
  intro s f
  refine ⟨fun c named => ⟨fun heard on => ?_, fun heard off => ?_, fun heard off => ?_, fun heard on => ?_, fun heard => ?_⟩,
    fun high => ⟨fun heard => ?_, fun heard => ?_, fun heard => ?_, fun heard => ?_⟩⟩
  case refine_1 =>
    exact exec_replied .chEnable heard (by rw [blockOf, chEnableBody, forChannel_of_some named, State.atBlock_chan, if_pos on])
  case refine_2 =>
    exact exec_replied .chEnable heard (by rw [blockOf, chEnableBody, forChannel_of_some named, State.atBlock_chan, if_neg (by simp [off])]; rfl)
  case refine_3 =>
    exact exec_replied .chDisable heard (by rw [blockOf, chDisableBody, forChannel_of_some named, State.atBlock_chan, if_neg (by simp [off])])
  case refine_4 =>
    exact exec_replied .chDisable heard (by rw [blockOf, chDisableBody, forChannel_of_some named, State.atBlock_chan, if_pos on]; rfl)
  case refine_5 =>
    exact exec_replied .chClear heard (by rw [blockOf, chClearBody, forChannel_of_some named]; rfl)
  case refine_6 =>
    exact exec_replied .chEnable heard (by rw [blockOf, chEnableBody, forChannel_of_none ((chanOf_eq_none _).mpr high)])
  case refine_7 =>
    exact exec_replied .chDisable heard (by rw [blockOf, chDisableBody, forChannel_of_none ((chanOf_eq_none _).mpr high)])
  case refine_8 =>
    exact exec_replied .setCount heard (by rw [blockOf, setCountBody, forChannel_of_none ((chanOf_eq_none _).mpr high)])
  case refine_9 =>
    exact exec_replied .chClear heard (by rw [blockOf, chClearBody, forChannel_of_none ((chanOf_eq_none _).mpr high)])

/-! ## The ground fault -/

theorem Ctu.implausible_iff (u : Ctu) :
    u.implausible = true ↔ 500 < (u.chans.get .tmot).speed.natAbs ∧ (u.chans.get .gnd).speed = 0 := by
  simp only [Ctu.implausible, Bool.and_eq_true, decide_eq_true_eq, beq_iff_eq]; rfl

/-- Settles O17. -/
theorem groundFaultSetAndCleared : Obligations.GroundFaultSetAndCleared := by
  refine ⟨fun s holds n hh hn => ?_, fun s f heard => ⟨fun off => ?_, fun on cond => ?_, fun on cond => ?_⟩⟩
  · have cond : s.ctu.implausible = holds := Bool.eq_iff_iff.mpr (s.ctu.implausible_iff.trans hh.symm)
    have evaluated : s.ctu.evaluated (s.params.gate .gnd) = { s.ctu with condition := holds, persistence := n } := by
      rw [Ctu.evaluated, cond, hn]
    have next : s.plausibility =
        if 1000 ≤ n ∧ s.ctu.groundFault = false then
          ({ s with ctu := { s.ctu with condition := holds, persistence := n } } : State).setGroundFault
        else { s with ctu := { s.ctu with condition := holds, persistence := n } } := by
      rw [State.plausibility, evaluated]
      simp
    refine ⟨fun fault => ?_, fun none => ?_⟩
    · rw [next, if_pos fault]
      refine ⟨State.refreshIf_ctu _ _, State.refreshIf_measured _ _, fun p => ?_⟩
      exact (State.Posts.refreshIf (K := Notice.ofSpray) (fun _ h => h) _ _).keeps (by simp)
    · rw [next, if_neg fun ⟨large, off⟩ => none.elim (by omega) (by simp [off])]
  · exact exec_replied .gndFaultClear heard (by rw [blockOf, gndFaultClearBody, State.atBlock_ctu, if_neg (by simp [off])])
  · exact exec_replied .gndFaultClear heard (by rw [blockOf, gndFaultClearBody, State.atBlock_ctu, if_pos on, if_pos cond])
  · exact exec_replied .gndFaultClear heard (by rw [blockOf, gndFaultClearBody, State.atBlock_ctu, if_pos on, if_neg (by simp [cond])]; rfl)

end Sys2Proof.Machine

/-! PROOF. Edges, forward distance, the index, the gates and the uptime (Chapter 1): O18 to O22. -/

namespace Sys2Proof.Machine

/-! ## Counts (R1 to R3) -/

theorem Channel.count_toNat (x : Channel) : x.count.toNat = x.ext.toNat * 65536 + x.hw.toNat := by
  rw [Channel.count, BitVec.toNat_append, ← Nat.shiftLeft_add_eq_or_of_lt x.hw.isLt, Nat.shiftLeft_eq]

/-- The hw count wraps into the extension, so that the two together count up by one (R3). -/
theorem Channel.up_count (x : Channel) : x.up.count = x.count + 1 := by
  apply BitVec.eq_of_toNat_eq
  rw [BitVec.toNat_add, Channel.count_toNat, Channel.count_toNat, Channel.up]
  by_cases wraps : x.hw = 65535
  · rw [if_pos wraps, wraps]; simp; omega
  · have : x.hw.toNat ≠ 65535 := fun e => wraps (BitVec.eq_of_toNat_eq e)
    rw [if_neg wraps]; simp; omega

/-- The hw count wraps out of the extension, so that the two together count down by one (R3). -/
theorem Channel.down_count (x : Channel) : x.down.count = x.count - 1 := by
  apply BitVec.eq_of_toNat_eq
  rw [BitVec.toNat_sub, Channel.count_toNat, Channel.count_toNat, Channel.down]
  by_cases wraps : x.hw = 0
  · rw [if_pos wraps, wraps]; simp; omega
  · have : x.hw.toNat ≠ 0 := fun e => wraps (BitVec.eq_of_toNat_eq e)
    rw [if_neg wraps]; simp; omega

/-- The direction of an edge (R1): up where the change leaves A leading B. -/
theorem edgeOf_up {a b a' b' : Bool} (h : (a ≠ a' ∧ b = b' ∧ a' = !b') ∨ (a = a' ∧ b ≠ b' ∧ a' = b')) :
    edgeOf a b a' b' = .up := by revert h; revert a b a' b'; decide

theorem edgeOf_down {a b a' b' : Bool} (h : (a ≠ a' ∧ b = b' ∧ a' = b') ∨ (a = a' ∧ b ≠ b' ∧ a' = !b')) :
    edgeOf a b a' b' = .down := by revert h; revert a b a' b'; decide

theorem edgeOf_none {a b a' b' : Bool} (h : a = a' ↔ b = b') : edgeOf a b a' b' = .none := by
  revert h; revert a b a' b'; decide

/-- A sample of the inputs, and the edge counted where the channel counts (R1, R11). -/
theorem exec_quadratureChange (ch : QuadChan) (a b : Bool) (s : State) {c : ChanId} (hc : c = QuadChan.chan ch) {e : Edge}
    (he : edgeOf (s.chan c).levelA (s.chan c).levelB a b = e) : exec (.quadratureChange ch a b) s =
      .next (if !s.rstnHeld && s.counts c then (s.setChan c ((s.chan c).sampled a b)).countEdge c e
        else s.setChan c ((s.chan c).sampled a b)) := by
  subst hc he; rfl

theorem State.setChan_setChan (s : State) (c : ChanId) (x y : Channel) : (s.setChan c x).setChan c y = s.setChan c y := by
  simp [State.setChan, Ctu.setChan]

theorem State.setChan_countEdge (s : State) (c : ChanId) (x : Channel) (e : Edge) : (s.setChan c x).countEdge c e =
    if e = .up ∧ s.ctu.source.chan = c then (s.setChan c (x.counted e)).forwardCount else s.setChan c (x.counted e) := by
  rw [State.countEdge, State.chan_setChan_same, State.setChan_setChan]; rfl

/-- Settles O18. -/
theorem edgesCount : Obligations.EdgesCount := by
  intro s
  refine ⟨fun ch a b c x hc hx => ⟨fun still => ?_, fun up on free dir => ?_, fun up on free dir => ?_⟩,
    fun ch c hc => ⟨fun still => ?_, fun up on => ?_⟩⟩
  · rw [exec_quadratureChange ch a b s hc rfl, hx]
    by_cases counts : (!s.rstnHeld && s.counts c) = true
    · simp only [State.counts, Bool.and_eq_true, Bool.not_eq_true'] at counts
      obtain ⟨up, on, free⟩ := counts
      have none : (s.chan c).levelA = a ↔ (s.chan c).levelB = b := by simpa [up, on, free] using still
      rw [edgeOf_none none, State.setChan_countEdge]
      simp only [reduceCtorEq, false_and, if_false]
      exact congrArg _ (ite_self _)
    · rw [if_neg counts]; rfl
  · rw [exec_quadratureChange ch a b s hc (edgeOf_up dir), if_pos (by simp [State.counts, up, on, free]),
      State.setChan_countEdge]
    refine ⟨x.up, x.up_count, by cases x; rfl, ?_⟩
    subst hx; simp; rfl
  · rw [exec_quadratureChange ch a b s hc (edgeOf_down dir), if_pos (by simp [State.counts, up, on, free]),
      State.setChan_countEdge]
    refine ⟨x.down, x.down_count, by cases x; rfl, ?_⟩
    subst hx; simp; rfl
  · subst hc
    have : (!s.rstnHeld && (s.chan (PulseChan.chan ch)).enabled) = false := by rcases still with h | h <;> simp [h]
    show execPulseRisingEdge ch s = _
    rw [execPulseRisingEdge, this]; rfl
  · subst hc
    refine ⟨(s.chan (PulseChan.chan ch)).up, Channel.up_count _, rfl, ?_⟩
    show execPulseRisingEdge ch s = _
    rw [execPulseRisingEdge, up, on]; rfl

/-! ## Forward distance (R11, R12) -/

theorem State.forwardMms_eq_iterate (n : Nat) (s : State) : s.forwardMms n = State.forwardMm^[n] s := by
  induction n generalizing s with
  | zero => rfl
  | succ n ih => exact ih s.forwardMm

/-- So many whole millimetres at the Counter Unit. -/
theorem State.forwardMms_ctu (n : Nat) (s : State) (h : s.ctu.markProgress < s.params.sprayInterval) :
    (s.forwardMms n).ctu = { s.ctu with
      remainder := s.ctu.remainder - 1000 * n
      accumulator := s.ctu.accumulator + BitVec.ofNat 32 n
      markProgress := (s.ctu.markProgress + n) % s.params.sprayInterval } := by
  induction n generalizing s with
  | zero => simp [State.forwardMms, Nat.mod_eq_of_lt h]
  | succ n ih =>
    have next := s.forwardMm_ctu h
    have inside : s.forwardMm.ctu.markProgress < s.forwardMm.params.sprayInterval := by
      rw [next, State.forwardMm_params]; exact Nat.mod_lt _ (by omega)
    rw [State.forwardMms, ih _ inside, next, State.forwardMm_params]
    have one : BitVec.ofNat 32 (n + 1) = 1 + BitVec.ofNat 32 n := by rw [Nat.add_comm, BitVec.ofNat_add]; rfl
    simp only [Ctu.mk.injEq, true_and, and_true]
    refine ⟨by rw [BitVec.add_assoc, one], by omega, ?_⟩
    rw [Nat.mod_add_mod]; congr 1; omega

/-- Settles O19. -/
theorem forwardCountBuildsDistance : Obligations.ForwardCountBuildsDistance := by
  intro s u mm n hu hn hmm
  have each : mm = State.forwardMm := funext fun t => hmm t _ rfl
  have count : s.forwardCount = u.forwardMms n := by rw [hu, hn]; rfl
  refine ⟨by rw [count, each, State.forwardMms_eq_iterate], fun h => ?_⟩
  rw [count, State.forwardMms_ctu n u (by rw [hu]; exact h), hu]
  simp only [Ctu.mk.injEq, true_and, and_true]
  exact ⟨by omega, rfl⟩

/-! ## The index (R7, R86) -/

/-- Settles O20. -/
theorem indexClearsAndHomes : Obligations.IndexClearsAndHomes := by
  intro s side x hx
  subst hx
  refine ⟨fun up on clear free t ht => ?_, fun idle => ?_, rfl⟩
  · subst ht
    show execIndexActive side s = _
    have clears : ¬ ((s.chan (slewChan side)).index || s.rstnHeld || !(s.chan (slewChan side)).enabled ||
        !s.params.indexClear side) = true := by simp [free, up, on, clear]
    simp only [execIndexActive, if_neg clears]
    rw [State.setChan_setChan, State.indexEvent, State.setChan_arm]
    by_cases homing : (s.arm side).state = .homing
    · by_cases pending : (s.arm side).deployPending = true
      · rw [if_pos homing, if_pos pending, if_pos ⟨homing, pending⟩]; rfl
      · rw [if_pos homing, if_neg pending, if_neg (fun h => pending h.2), if_pos homing]; rfl
    · rw [if_neg homing, if_neg (fun h => homing h.1), if_neg homing]; rfl
  · show execIndexActive side s = _
    have follows : ((s.chan (slewChan side)).index || s.rstnHeld || !(s.chan (slewChan side)).enabled ||
        !s.params.indexClear side) = true := by rcases idle with h | h | h | h <;> simp [h]
    simp only [execIndexActive, if_pos follows]

/-! ## Gates (R5, R6) -/

/-- Settles O21. -/
theorem gateExpiryPublishesSpeed : Obligations.GateExpiryPublishesSpeed := by
  intro s ch x hx
  subst hx
  refine ⟨fun on out v t hv ht => ?_, fun idle => ?_⟩
  · subst ht
    have raw : s.gateSpeed ch = v := by rw [hv]; cases ch <;> rfl
    have saturates : speedSaturates v = decide (v < -32767 ∨ 32767 < v) := by simp [speedSaturates]
    have gated (gate : Nat) : (s.chan ch).gated v gate = { s.chan ch with
        speed := max (-32767) (min 32767 v)
        clamp := (s.chan ch).clamp || decide (v < -32767 ∨ 32767 < v)
        gateRef := (s.chan ch).count
        gateTimer := some gate } := by rw [Channel.gated, saturates]; rfl
    show execGateExpiry ch s = _
    rw [execGateExpiry, if_pos (by simp [on, out]), State.publishSpeed, raw, saturates, gated]
  · show execGateExpiry ch s = _
    rw [execGateExpiry, if_neg (by rcases idle with h | h <;> simp [h])]

/-! ## The millisecond (R17) -/

/-- Settles O22. -/
theorem uptimeTickMovesTimers : Obligations.UptimeTickMovesTimers := by
  intro s
  refine ⟨fun held => ?_, fun up => ⟨s.millisecond, ?_, rfl, fun c => ?_, fun i => ?_, fun p => ?_, fun side => ?_, rfl, rfl,
    rfl, rfl, rfl, rfl⟩⟩
  · show execUptimeTick s = _
    rw [execUptimeTick, if_pos held]
  · show execUptimeTick s = _
    rw [execUptimeTick, if_neg (by simp [up])]
  · exact PerChan.get_ofFn _ _
  · exact PerBank.get_map _ _ _
  · exact PerPort.get_ofFn _ _
  · cases side <;> rfl

end Sys2Proof.Machine

/-! PROOF. BUDGET, the freshness, and what one allocation shares out and lowers (Chapter 2, R91, R128): O23 to O25, O28. -/

namespace Sys2Proof.Machine

/-! ## The clamp flags of the lanes (R41)

A flag is never cleared but by LANES_CLEAR, and CLAMP is posted exactly where one goes from clear to set. `State.Raises s t` says
so of what happens between `s` and `t`. -/

/-- Has a lane flag gone from clear to set? -/
def State.raised (s t : State) : Prop :=
  ∃ (l : LaneId) (k : ClampKind), (t.pba.lane l).clamp k = true ∧ (s.pba.lane l).clamp k = false

structure State.Raises (s t : State) : Prop where
  keeps : ∀ {l : LaneId} {k : ClampKind}, (s.pba.lane l).clamp k = true → (t.pba.lane l).clamp k = true
  posts : ∀ q : PortId, (t.port q).hasNotice .clamp = true ↔ (s.port q).hasNotice .clamp = true ∨ s.raised t

theorem Lane.raise_clamp (x : Lane) (k j : ClampKind) (sat : Bool) :
    (x.raise k sat).clamp j = (x.clamp j || (sat && decide (j = k))) := by
  cases k <;> cases j <;> simp [Lane.raise, Lane.clamp]

namespace State.Raises

variable {s t u : State}

theorem trans (first : s.Raises t) (second : t.Raises u) : s.Raises u where
  keeps h := second.keeps (first.keeps h)
  posts q := by
    rw [second.posts, first.posts, or_assoc, or_congr_right]
    constructor
    · rintro (⟨l, k, set, clear⟩ | ⟨l, k, set, clear⟩)
      · exact ⟨l, k, second.keeps set, clear⟩
      · refine ⟨l, k, set, Bool.eq_false_iff.mpr fun was => ?_⟩
        rw [first.keeps was] at clear; cases clear
    · rintro ⟨l, k, set, clear⟩
      cases between : (t.pba.lane l).clamp k with
      | true => exact .inl ⟨l, k, between, clear⟩
      | false => exact .inr ⟨l, k, set, between⟩

/-- Nothing raised: the flags and the CLAMP notices are those before. -/
theorem of_same (flags : ∀ l k, (t.pba.lane l).clamp k = (s.pba.lane l).clamp k)
    (notices : ∀ q, (t.port q).hasNotice .clamp = (s.port q).hasNotice .clamp) : s.Raises t where
  keeps h := by rw [flags, h]
  posts q := by
    rw [notices]
    refine ⟨.inl, fun h => h.elim id fun ⟨l, k, set, clear⟩ => ?_⟩
    rw [flags, clear] at set; cases set

theorem of_rfl (flags : t.pba = s.pba) (ports : t.ports = s.ports) : s.Raises t :=
  of_same (fun l k => by rw [flags]) fun q => by rw [State.port, ports]; rfl

/-- The first step may leave the lanes and the ports as they are. -/
theorem after (second : t.Raises u) (flags : t.pba = s.pba) (ports : t.ports = s.ports) : s.Raises u :=
  (of_rfl flags ports).trans second

/-- What posts other kinds alone and leaves the lanes. -/
theorem of_posts {K : Notice → Bool} (flags : t.pba = s.pba) (posts : s.Posts K t) (other : K .clamp = false) : s.Raises t :=
  of_same (fun l k => by rw [flags]) fun _ => posts.only other

/-- A saturation of one lane (R41). -/
theorem of_raise {l : LaneId} {k : ClampKind} {sat : Bool} {x : Lane} (same : ∀ j, x.clamp j = (s.pba.lane l).clamp j)
    (lane : ∀ i, t.pba.lane i = if i = l then x.raise k sat else s.pba.lane i)
    (ports : t.ports = postAllIf s.ports .clamp (sat && !(s.pba.lane l).clamp k)) : s.Raises t where
  keeps {i j} h := by
    rw [lane]; split
    · next e => rw [Lane.raise_clamp, same, ← e, h, Bool.true_or]
    · exact h
  posts q := by
    rw [State.port, ports, postAllIf_get, Port.postIf_hasNotice_same, Bool.or_eq_true, Bool.and_eq_true, Bool.not_eq_true']
    refine or_congr Iff.rfl ⟨?_, ?_⟩
    · rintro ⟨on, clear⟩
      exact ⟨l, k, by rw [lane, if_pos rfl, Lane.raise_clamp, on]; simp, clear⟩
    · rintro ⟨i, j, set, clear⟩
      rw [lane] at set
      by_cases e : i = l
      · subst e
        rw [if_pos rfl, Lane.raise_clamp, same, clear] at set
        simp only [Bool.false_or, Bool.and_eq_true, decide_eq_true_eq] at set
        exact ⟨set.1, set.2 ▸ clear⟩
      · rw [if_neg e, clear] at set; cases set

theorem raiseClamp (s : State) (l : LaneId) (k : ClampKind) (sat : Bool) : s.Raises (s.raiseClamp l k sat) :=
  of_raise (fun _ => rfl) (fun _ => Pba.lane_setLane _ _ _ _) rfl

theorem publishLane (s : State) (l : LaneId) (r : LaneReq) : s.Raises (s.publishLane l r) :=
  of_raise (fun j => by cases j <;> rfl) (fun _ => Pba.lane_setLane _ _ _ _) rfl

theorem setPump (s : State) : s.Raises s.setPump := of_raise (fun _ => rfl) (fun _ => Pba.lane_setLane _ _ _ _) rfl

theorem publishSpry (s : State) : s.Raises s.publishSpry := by
  unfold State.publishSpry; split
  · exact of_rfl rfl rfl
  · exact (publishLane s _ _).trans (setPump _)

theorem settleBanks (s : State) : s.Raises s.settleBanks :=
  of_same (fun l k => by rw [State.settleBanks_pba]) fun q => by rw [State.settleBanks_noticed]; simp

theorem sprayRefresh (s : State) : s.Raises s.sprayRefresh := (settleBanks s).trans (publishSpry _)

theorem refreshIf (s : State) (changed : Bool) : s.Raises (s.refreshIf changed) := by
  cases changed
  · exact of_rfl rfl rfl
  · exact sprayRefresh s

/-- The updates of the Arm Controller post CLAMP exactly where they raise a flag. -/
theorem armKept (s : State) : ArmKept s.Raises where
  fault h := h.trans (of_posts rfl (.of_postAllIf (K := fun k => k == .armFault) rfl rfl) rfl)
  lane _ _ h := h.trans (publishLane _ _ _)
  clamp _ _ _ h := h.trans (raiseClamp _ _ _ _)
  stall h := h.trans (of_posts rfl (.of_postAllIf (K := fun k => k == .armStall) rfl rfl) rfl)
  arm _ h := h.trans ((refreshIf _ _).after rfl rfl)
  pickup _ h := h.trans ((refreshIf _ _).after rfl rfl)
  clock _ _ h := h.trans (of_rfl rfl rfl)

/-- CLAMP in the words of the statements: lane by lane, flag by flag. -/
theorem notice_eq (h : s.Raises t) (q : PortId) : (t.port q).hasNotice .clamp = ((s.port q).hasNotice .clamp ||
    lanesUp.any fun l =>
      (t.pba.lane l).demandClamp && !(s.pba.lane l).demandClamp || (t.pba.lane l).flowClamp && !(s.pba.lane l).flowClamp ||
        (t.pba.lane l).levelClamp && !(s.pba.lane l).levelClamp) := by
  have lane (l : LaneId) : l ∈ lanesUp := by cases l <;> decide
  rw [Bool.eq_iff_iff, h.posts, Bool.or_eq_true, or_congr_right]
  simp only [List.any_eq_true, Bool.or_eq_true, Bool.and_eq_true, Bool.not_eq_true', lane, true_and, State.raised]
  refine exists_congr fun l => ⟨?_, ?_⟩
  · rintro ⟨k, set, clear⟩
    cases k with
    | demand => exact .inl (.inl ⟨set, clear⟩)
    | flow => exact .inl (.inr ⟨set, clear⟩)
    | level => exact .inr ⟨set, clear⟩
  · rintro ((⟨set, clear⟩ | ⟨set, clear⟩) | ⟨set, clear⟩)
    · exact ⟨.demand, set, clear⟩
    · exact ⟨.flow, set, clear⟩
    · exact ⟨.level, set, clear⟩

end State.Raises

/-! ## The lanes under a refresh: SPRY alone changes (R127, R128) -/

theorem State.publishLane_lane (s : State) (i l : LaneId) (r : LaneReq) : (s.publishLane i r).pba.lane l = if l = i then
      ({ s.pba.lane i with req := { r with demand := min r.demand 2500, floor := min r.floor 2500 } } : Lane).raise .demand
        (decide (2500 < r.demand) || decide (2500 < r.floor))
    else s.pba.lane l := Pba.lane_setLane _ _ _ _

theorem State.setPump_lane (s : State) (l : LaneId) : s.setPump.pba.lane l =
    if l = .spry then (s.pba.lane .spry).raise .level (decide (4095 < s.rawPump)) else s.pba.lane l := Pba.lane_setLane _ _ _ _

theorem State.publishSpry_lane (s : State) {l : LaneId} (other : l ≠ .spry) : s.publishSpry.pba.lane l = s.pba.lane l := by
  unfold State.publishSpry; split
  · rfl
  · rw [State.setPump_lane, if_neg other, State.publishLane_lane, if_neg other]

theorem State.sprayRefresh_lane (s : State) {l : LaneId} (other : l ≠ .spry) : s.sprayRefresh.pba.lane l = s.pba.lane l := by
  rw [State.sprayRefresh, State.publishSpry_lane _ other, State.settleBanks_pba]

theorem State.refreshIf_lane (s : State) (changed : Bool) {l : LaneId} (other : l ≠ .spry) :
    (s.refreshIf changed).pba.lane l = s.pba.lane l := by
  cases changed
  · rfl
  · exact s.sprayRefresh_lane other

theorem Lane.raise_flowClamp (x : Lane) {k : ClampKind} (sat : Bool) (other : k ≠ .flow) :
    (x.raise k sat).flowClamp = x.flowClamp := by
  cases k with
  | flow => exact absurd rfl other
  | demand => rfl
  | level => rfl

theorem State.setPump_flowClamp (s : State) (l : LaneId) : (s.setPump.pba.lane l).flowClamp = (s.pba.lane l).flowClamp := by
  rw [State.setPump_lane]; split
  · next e => rw [Lane.raise_flowClamp _ _ (by decide), e]
  · rfl

theorem State.publishLane_flowClamp (s : State) (i l : LaneId) (r : LaneReq) :
    ((s.publishLane i r).pba.lane l).flowClamp = (s.pba.lane l).flowClamp := by
  rw [State.publishLane_lane]; split
  · next e => rw [Lane.raise_flowClamp _ _ (by decide), e]
  · rfl

theorem State.refreshIf_flowClamp (s : State) (changed : Bool) (l : LaneId) :
    ((s.refreshIf changed).pba.lane l).flowClamp = (s.pba.lane l).flowClamp := by
  cases changed
  · rfl
  · show (s.settleBanks.publishSpry.pba.lane l).flowClamp = _
    unfold State.publishSpry; split
    · rw [State.settleBanks_pba]
    · rw [State.setPump_flowClamp, State.publishLane_flowClamp, State.settleBanks_pba]

/-! ## BUDGET (R22, R23, R25) -/

theorem ambientOf_eq (b : Byte) : ambientOf b = if b = 128 then none else some b.toInt := by
  have absent : b.toInt = -128 ↔ b = 128 := by revert b; decide
  rw [ambientOf, if_congr absent rfl rfl]

/-- The values are within the limits exactly where limiting leaves them (R22). -/
theorem BudgetFields.limited_iff (v : BudgetFields) : v.limited = v ↔ v.available ≤ 2500 ∧ v.traction ≤ 500 ∧
    v.implement ≤ 500 ∧ v.fan ≤ 500 ∧ (v.ambient.all fun a => decide (-40 ≤ a) && decide (a ≤ 85)) = true := by
  obtain ⟨available, traction, implement, fan, ambient⟩ := v
  simp only [BudgetFields.limited, BudgetFields.mk.injEq, min_eq_left_iff]
  refine and_congr Iff.rfl (and_congr Iff.rfl (and_congr Iff.rfl (and_congr Iff.rfl ?_)))
  cases ambient with
  | none => simp
  | some a => simp [limit]; omega

/-- The budget record that a frame writes (R22, R23, R25). -/
theorem Pba.withBudget_eq (b : Pba) (v : BudgetFields) (n : Nat) : b.withBudget v n = { b with
    available := min v.available 2500
    pressTraction := min v.traction 500
    pressImplement := min v.implement 500
    pressFan := min v.fan 500
    ambient := match v.ambient with
      | some a => some (max (-40) (min 85 a))
      | none => b.ambient
    freshness := .fresh
    freshTimer := some n
    budgetClamp := b.budgetClamp || decide (2500 < v.available) } := by
  obtain ⟨_, _, _, _, ambient⟩ := v
  cases ambient <;> rfl

/-- Settles O23. -/
theorem budgetWritesRecord : Obligations.BudgetWritesRecord := by
  intro s t f v heard hv ht
  have fields : budgetFields f.payload = v := by rw [hv, budgetFields, ambientOf_eq]
  refine exec_replied .budget heard ?_
  rw [blockOf, budgetBody, fields, if_congr v.limited_iff rfl rfl, Pba.withBudget_eq, ht]
  rfl

/-- Settles O24. -/
theorem lanesClearAndFreshnessExpiry : Obligations.LanesClearAndFreshnessExpiry := by
  intro s f fresh hf
  refine ⟨fun heard => exec_replied .lanesClear heard rfl, fun now => ⟨s.staled, ?_, rfl, fun p => ?_, ?_, ?_⟩, fun idle => ?_⟩
  · show execFreshnessExpiry s = _
    rw [execFreshnessExpiry, if_pos (by simpa using hf.mp now)]
  · simp [State.staled]
  · show s.sge.noteStale = _
    rw [Sge.noteStale, Sge.note]; split
    · next there => simp [SegFigures.flag, there]
    · next none => rw [Bool.eq_false_iff.mpr none, Bool.or_false]
  · rfl
  · show execFreshnessExpiry s = _
    rw [execFreshnessExpiry, if_neg (by simpa using fun a b => idle (hf.mpr ⟨a, b⟩))]

/-! ## The allocation period -/

theorem laneState_idle (a : AllocIn) (l : LaneId) : a.laneState l = .idle ↔ a.active l = false := by
  unfold AllocIn.laneState
  by_cases served : l ∈ a.finalSet
  · have on := finalSet_active a served
    rw [if_pos served, on]; split <;> decide
  · rw [if_neg served]; cases a.active l <;> decide

theorem laneState_starved (a : AllocIn) (l : LaneId) : a.laneState l = .starved ↔ a.active l = true ∧ l ∉ a.finalSet := by
  unfold AllocIn.laneState
  by_cases served : l ∈ a.finalSet
  · rw [if_pos served]
    refine ⟨fun h => ?_, fun h => absurd served h.2⟩
    split at h <;> cases h
  · rw [if_neg served]
    cases a.active l <;> simp [served]

theorem laneState_full {a : AllocIn} {l : LaneId} (served : l ∈ a.finalSet) : a.laneState l = .full ↔ a.grant l = a.demand l := by
  unfold AllocIn.laneState
  rw [if_pos served]; split <;> simp_all

theorem grant_of_out {a : AllocIn} {l : LaneId} (out : l ∉ a.finalSet) : a.grant l = 0 := if_neg out

theorem exec_allocationPeriodExpiry {s : State} (out : s.pba.allocTimer = some 0) :
    exec .allocationPeriodExpiry s = .next s.allocate := by
  show execAllocationPeriodExpiry s = _
  rw [execAllocationPeriodExpiry, if_pos (by simp [out])]

/-- The conversion of the grants to flow raises FLOW_CLAMP where it saturates, and nothing else (R36, R41). -/
theorem State.allocatedLane_clamp (s : State) (l : LaneId) (k : ClampKind) : (s.allocatedLane l).clamp k =
    ((s.pba.lane l).clamp k || (decide (65535 < s.rawGrantFlow (s.allocIn.grant l) l) && decide (k = .flow))) := by
  rw [State.allocatedLane, Lane.raise_clamp]; cases k <;> rfl

theorem State.publishGrants_lane (s : State) (l : LaneId) : s.publishGrants.pba.lane l = s.allocatedLane l :=
  PerLane.get_ofFn _ _

theorem State.raises_publishGrants (s : State) : s.Raises s.publishGrants where
  keeps h := by rw [State.publishGrants_lane, State.allocatedLane_clamp, h, Bool.true_or]
  posts q := by
    have port : s.publishGrants.port q = (((s.port q).postIf .laneShed (s.allocIn.shedTotal != 0)).postIf .laneReadmit
        s.allocIn.readmitted).postIf .clamp (lanesUp.any s.allocationClamps) := by
      cases q <;> rfl
    have every (l : LaneId) : l ∈ lanesUp := by cases l <;> decide
    rw [port, Port.postIf_hasNotice_same, Port.postIf_hasNotice_other _ _ (by decide),
      Port.postIf_hasNotice_other _ _ (by decide), Bool.or_eq_true, List.any_eq_true]
    refine or_congr Iff.rfl ⟨?_, ?_⟩
    · rintro ⟨l, _, clamps⟩
      rw [State.allocationClamps, Lane.raises, Bool.and_eq_true, Bool.not_eq_true'] at clamps
      exact ⟨l, .flow, by rw [State.publishGrants_lane, State.allocatedLane_clamp, clamps.1]; simp, clamps.2⟩
    · rintro ⟨l, k, set, clear⟩
      rw [State.publishGrants_lane, State.allocatedLane_clamp, clear, Bool.false_or, Bool.and_eq_true,
        decide_eq_true_eq (p := k = .flow)] at set
      refine ⟨l, every l, ?_⟩
      rw [State.allocationClamps, Lane.raises, set.1, ← set.2, clear]; rfl

/-- CLAMP is posted exactly where an allocation raises a lane flag. -/
theorem State.raises_allocate (s : State) : s.Raises s.allocate := by
  have consumed (t : State) (changed : Bool) : t.Raises (t.arcOnGrants.refreshIf changed).setPump :=
    ((State.Raises.refreshIf _ _).trans (State.Raises.setPump _)).after rfl rfl
  exact s.raises_publishGrants.trans (consumed _ _)

theorem State.allocate_flowClamp (s : State) (l : LaneId) :
    (s.allocate.pba.lane l).flowClamp = (s.allocatedLane l).flowClamp := by
  rw [State.allocate, State.setPump_flowClamp, State.refreshIf_flowClamp, ← State.publishGrants_lane]
  rfl

/-- Settles O25. -/
theorem allocationSharesBudget : Obligations.AllocationSharesBudget := by
  intro s out
  have around := Pba.eq_of_around s.allocate_around
  have budget : s.allocate.pba.budgetInEffect = s.allocIn.budget := by rw [around]; rfl
  have slack : s.allocate.pba.slack = s.allocIn.slack := by rw [around]; rfl
  have state (l : LaneId) : (s.allocate.pba.lane l).out.state = s.allocIn.laneState l := by
    rw [s.allocate_out, s.allocatedLane_out]
  have grant (l : LaneId) : (s.allocate.pba.lane l).out.grant = s.allocIn.grant l := by
    rw [s.allocate_out, s.allocatedLane_out]
  have bounds {l : LaneId} (served : l ∈ s.allocIn.finalSet) := grant_bounds s.allocIn s.allocIn_floor_le served
  refine ⟨s.allocate, exec_allocationPeriodExpiry out, ?_, by rw [around]; rfl, by rw [around]; rfl, ?_, fun l => ⟨?_, ?_, ?_, ?_, ?_, ?_⟩, s.raises_allocate.notice_eq, ?_, ?_, ?_, ?_, ?_⟩
  · rw [budget]; rfl
  · simp only [grant, slack, budget]
    exact grants_and_slack _ s.allocIn_cls
  · intro off
    have idle := (laneState_idle s.allocIn l).mpr off
    have out : l ∉ s.allocIn.finalSet := fun served =>
      absurd ((finalSet_active s.allocIn served).symm.trans off) (by decide)
    rw [s.allocate_out, s.allocatedLane_out, idle, grant_of_out out]
    simp [State.rawGrantFlow, flowOf, LaneOut.idle]
  · intro on idle
    rw [state, laneState_idle] at idle
    exact absurd (idle.symm.trans on) (by decide)
  · intro starved
    rw [state, laneState_starved] at starved
    rw [grant, grant_of_out starved.2]
  · intro served
    have served : l ∈ s.allocIn.finalSet := by
      rw [state] at served
      rw [← laneState_served]; rcases served with h | h <;> rw [h] <;> rfl
    rw [state, grant]
    exact ⟨(bounds served).1, (bounds served).2, laneState_full served⟩
  · rw [grant, s.allocate_out, s.allocatedLane_out]; exact Nat.min_comm _ _
  · have raised := s.allocatedLane_clamp l .flow
    rw [grant, s.allocate_flowClamp]
    rw [decide_eq_true (p := ClampKind.flow = .flow) rfl, Bool.and_true] at raised
    exact raised
  all_goals simp

/-- The level that a lane's grant carries for its own demanded flow (R39). -/
theorem State.rawLevel_eq (s : State) (l : LaneId) : s.rawLevel l (s.pba.lane l).req.flow =
    if (s.pba.lane l).out.state = .full ∨ (s.pba.lane l).out.state = .part then
      roundDivNat (min (s.pba.lane l).out.flow (s.pba.lane l).req.flow * 4095) (s.params.qfs l)
    else 0 := by
  unfold State.rawLevel levelOf
  cases (s.pba.lane l).out.state <;> rfl

theorem State.rawLevel_congr {s t : State} {l : LaneId} (lane : (t.pba.lane l).out = (s.pba.lane l).out)
    (params : t.params = s.params) (demanded : Nat) : t.rawLevel l demanded = s.rawLevel l demanded := by
  rw [State.rawLevel, State.rawLevel, lane, params]

/-- The state at the end of an allocation, before the pump level is set. -/
def State.granted (s : State) : State :=
  s.publishGrants.arcOnGrants.refreshIf (s.publishGrants.arcOnGrants.sprayServed != s.sprayServed)

theorem State.allocate_eq (s : State) : s.allocate = s.granted.setPump := rfl

/-- Settles O28. -/
theorem driveLevelsFollowGrants : Obligations.DriveLevelsFollowGrants := by
  intro s carried hc
  have level (u : State) (l : LaneId) : carried u l = u.rawLevel l (u.pba.lane l).req.flow := by rw [hc, State.rawLevel_eq]
  refine ⟨fun out => ⟨s.allocate, exec_allocationPeriodExpiry out, ?_, ?_⟩, fun idle => ?_⟩
  · have lane {l : LaneId} (other : l ≠ .spry) : s.allocate.pba.lane l = s.publishGrants.pba.lane l := by
      rw [State.allocate_eq, State.setPump_lane, if_neg other, State.granted, State.refreshIf_lane _ _ other]; rfl
    have params : s.publishGrants.params = s.allocate.params := by rw [State.allocate_params]; rfl
    have lowered {l : LaneId} (other : l ≠ .spry) (n : Nat) :
        s.publishGrants.loweredLevel l n = min n (carried s.allocate l) := by
      rw [State.loweredLevel, level, lane other, State.rawLevel_congr (by rw [lane other]) params]
    have arc : s.allocate.arc = s.publishGrants.arcOnGrants.arc := by
      rw [State.allocate_eq, State.setPump_arc, State.granted, State.refreshIf_arc]
    rw [arc, State.arcOnGrants, lowered (by decide), lowered (by decide), lowered (by decide), lowered (by decide)]
    rfl
  · have lane : s.allocate.pba.lane .spry = (s.granted.pba.lane .spry).raise .level (decide (4095 < s.granted.rawPump)) := by
      rw [State.allocate_eq, State.setPump_lane, if_pos rfl]
    have pump : s.allocate.spc.pumpLevel = min s.granted.rawPump 4095 := rfl
    have req : (s.allocate.pba.lane .spry).req = (s.granted.pba.lane .spry).req := by rw [lane, Lane.raise_req]
    have same := State.rawLevel_congr (s := s.granted) (t := s.allocate) (l := .spry) (by rw [lane, Lane.raise_out]) rfl
    rw [pump, State.rawPump, level, req, same]
    split
    · exact Nat.min_comm _ _
    · rfl
  · show execAllocationPeriodExpiry s = _
    rw [execAllocationPeriodExpiry, if_neg (by simpa using idle)]

end Sys2Proof.Machine

/-! PROOF. Which lanes an allocation sheds and re-admits, and how the rest is shared (R32 to R34): O26, O27. -/

namespace Sys2Proof.Machine

/-! ## The orders of shedding and of re-admission -/

/-- The rank of a lane: by class, within a class by index. -/
def AllocIn.rank (a : AllocIn) (l : LaneId) : Nat := 6 * a.cls l + lanesUp.idxOf l

theorem mem_lanesUp (l : LaneId) : l ∈ lanesUp := by cases l <;> decide

theorem AllocIn.shedOrder_sorted (a : AllocIn) : a.shedOrder.Pairwise fun x y => a.rank y < a.rank x := by
  have index (l : LaneId) : lanesUp.idxOf l < 6 := by cases l <;> decide
  have down : lanesDown.Pairwise fun x y => lanesUp.idxOf y < lanesUp.idxOf x := by decide
  refine List.pairwise_flatMap.mpr ⟨fun k _ => ?_, ?_⟩
  · refine (down.filter _).imp_of_mem fun {x y} hx hy lt => ?_
    have hx : a.cls x = k := by simpa using (List.mem_filter.mp hx).2
    have hy : a.cls y = k := by simpa using (List.mem_filter.mp hy).2
    simp only [AllocIn.rank, hx, hy]; omega
  · have falling : [3, 2, 1, 0].Pairwise fun x y : Nat => y < x := by decide
    refine falling.imp fun {j k} lt x hx y hy => ?_
    have hx : a.cls x = j := by simpa using (List.mem_filter.mp hx).2
    have hy : a.cls y = k := by simpa using (List.mem_filter.mp hy).2
    have := index x; have := index y
    simp only [AllocIn.rank, hx, hy]; omega

theorem AllocIn.readmitOrder_sorted (a : AllocIn) : a.readmitOrder.Pairwise fun x y => a.rank x < a.rank y := by
  have index (l : LaneId) : lanesUp.idxOf l < 6 := by cases l <;> decide
  have up : lanesUp.Pairwise fun x y => lanesUp.idxOf x < lanesUp.idxOf y := by decide
  refine List.pairwise_flatMap.mpr ⟨fun k _ => ?_, ?_⟩
  · refine (up.filter _).imp_of_mem fun {x y} hx hy lt => ?_
    have hx : a.cls x = k := by simpa using (List.mem_filter.mp hx).2
    have hy : a.cls y = k := by simpa using (List.mem_filter.mp hy).2
    simp only [AllocIn.rank, hx, hy]; omega
  · have rising : [0, 1, 2, 3].Pairwise fun x y : Nat => x < y := by decide
    refine rising.imp fun {j k} lt x hx y hy => ?_
    have hx : a.cls x = j := by simpa using (List.mem_filter.mp hx).2
    have hy : a.cls y = k := by simpa using (List.mem_filter.mp hy).2
    have := index x; have := index y
    simp only [AllocIn.rank, hx, hy]; omega

theorem mem_readmitOrder {a : AllocIn} {l : LaneId} (h : a.cls l ≤ 3) : l ∈ a.readmitOrder := by
  refine List.mem_flatMap.mpr ⟨a.cls l, ?_, by simp [mem_lanesUp]⟩
  simp; omega

/-- A sorted list around one of its members: before it stand exactly the members that the order puts before it. -/
theorem split_sorted {rank : LaneId → Nat} {lt : Nat → Nat → Prop} (asymm : ∀ {m n}, lt m n → ¬ lt n m) {order : List LaneId}
    (sorted : order.Pairwise fun x y => lt (rank x) (rank y)) (all : ∀ x, x ∈ order) (l : LaneId) :
    ∃ before after, order = before ++ l :: after ∧ (∀ x, x ∈ before ↔ lt (rank x) (rank l)) ∧ l ∉ after := by
  obtain ⟨before, after, rfl⟩ := List.append_of_mem (all l)
  obtain ⟨_, tail, across⟩ := List.pairwise_append.mp sorted
  obtain ⟨later, _⟩ := List.pairwise_cons.mp tail
  refine ⟨before, after, rfl, fun x => ⟨fun h => across x h l (List.mem_cons_self), fun h => ?_⟩, fun h => ?_⟩
  · rcases List.mem_append.mp (all x) with hx | hx
    · exact hx
    · rcases List.mem_cons.mp hx with rfl | hx
      · exact absurd h (asymm h)
      · exact absurd h (asymm (later x hx))
  · exact asymm (later l h) (later l h)

/-! ## Shedding (R32) -/

variable {a : AllocIn}

/-- Shedding passes over a lane that its order does not name. -/
theorem mem_shed_of_unnamed {order A : List LaneId} {l : LaneId} (h : l ∈ A) (unnamed : l ∉ order) : l ∈ a.shed order A := by
  induction order generalizing A with
  | nil => exact h
  | cons x rest ih =>
    rw [List.mem_cons, not_or] at unnamed
    unfold AllocIn.shed; split
    · exact ih (List.mem_filter.mpr ⟨h, by simpa using unnamed.1⟩) unnamed.2
    · exact ih h unnamed.2

/-- Without lanes that have no floor the floors are the same. -/
theorem floors_filter_eq {A : List LaneId} {p : LaneId → Bool} (h : ∀ x ∈ A, p x = false → a.floor x = 0) :
    a.floors (A.filter p) = a.floors A := by
  induction A with
  | nil => rfl
  | cons x A ih =>
    have rest := ih fun y hy => h y (List.mem_cons_of_mem _ hy)
    cases keep : p x with
    | true => rw [List.filter_cons_of_pos keep, floors_cons, floors_cons, rest]
    | false =>
      rw [List.filter_cons_of_neg (by simp [keep]), floors_cons, rest, h x List.mem_cons_self keep, Nat.zero_add]

/-- A lane is shed exactly when it has a floor and the floors of the lanes that the order does not put before it exceed the
budget: while a lane before it stays, the floors fit already. -/
theorem not_mem_shed {before after A : List LaneId} {l : LaneId} (h : l ∈ A) (once : l ∉ before) (last : l ∉ after) :
    l ∉ a.shed (before ++ l :: after) A ↔
      a.floor l ≠ 0 ∧ a.budget < a.floors (A.filter fun x => decide (x ∉ before)) := by
  induction before generalizing A with
  | nil =>
    have all : A.filter (fun x => decide (x ∉ ([] : List LaneId))) = A := by simp
    rw [all, List.nil_append, AllocIn.shed]
    by_cases shed : a.budget < a.floors A ∧ l ∈ A ∧ a.floor l ≠ 0
    · rw [if_pos shed]
      exact ⟨fun _ => ⟨shed.2.2, shed.1⟩, fun _ stays => by simpa using shed_subset a _ _ stays⟩
    · rw [if_neg shed]
      exact ⟨fun out => absurd (mem_shed_of_unnamed h last) out, fun ⟨floor, exceed⟩ => absurd ⟨exceed, h, floor⟩ shed⟩
  | cons x before ih =>
    obtain ⟨other, once⟩ := not_or.mp (fun e => once (List.mem_cons.mpr e))
    have without : (A.filter fun y => decide (y ∉ x :: before)) =
        (A.filter fun y => decide (y ≠ x)).filter fun y => decide (y ∉ before) := by
      rw [List.filter_filter]; congr 1; funext y; simp [Bool.and_comm]
    rw [List.cons_append, AllocIn.shed]
    by_cases shed : a.budget < a.floors A ∧ x ∈ A ∧ a.floor x ≠ 0
    · rw [if_pos shed, ih (List.mem_filter.mpr ⟨h, by simpa using other⟩) once, without]
    · rw [if_neg shed, ih h once]
      refine and_congr Iff.rfl ?_
      by_cases fits : a.floors A ≤ a.budget
      · have keep (p : LaneId → Bool) := (floors_filter_le a p A).trans fits
        exact iff_of_false (Nat.not_lt.mpr (keep _)) (Nat.not_lt.mpr (keep _))
      · rw [without, List.filter_filter, ← floors_filter_eq (A := A.filter fun y => decide (y ∉ before))
          (p := fun y => decide (y ≠ x)), List.filter_filter]
        · simp only [Bool.and_comm]
        · intro y hy same
          have same : y = x := by simpa using same
          by_contra floor
          exact shed ⟨by omega, same ▸ (List.mem_filter.mp hy).1, same ▸ floor⟩

/-! ## Re-admission (R33) -/

theorem readmit_append (before after A : List LaneId) :
    a.readmit (before ++ after) A = a.readmit after (a.readmit before A) := by
  induction before generalizing A with
  | nil => rfl
  | cons x before ih =>
    rw [List.cons_append, AllocIn.readmit, AllocIn.readmit]; split <;> exact ih _

/-- What re-admission adds is named by its order. -/
theorem mem_readmit {order A : List LaneId} {l : LaneId} (h : l ∈ a.readmit order A) : l ∈ A ∨ l ∈ order ∧ a.candidate l = true := by
  induction order generalizing A with
  | nil => exact .inl h
  | cons x rest ih =>
    rw [AllocIn.readmit] at h
    split at h
    · next fits =>
      rcases ih h with h | h
      · rcases List.mem_cons.mp h with rfl | h
        · exact .inr ⟨List.mem_cons_self, fits.1⟩
        · exact .inl h
      · exact .inr ⟨List.mem_cons_of_mem _ h.1, h.2⟩
    · rcases ih h with h | h
      · exact .inl h
      · exact .inr ⟨List.mem_cons_of_mem _ h.1, h.2⟩

/-- A candidate is re-admitted exactly when it fits beside the lanes that are there when its turn comes. -/
theorem mem_readmit_iff {before after A : List LaneId} {l : LaneId} (starved : a.candidate l = true) (h : l ∉ A)
    (once : l ∉ before) (last : l ∉ after) : l ∈ a.readmit (before ++ l :: after) A ↔
      a.floors (a.readmit before A) + a.floor l + a.margin ≤ a.budget := by
  have out : l ∉ a.readmit before A := fun there => (mem_readmit there).elim h fun named => once named.1
  rw [readmit_append, AllocIn.readmit]
  by_cases fits : a.floors (a.readmit before A) + a.floor l + a.margin ≤ a.budget
  · rw [if_pos ⟨starved, fits⟩]
    exact iff_of_true (mem_readmit_of_mem a _ List.mem_cons_self) fits
  · rw [if_neg (fun h => fits h.2)]
    exact iff_of_false (fun there => (mem_readmit there).elim out fun named => last named.1) fits

theorem readmit_suffix (order A : List LaneId) : A <:+ a.readmit order A := by
  induction order generalizing A with
  | nil => exact List.suffix_refl _
  | cons x rest ih =>
    rw [AllocIn.readmit]; split
    · exact (List.suffix_cons x A).trans (ih _)
    · exact ih _

/-! ## The two sets of an allocation -/

theorem mem_admitted {l : LaneId} : l ∈ a.admitted ↔ a.active l = true ∧ a.wasStarved l = false := by
  simp [AllocIn.admitted, mem_lanesUp]

/-- Among the lanes that were not STARVED, those served are those that shedding leaves. -/
theorem mem_finalSet_of_admitted {l : LaneId} (fed : a.wasStarved l = false) : l ∈ a.finalSet ↔ l ∈ a.afterShed := by
  refine ⟨fun h => (readmit_subset a _ _ h).elim id fun starved => ?_, mem_readmit_of_mem a _⟩
  simp [AllocIn.candidate, fed] at starved

/-- A lane is re-admitted exactly when it is served and was STARVED. -/
theorem mem_finalSet_not_afterShed {l : LaneId} :
    (l ∈ a.finalSet ∧ l ∉ a.afterShed) ↔ a.wasStarved l = true ∧ l ∈ a.finalSet := by
  refine ⟨fun ⟨there, out⟩ => ⟨?_, there⟩, fun ⟨starved, there⟩ => ⟨there, fun kept => ?_⟩⟩
  · have := (readmit_subset a _ _ there).resolve_left out
    simp only [AllocIn.candidate, Bool.and_eq_true] at this
    exact this.2
  · rw [(mem_afterShed_admitted a kept).2] at starved; cases starved

/-- Who is shed (R32). -/
theorem shed_iff (cls : ∀ l, a.cls l ≤ 3) {l : LaneId} (asks : a.active l = true) (fed : a.wasStarved l = false) :
    a.laneState l = .starved ↔ a.floor l ≠ 0 ∧ a.budget <
      ((lanesUp.filter fun x => a.active x && !a.wasStarved x && decide (a.rank x ≤ a.rank l)).map a.floor).sum := by
  obtain ⟨before, after, order, inBefore, last⟩ := split_sorted (rank := a.rank) (lt := fun m n => n < m)
    (fun h => Nat.not_lt.mpr (Nat.le_of_lt h)) a.shedOrder_sorted (fun x => mem_shedOrder a x (cls x)) l
  have once : l ∉ before := fun h => Nat.lt_irrefl _ ((inBefore l).mp h)
  have notAbove : (a.admitted.filter fun x => decide (x ∉ before)) =
      lanesUp.filter fun x => a.active x && !a.wasStarved x && decide (a.rank x ≤ a.rank l) := by
    rw [AllocIn.admitted, List.filter_filter]
    refine List.filter_congr fun x _ => ?_
    rw [Bool.and_comm, decide_eq_decide.mpr ((not_congr (inBefore x)).trans Nat.not_lt)]
  rw [laneState_starved, mem_finalSet_of_admitted fed, AllocIn.afterShed, order,
    not_mem_shed (mem_admitted.mpr ⟨asks, fed⟩) once last, notAbove]
  exact and_iff_right asks

/-- Who comes back (R33). -/
theorem readmitted_iff (cls : ∀ l, a.cls l ≤ 3) {l : LaneId} (asks : a.active l = true) (starved : a.wasStarved l = true) :
    a.laneState l ≠ .starved ↔
      ((lanesUp.filter fun x => (a.laneState x).served && (!a.wasStarved x || decide (a.rank x < a.rank l))).map
        a.floor).sum + a.floor l + a.margin ≤ a.budget := by
  obtain ⟨before, after, order, inBefore, last⟩ := split_sorted (rank := a.rank) (lt := fun m n => m < n)
    (fun h => Nat.not_lt.mpr (Nat.le_of_lt h)) a.readmitOrder_sorted (fun x => mem_readmitOrder (cls x)) l
  have once : l ∉ before := fun h => Nat.lt_irrefl _ ((inBefore l).mp h)
  have final : a.finalSet = a.readmit (l :: after) (a.readmit before a.afterShed) := by
    rw [← readmit_append, ← order, AllocIn.finalSet]
  have nodup : (a.readmit before a.afterShed).Nodup :=
    (final ▸ finalSet_nodup a).sublist (readmit_suffix _ _).sublist
  have there : (a.readmit before a.afterShed).Perm
      (lanesUp.filter fun x => (a.laneState x).served && (!a.wasStarved x || decide (a.rank x < a.rank l))) := by
    rw [List.perm_ext_iff_of_nodup nodup ((by decide : lanesUp.Nodup).filter _)]
    intro x
    rw [List.mem_filter, Bool.and_eq_true, Bool.or_eq_true, laneState_served, Bool.not_eq_true', decide_eq_true_iff]
    refine ⟨fun h => ⟨mem_lanesUp x, final ▸ mem_readmit_of_mem a _ h, (mem_readmit h).imp (fun kept => ?_) fun named => ?_⟩,
      fun ⟨_, served, early⟩ => ?_⟩
    · exact (mem_afterShed_admitted a kept).2
    · exact (inBefore x).mp named.1
    · rw [final] at served
      refine (mem_readmit served).elim id fun ⟨named, candidate⟩ => ?_
      have nodup : (before ++ l :: after).Nodup := order ▸ readmitOrder_nodup a
      simp only [AllocIn.candidate, Bool.and_eq_true] at candidate
      have early := early.resolve_left (by simp [candidate.2])
      exact absurd named (List.disjoint_of_nodup_append nodup ((inBefore x).mpr early))
  have floors : a.floors (a.readmit before a.afterShed) = _ := (there.map a.floor).sum_eq
  have candidate : a.candidate l = true := by simp [AllocIn.candidate, asks, starved]
  have out : l ∉ a.afterShed := fun kept => by rw [(mem_afterShed_admitted a kept).2] at starved; cases starved
  rw [← floors, ← mem_readmit_iff candidate out once last, ← order, ne_eq, laneState_starved]
  simp only [asks, true_and, not_not]
  rfl

/-- The lanes that are shed, and their number (R32). -/
theorem shedTotal_eq : a.shedTotal =
    (lanesUp.filter fun x => a.active x && !a.wasStarved x && a.laneState x == .starved).length := by
  rw [AllocIn.shedTotal, AllocIn.admitted, List.filter_filter]
  congr 1
  refine List.filter_congr fun x _ => ?_
  cases asks : a.active x with
  | false => simp
  | true =>
    cases fed : a.wasStarved x with
    | true => simp
    | false =>
      rw [Bool.eq_iff_iff]
      simp [laneState_starved, mem_finalSet_of_admitted fed, asks]

theorem readmitted_eq : a.readmitted = lanesUp.any fun x => a.wasStarved x && (a.laneState x).served := by
  rw [AllocIn.readmitted]
  congr 1; funext x
  rw [Bool.eq_iff_iff, Bool.and_eq_true, Bool.and_eq_true, laneState_served, ← mem_finalSet_not_afterShed]
  simp

/-! ## O26 -/

/-- The notices of an allocation, but for those of the lanes' flags and of the refresh after it (R32, R33). -/
theorem State.allocate_notice (s : State) (q : PortId) {k : Notice} (other : k.ofSpray = false) :
    (s.allocate.port q).hasNotice k = ((s.port q).hasNotice k || (s.allocIn.shedTotal != 0 && decide (k = .laneShed)) ||
      (s.allocIn.readmitted && decide (k = .laneReadmit))) := by
  have spray : ∀ k, k.ofSpray = true → Notice.ofSpray k = true := fun _ h => h
  have consumed (t : State) (changed : Bool) : t.Posts Notice.ofSpray (t.arcOnGrants.refreshIf changed).setPump :=
    ((State.Posts.refreshIf spray t.arcOnGrants changed).trans (.of_postAllIf (k := .clamp) rfl rfl)).after rfl
  have port : s.publishGrants.port q = (((s.port q).postIf .laneShed (s.allocIn.shedTotal != 0)).postIf .laneReadmit
      s.allocIn.readmitted).postIf .clamp (lanesUp.any s.allocationClamps) := by cases q <;> rfl
  have noClamp : k ≠ .clamp := fun e => by rw [e] at other; cases other
  rw [State.allocate, (consumed _ _).only other, port, Port.postIf_hasNotice_other _ _ noClamp, Port.postIf_hasNotice,
    Port.postIf_hasNotice]

theorem filter_length_ne_zero (p : LaneId → Bool) : ((lanesUp.filter p).length != 0) = lanesUp.any p := by
  rw [Bool.eq_iff_iff, bne_iff_ne, ne_eq, List.length_eq_zero_iff, List.filter_eq_nil_iff, List.any_eq_true]
  simp

/-- Settles O26. -/
theorem allocationAdmits : Obligations.AllocationAdmits := by
  intro s t floor rank asks starved out ht h
  rw [exec_allocationPeriodExpiry out] at ht
  obtain rfl : s.allocate = t := Host.Outcome.next.inj ht
  obtain rfl : floor = s.allocIn.floor := funext fun l => (h l).1
  obtain rfl : rank = s.allocIn.rank := funext fun l => (h l).2.1
  obtain rfl : asks = s.allocIn.active := funext fun l => (h l).2.2.1
  obtain rfl : starved = s.allocIn.wasStarved := funext fun l => (h l).2.2.2
  have state (l : LaneId) : (s.allocate.pba.lane l).out.state = s.allocIn.laneState l := by
    rw [s.allocate_out, s.allocatedLane_out]
  simp only [state]
  refine ⟨fun l asks fed => shed_iff s.allocIn_cls asks fed, fun l asks starved => readmitted_iff s.allocIn_cls asks starved,
    ?_, fun p => ?_, fun p => ?_⟩
  · rw [Pba.eq_of_around s.allocate_around, ← shedTotal_eq]; rfl
  · rw [s.allocate_notice p rfl, shedTotal_eq, filter_length_ne_zero]; simp
  · rw [s.allocate_notice p rfl, readmitted_eq]; simp

/-! ## Distribution (R34) -/

theorem sum_below_succ (cls g : LaneId → Nat) (k : Nat) (A : List LaneId) :
    ((A.filter fun x => decide (cls x < k + 1)).map g).sum =
      ((A.filter fun x => decide (cls x < k)).map g).sum + ((A.filter fun x => cls x == k).map g).sum := by
  induction A with
  | nil => rfl
  | cons x A ih =>
    simp only [Nat.lt_succ_iff] at ih ⊢
    have : cls x < k ∨ cls x = k ∨ k < cls x := by omega
    rcases this with lt | eq | gt
    · simp [ih, lt, Nat.le_of_lt lt, Nat.ne_of_lt lt]; omega
    · simp [ih, eq]; omega
    · simp [ih, Nat.ne_of_gt gt, Nat.not_le.mpr gt, Nat.not_lt.mpr (Nat.le_of_lt gt)]

/-- What the classes before class k have taken, with the floors and the remainder that class k finds, is the budget. -/
theorem remainder_eq (cls : ∀ l, a.cls l ≤ 3) (k : Nat) : a.remainder k + a.floors a.finalSet +
    ((a.finalSet.filter fun x => decide (a.cls x < k)).map fun x => a.share (a.remainder (a.cls x)) x).sum = a.budget := by
  induction k with
  | zero =>
    have := finalSet_fits a cls
    simp [AllocIn.remainder]; omega
  | succ k ih =>
    have class_k : ((a.finalSet.filter fun x => decide (a.cls x < k + 1)).map fun x => a.share (a.remainder (a.cls x)) x).sum =
        ((a.finalSet.filter fun x => decide (a.cls x < k)).map fun x => a.share (a.remainder (a.cls x)) x).sum +
          a.taken k (a.remainder k) := by
      have inClass : ((a.finalSet.filter fun x => a.cls x == k).map fun x => a.share (a.remainder (a.cls x)) x).sum =
          a.taken k (a.remainder k) := by
        refine congrArg List.sum (List.map_congr_left fun x hx => ?_)
        rw [show a.cls x = k by simpa using (List.mem_filter.mp hx).2]
      rw [← inClass, sum_below_succ]
    have := taken_le a k (a.remainder k)
    rw [class_k, AllocIn.remainder]; omega

/-- Settles O27. -/
theorem allocationDistributes : Obligations.AllocationDistributes := by
  intro s t floor extra served out ht h hserved l rest sum hl hrest hsum
  rw [exec_allocationPeriodExpiry out] at ht
  obtain rfl : s.allocate = t := Host.Outcome.next.inj ht
  obtain rfl : floor = s.allocIn.floor := funext fun l => (h l).1
  obtain rfl : extra = s.allocIn.extra := funext fun l => (h l).2
  have state (x : LaneId) : (s.allocate.pba.lane x).out.state = s.allocIn.laneState x := by
    rw [s.allocate_out, s.allocatedLane_out]
  have grant (x : LaneId) : (s.allocate.pba.lane x).out.grant = s.allocIn.grant x := by
    rw [s.allocate_out, s.allocatedLane_out]
  simp only [state] at hserved
  have perm : served.Perm s.allocIn.finalSet := by
    rw [hserved, List.perm_ext_iff_of_nodup ((by decide : lanesUp.Nodup).filter _) (finalSet_nodup _)]
    intro x
    rw [List.mem_filter, laneState_served]
    exact and_iff_right (mem_lanesUp x)
  have hl : l ∈ s.allocIn.finalSet := perm.mem_iff.mp hl
  have floors : (served.map s.allocIn.floor).sum = s.allocIn.floors s.allocIn.finalSet := (perm.map _).sum_eq
  have below : ((served.filter fun x => decide (s.params.laneClass x < s.params.laneClass l)).map fun x =>
      (s.allocate.pba.lane x).out.grant - s.allocIn.floor x).sum =
      ((s.allocIn.finalSet.filter fun x => decide (s.allocIn.cls x < s.allocIn.cls l)).map fun x =>
        s.allocIn.share (s.allocIn.remainder (s.allocIn.cls x)) x).sum := by
    rw [((perm.filter _).map _).sum_eq]
    refine congrArg List.sum (List.map_congr_left fun x hx => ?_)
    rw [grant, AllocIn.grant, if_pos (List.mem_of_mem_filter hx), Nat.add_sub_cancel_left]
  have extras : sum = s.allocIn.classExtra (s.allocIn.cls l) := by
    rw [hsum, ((perm.filter _).map _).sum_eq]
    refine congrArg (fun A => (A.map s.allocIn.extra).sum) (List.filter_congr fun x _ => ?_)
    rfl
  have budget : s.budgetInEffect = s.allocIn.budget := rfl
  have found : rest = s.allocIn.remainder (s.allocIn.cls l) := by
    have := remainder_eq s.allocIn_cls (s.allocIn.cls l)
    rw [floors, below, budget] at hrest; omega
  have demand : (s.pba.lane l).req.demand = s.allocIn.floor l + s.allocIn.extra l := by
    have := s.allocIn_floor_le l
    show s.allocIn.demand l = _
    rw [AllocIn.extra]; omega
  rw [grant, AllocIn.grant, if_pos hl, AllocIn.share, ← found, ← extras, demand]
  split <;> rfl

end Sys2Proof.Machine

/-! PROOF. The divisions of section 4.2 (O29); profiles selected and written (O32). -/

namespace Sys2Proof.Machine

/-! ## Divisions -/

/-- Rounded, a quotient is the one below or the one above, whichever is nearer. -/
theorem roundDiv_cases (n d : Int) :
    (roundDiv n d = n / d ∧ (2 * (n % d) < d ∨ (2 * (n % d) = d ∧ n / d % 2 = 0))) ∨
      (roundDiv n d = n / d + 1 ∧ (d < 2 * (n % d) ∨ (2 * (n % d) = d ∧ n / d % 2 ≠ 0))) := by
  unfold roundDiv; dsimp only
  split
  · exact .inl ⟨rfl, .inl ‹_›⟩
  · split
    · exact .inr ⟨rfl, .inl ‹_›⟩
    · have tie : 2 * (n % d) = d := by omega
      split
      · exact .inl ⟨rfl, .inr ⟨tie, ‹_›⟩⟩
      · exact .inr ⟨rfl, .inr ⟨tie, ‹_›⟩⟩

/-- Settles O29. -/
theorem divisionsRound : Obligations.DivisionsRound := by
  refine ⟨fun n d pos => ?_, fun n d _ => ?_, fun n d pos => ?_⟩
  · have below : n / d * d = n - n % d := by have := Int.mul_ediv_add_emod n d; rw [Int.mul_comm]; omega
    have low := Int.emod_nonneg n (Int.ne_of_gt pos)
    have high := Int.emod_lt_of_pos n pos
    rcases roundDiv_cases n d with ⟨e, near⟩ | ⟨e, near⟩
    · rw [e, below]; omega
    · have above : (n / d + 1) * d = n - n % d + d := by rw [Int.add_mul, below, Int.one_mul]
      rw [e, above]; omega
  · unfold roundDivNat roundDiv; dsimp only
    rw [← Int.natCast_ediv, ← Int.natCast_emod]
    repeat' split
    all_goals omega
  · have := Nat.div_add_mod (n + d - 1) d
    have := Nat.mod_lt (n + d - 1) pos
    rw [ceilDiv, Nat.mul_comm]; omega

/-! ## Profiles -/

theorem curveOk_iff (r0 r1 r2 r3 : Nat) : curveOk r0 r1 r2 r3 = true ↔ r0 ≤ r1 ∧ r1 ≤ r2 ∧ r2 ≤ r3 ∧ r3 ≤ 400 := by
  simp [curveOk, and_assoc]

/-- The constraints of R47. -/
theorem Profile.ok_iff (p : Profile) : p.ok = true ↔
    (100 ≤ p.s0 ∧ p.s0 < p.s1 ∧ p.s1 < p.s2 ∧ p.s2 < p.s3 ∧ p.s3 ≤ 4000) ∧
      (p.m0 ≤ p.m1 ∧ p.m1 ≤ p.m2 ∧ p.m2 ≤ p.m3 ∧ p.m3 ≤ 400) ∧ (p.a0 ≤ p.a1 ∧ p.a1 ≤ p.a2 ∧ p.a2 ≤ p.a3 ∧ p.a3 ≤ 400) ∧
      p.s0 ≤ p.maxSweep ∧ p.maxSweep ≤ 4000 ∧ p.fanRpm ≤ 4000 ∧ ∀ i, p.dose.get i ≤ 500 := by
  have doses : (∀ i, p.dose.get i ≤ 500) ↔ p.dose.b0 ≤ 500 ∧ p.dose.b1 ≤ 500 ∧ p.dose.b2 ≤ 500 ∧ p.dose.b3 ≤ 500 :=
    ⟨fun h => ⟨h .b0, h .b1, h .b2, h .b3⟩, fun ⟨h0, h1, h2, h3⟩ i => by cases i <;> assumption⟩
  rw [doses]
  simp only [Profile.ok, Bool.and_eq_true, decide_eq_true_eq, curveOk_iff, and_assoc]

theorem State.profileInUse_iff (s : State) (i : Fin 8) : s.profileInUse i = true ↔
    (s.pft.active = i ∧ (s.pft.profiles.get i).valid = true) ∨
      ∃ k : Fin 32, (s.sge.ring.get k).owner = .engine ∧ (s.sge.ring.get k).request.settings.profile = i := by
  rw [State.profileInUse, Bool.or_eq_true, Bool.and_eq_true, beq_iff_eq, Sge.names, List.any_eq_true]
  refine or_congr Iff.rfl ⟨?_, ?_⟩
  · rintro ⟨d, there, h⟩
    obtain ⟨k, short, rfl⟩ := Vector.getElem_of_mem (Vector.mem_toList_iff.mp there)
    exact ⟨⟨k, short⟩, by simpa [Vector.get] using h⟩
  · rintro ⟨k, owner, profile⟩
    refine ⟨s.sge.ring.get k, ?_, by simp [owner, profile]⟩
    simp [Vector.get]

/-- Settles O32. -/
theorem profileCommands : Obligations.ProfileCommands := by
  intro s f pair p hpair hp
  have written : writtenProfile f = p := by
    have at_ (k : Nat) : pairAt (f.payload.drop 1) k = pair k := by
      have drop (j : Nat) : (f.payload.drop 1).getD j 0 = f.payload.getD (j + 1) 0 := by simp
      rw [hpair, pairAt, pair12, drop, drop, drop]
    rw [hp, writtenProfile, profileOf]
    simp only [at_]
  have named (i : Fin 8) (h : (f.payload.getD 0 0).toNat = i.val) : profileIndexOf (f.payload.getD 0 0) = some i :=
    (profileIndexOf_eq_some _ _).mpr h
  refine ⟨by rw [hp], fun heard busy => ?_, fun high idle heard => ?_, fun i hi idle heard => ⟨?_, ?_, ?_⟩,
    fun high heard => ?_, fun i t hi heard ht => ⟨?_, ?_, ?_⟩, p.ok_iff, s.profileInUse_iff, fun i b hb => ⟨?_, ?_⟩⟩
  · exact exec_replied .profileSelect heard (by rw [blockOf, profileSelectBody, State.atBlock_sge, if_pos busy])
  · refine exec_replied .profileSelect heard ?_
    rw [blockOf, profileSelectBody, State.atBlock_sge, if_neg (not_not.mpr idle), (profileIndexOf_eq_none _).mpr high]
  · intro invalid
    refine exec_replied .profileSelect heard ?_
    rw [blockOf, profileSelectBody, State.atBlock_sge, if_neg (not_not.mpr idle), named i hi]
    exact if_neg (by simp [invalid])
  · intro valid active
    refine exec_replied .profileSelect heard ?_
    rw [blockOf, profileSelectBody, State.atBlock_sge, if_neg (not_not.mpr idle), named i hi]
    refine (if_pos valid).trans ?_
    rw [State.activateProfile, State.atBlock_pft, if_pos active]
  · intro valid other
    refine exec_replied .profileSelect heard ?_
    rw [blockOf, profileSelectBody, State.atBlock_sge, if_neg (not_not.mpr idle), named i hi]
    refine (if_pos valid).trans ?_
    rw [State.activateProfile, State.atBlock_pft, if_neg other]
  · exact exec_replied .profileWrite heard (by rw [blockOf, profileWriteBody, (profileIndexOf_eq_none _).mpr high])
  · intro used
    refine exec_replied .profileWrite heard ?_
    rw [blockOf, profileWriteBody, named i hi]
    exact if_pos used
  · intro free bad
    refine exec_replied .profileWrite heard ?_
    rw [blockOf, profileWriteBody, named i hi, written]
    exact (if_neg (by simpa [State.profileInUse] using free)).trans (if_neg (by simp [bad]))
  · intro free good
    refine exec_replied .profileWrite heard ?_
    rw [blockOf, profileWriteBody, named i hi, written]
    refine (if_neg (by simpa [State.profileInUse] using free)).trans ((if_pos good).trans ?_)
    rw [ht, State.storeProfile, State.atBlock_pft]
  · intro changes
    rw [State.profilePublished, PerBank.get_map, ← hb, Bank.withProfile, if_pos changes]
  · intro stays
    rw [State.profilePublished, PerBank.get_map, ← hb, Bank.withProfile, if_neg]
    rintro ⟨none, ne⟩
    exact stays.elim (fun h => h none) ne

end Sys2Proof.Machine

/-! PROOF. The Travel Governor (Chapter 4) and the Claim Table (Chapter 6): O33 to O36. -/

namespace Sys2Proof.Machine

/-! ## TRAVEL_REQ (R61, R62) -/

theorem transact_replied {c : Cmd} {f : Frame} {s t : State} {st : Status} {body : State → Done} (heard : s.hears c f)
    (block : body (s.atBlock f) = t.done st) : s.transact c f body = t.replied f c st := by
  rw [transact_of_hears _ heard, block, done_answer]

theorem State.modeMax_eq (s : State) (m : TravelMode) : s.modeMax m = (match m with
    | .parked => 0
    | .sweep => (match s.tgv.segCap with
      | some c => min s.profile.maxSweep c
      | none => s.profile.maxSweep)
    | .transport => s.params.transportMax) := by cases m <;> rfl

theorem State.equipmentOut_iff (s : State) : s.equipmentOut = true ↔ s.sge.state ≠ .idle ∨ s.arc.left.state ≠ .stowed ∨
    s.arc.right.state ≠ .stowed ∨ s.arc.pickup.state ≠ .up := by
  simp only [State.equipmentOut, Bool.or_eq_true, bne_iff_ne, or_assoc]

theorem awaiting_eq (b : Bool) (v : Nat) : (b && decide (v ≠ 0)) = if v = 0 then false else b := by
  split <;> simp [*]

/-- Settles O33: the tests of R61 one after another, each by the first clause that it decides. -/
theorem travelRequests : Obligations.TravelRequests := by
  intro s f heard
  refine ⟨fun bad => ?_, fun m d v top hm hd hv htop => ?_⟩
  · refine exec_replied .travelReq heard ?_
    rw [blockOf, travelReqBody]
    rcases bad with bad | bad
    · rw [(modeOf_eq_none _).mpr bad]
    · rw [(directionOf_eq_none _).mpr bad]
      split
      · next h => cases h
      · rfl
  · have speed : travelSpeedOf f = v := hv.symm
    have max : (s.atBlock f).modeMax m = top := by rw [htop, State.modeMax_eq]; rfl
    have refused {st : Status} (test : s.travelRefusal m v = some st) :
        exec (.travelReq f) s = .next ((s.atBlock f).replied f .travelReq st) := by
      refine exec_replied .travelReq heard ?_
      have test : (s.atBlock f).travelRefusal m v = some st := test
      rw [blockOf, travelReqBody, hm, hd]; dsimp only
      rw [speed, test]
    by_cases zero : s.tgv.awaitingZero = true ∧ v ≠ 0
    · rw [if_pos zero]; exact refused (by rw [State.travelRefusal, if_pos zero])
    rw [if_neg zero]
    by_cases moving : m ≠ s.tgv.mode ∧ s.tgv.commandedSpeed ≠ 0
    · rw [if_pos moving]; exact refused (by rw [State.travelRefusal, if_neg zero, if_pos moving])
    rw [if_neg moving]
    have invalid : (m = .sweep ∧ (!s.profile.valid) = true) ↔ (m = .sweep ∧ s.profile.valid = false) := by
      rw [Bool.not_eq_true']
    by_cases sweep : m = .sweep ∧ s.profile.valid = false
    · rw [if_pos sweep]
      exact refused (by rw [State.travelRefusal, if_neg zero, if_neg moving, if_pos (invalid.mpr sweep)])
    rw [if_neg sweep]
    have equipment : (m = .transport ∧ s.tgv.mode ≠ .transport ∧ s.equipmentOut = true) ↔ _ :=
      and_congr_right' (and_congr_right' s.equipmentOut_iff)
    by_cases out : m = .transport ∧ s.tgv.mode ≠ .transport ∧ s.equipmentOut = true
    · rw [if_pos (equipment.mp out)]
      exact refused (by rw [State.travelRefusal, if_neg zero, if_neg moving, if_neg (mt invalid.mp sweep), if_pos out])
    rw [if_neg (mt equipment.mpr out)]
    have test : (s.atBlock f).travelRefusal m v = none := by
      show s.travelRefusal m v = none
      rw [State.travelRefusal, if_neg zero, if_neg moving, if_neg (mt invalid.mp sweep), if_neg out]
    have awaiting := awaiting_eq s.tgv.awaitingZero v
    refine exec_replied .travelReq heard ?_
    rw [blockOf, travelReqBody, hm, hd]; dsimp only
    rw [speed, test, max, ← awaiting, ← max]
    rfl

/-! ## The travel update (R63 to R72) -/

theorem State.raises_travelStages (s : State) : s.Raises s.travelStages :=
  ((State.Raises.publishLane _ _ _).trans (State.Raises.raiseClamp _ _ _ _)).after rfl rfl

/-- The TRAC lane after an update (R68, R69). -/
theorem State.travelStages_trac (s : State) : s.travelStages.pba.lane .trac =
    ((({ s.pba.lane .trac with req := { s.tracReq with
        demand := min s.tracReq.demand 2500, floor := min s.tracReq.floor 2500 } } : Lane).raise .demand
      (decide (2500 < s.tracReq.demand) || decide (2500 < s.tracReq.floor))).raise .level (decide (4095 < s.rawPumpLevel))) := by
  rfl

/-- The demand speed in the words of R65. -/
theorem State.demandSpeed_eq (s : State) : s.demandSpeed =
    min (min s.tgv.reqSpeed (s.modeMax s.tgv.mode)) (match s.arc.cap with
      | some c => if s.tgv.mode = .sweep then c else s.tgv.reqSpeed
      | none => s.tgv.reqSpeed) := by
  unfold State.demandSpeed
  cases s.arc.cap with
  | none => rw [ite_self]; exact (min_eq_left (min_le_left _ _)).symm
  | some c =>
    dsimp only
    split
    · rfl
    · exact (min_eq_left (min_le_left _ _)).symm

theorem State.stopCause_iff (s : State) : s.stopCause = true ↔ s.stopin = true ∨ s.tgv.stopRequest = true ∨
    s.ports.cab.link = .silent ∨ s.ports.cab.inReset = true ∨
      (s.tgv.reqDirection ≠ s.tgv.direction ∧ 0 < s.tgv.commandedSpeed) := by
  simp only [State.stopCause, State.cabDown, Tgv.reversalPending, Bool.or_eq_true, Bool.and_eq_true, beq_iff_eq,
    decide_eq_true_eq, or_assoc]

theorem capped_eq (v : Nat) (c : Option Nat) : capped v c = min v (c.getD v) := by
  cases c with
  | none => exact (min_self v).symm
  | some c => rfl

theorem State.stopIsComplete_iff (s : State) : s.stopIsComplete = true ↔ s.tgv.stopRequest = true ∧
    s.tgv.stopReported = false ∧ s.tgv.commandedSpeed = 0 ∧ s.measured = 0 := by
  simp only [State.stopIsComplete, Bool.and_eq_true, Bool.not_eq_true', decide_eq_true_eq, and_assoc]

/-- The report of a stop posts the end of a segment and of the program, and no other kind (R144, R154). -/
theorem State.posts_stopComplete (s : State) : s.Posts Notice.ofProgram s.stopComplete := by
  unfold State.stopComplete
  dsimp only
  split
  · exact (State.Posts.of_postAllIf (k := .segDone) (on := true) rfl rfl).trans
      (.of_postAllIf (k := .pgmEnd) (on := true) rfl rfl)
  · exact .of_ports rfl

/-- The report of a stop to a program that is STOPPING. -/
theorem State.stopComplete_stopping {s : State} (stopping : s.sge.state = .stopping) : s.stopComplete =
    (({ s with tgv := { s.tgv with stopReported := true } } : State).writeback .done).programEnd .stop := if_pos stopping

theorem State.stopComplete_other {s : State} (other : s.sge.state ≠ .stopping) :
    s.stopComplete = { s with tgv := { s.tgv with stopReported := true } } := if_neg other

theorem State.posts_travelTick (s : State) : s.travelStages.Posts Notice.ofProgram s.travelTick := by
  unfold State.travelTick
  dsimp only
  split
  · exact State.posts_stopComplete _
  · exact .refl _

theorem State.travelTick_pba (s : State) : s.travelTick.pba = s.travelStages.pba := by
  unfold State.travelTick
  dsimp only
  split
  · exact State.stopComplete_pba _
  · rfl

theorem State.travelTick_complete {s : State} (complete : s.travelStages.stopIsComplete = true) :
    s.travelTick = s.travelStages.stopComplete := if_pos complete

theorem State.travelTick_going {s : State} (going : ¬ s.travelStages.stopIsComplete = true) :
    s.travelTick = s.travelStages := if_neg going

theorem ring_get_set_same (v : Vector Descriptor 32) (i : Fin 32) (d : Descriptor) :
    (v.set i.val d i.isLt).get i = d := by
  simp only [Vector.get_eq_getElem, Vector.getElem_set_self]

theorem ring_get_set_other (v : Vector Descriptor 32) {i j : Fin 32} (d : Descriptor) (ne : j ≠ i) :
    (v.set i.val d i.isLt).get j = v.get j := by
  simp only [Vector.get_eq_getElem]
  exact Vector.getElem_set_ne _ _ fun e => ne (Fin.ext e.symm)

theorem Pba.setLane_setLane (b : Pba) (l : LaneId) (x y : Lane) : (b.setLane l x).setLane l y = b.setLane l y := by
  cases l <;> rfl

theorem trac_any {b c : Pba} (other : ∀ {l}, l ≠ LaneId.trac → b.lane l = c.lane l)
    (flow : (b.lane .trac).flowClamp = (c.lane .trac).flowClamp) :
    (lanesUp.any fun l => (b.lane l).demandClamp && !(c.lane l).demandClamp ||
      (b.lane l).flowClamp && !(c.lane l).flowClamp || (b.lane l).levelClamp && !(c.lane l).levelClamp) =
    ((b.lane .trac).demandClamp && !(c.lane .trac).demandClamp || (b.lane .trac).levelClamp && !(c.lane .trac).levelClamp) := by
  simp only [lanesUp, List.any_cons, List.any_nil, flow, other (l := .main) (by decide), other (l := .fan) (by decide),
    other (l := .arml) (by decide), other (l := .armr) (by decide), other (l := .spry) (by decide), Bool.and_not_self,
    Bool.or_false]

/-- Settles O34: each stage of the update in the words of the rules, then the report of a complete stop. -/
theorem travelUpdateDrives : Obligations.TravelUpdateDrives := by
  intro s g dem tgt cmd raw dir cap stop done hg hdem hcap hstop hstopped hgoing hcmd hdir hraw hdone
  have dem_eq : s.demandSpeed = dem := by subst hg; exact (State.demandSpeed_eq s).trans hdem.symm
  have cap_eq : s.tractionCap = cap := hcap ▸ rfl
  have tgt_eq : s.targetSpeed = tgt := by
    have stands : s.stopCause = true ↔ stop := by rw [State.stopCause_iff, hstop, hg]
    unfold State.targetSpeed
    rw [dem_eq, cap_eq, capped_eq]
    by_cases h : stop
    · rw [if_pos (stands.mpr h), hstopped h]
    · rw [if_neg (mt stands.mp h), hgoing h]
  subst hg
  have cmd_eq : s.nextCommanded = cmd := by rw [hcmd, ← tgt_eq]; rfl
  have raw_eq : s.rawPumpLevel = raw := by
    rw [hraw, ← cmd_eq]
    unfold State.rawPumpLevel pumpFullScale
    cases s.tgv.mode <;> rfl
  have record : s.updatedTgv = { s.tgv with
      direction := dir
      demandSpeed := dem
      tractionCap := cap
      brushCapRead := s.arc.cap
      targetSpeed := tgt
      commandedSpeed := cmd
      pumpFwd := if dir = .fwd then min raw 4095 else 0
      pumpRev := if dir = .rev then min raw 4095 else 0
      motor := match s.tgv.mode with
        | .parked => 0
        | .sweep => s.params.sweepMotor
        | .transport => s.params.transportMotor
      updateTimer := some 10 } := by
    subst hdir; rw [← dem_eq, ← cap_eq, ← tgt_eq, ← cmd_eq, ← raw_eq]
    unfold State.updatedTgv State.motorLevel
    cases s.tgv.mode <;> rfl
  have tgv_eq : s.travelStages.tgv = s.updatedTgv := rfl
  have complete : s.travelStages.stopIsComplete = true ↔ done := by
    rw [State.stopIsComplete_iff, hdone, State.travelStages_measured, tgv_eq, record]
  have other {l : LaneId} (h : l ≠ .trac) : s.travelStages.pba.lane l = s.pba.lane l :=
    (Pba.lane_setLane _ _ _ _).trans ((if_neg h).trans ((Pba.lane_setLane _ _ _ _).trans (if_neg h)))
  have request : s.tracReq = if s.tgv.mode = .parked then LaneReq.inactive else
      { active := true
        demand := ceilDiv (min dem (cmd + s.params.upRamp / 10) * s.params.ktrac) 1000
        floor := s.params.tractionFloor
        flow := 0 } := by
    rw [State.tracReq, State.lookAhead, dem_eq, cmd_eq]
  refine ⟨fun wait => congrArg _ (if_neg (mt (Timer.ranOut_iff _).mp wait)), fun due =>
    ⟨s.travelTick, s.updatedTgv, congrArg _ (if_pos ((Timer.ranOut_iff _).mpr due)), record, ?_⟩⟩
  rw [State.travelTick_pba]
  have lane := s.travelStages_trac
  have level : (s.travelStages.pba.lane .trac).levelClamp = ((s.pba.lane .trac).levelClamp || decide (4095 < raw)) := by
    rw [lane, ← raw_eq]
    exact (Lane.raise_clamp _ .level .level _).trans (by rw [decide_eq_true rfl, Bool.and_true]; rfl)
  have flow : (s.travelStages.pba.lane .trac).flowClamp = (s.pba.lane .trac).flowClamp := by rw [lane]; rfl
  refine ⟨?_, level, ?_, flow, fun p => ?_, ?_, by rw [lane]; rfl, State.travelTick_arc s, State.travelTick_spc s,
    State.travelTick_ctu s, State.travelTick_cfs s, State.travelTick_pft s, fun going => ?_, fun ends running => ?_,
    fun ends stopping => ?_⟩
  · have req : (s.travelStages.pba.lane .trac).req =
        { s.tracReq with demand := min s.tracReq.demand 2500, floor := min s.tracReq.floor 2500 } := by rw [lane]; rfl
    rw [req, request]
    split
    · rfl
    · rw [min_comm 2500, min_comm 2500]
  · have demand : (s.travelStages.pba.lane .trac).demandClamp = ((s.pba.lane .trac).demandClamp ||
        (decide (2500 < s.tracReq.demand) || decide (2500 < s.tracReq.floor))) := by
      rw [lane]
      exact (Lane.raise_clamp _ .demand .demand _).trans (by rw [decide_eq_true rfl, Bool.and_true]; rfl)
    rw [demand, request]
    split
    · next parked => rw [parked]; rfl
    · next driven => rw [bne_iff_ne.mpr driven, Bool.true_and]
  · rw [(State.posts_travelTick s).only rfl, s.raises_travelStages.notice_eq, trac_any other flow, ← Bool.or_assoc]
  · exact Pba.setLane_setLane _ _ _ _
  · have same := State.travelTick_going (mt complete.mp going)
    rw [same]
    exact ⟨rfl, rfl, rfl⟩
  · rw [State.travelTick_complete (complete.mpr ends), State.stopComplete_other (s := s.travelStages) running]
    exact ⟨rfl, rfl, rfl⟩
  · obtain ⟨asked, -, -, -⟩ := hdone.mp ends
    rw [State.travelTick_complete (complete.mpr ends), State.stopComplete_stopping (s := s.travelStages) stopping]
    refine ⟨if_pos ⟨asked, rfl⟩, rfl, rfl, rfl, rfl, rfl, ring_get_set_same _ _ _, fun i ne => ring_get_set_other _ _ ne,
      rfl, fun p => ⟨?_, ?_⟩⟩
    · rw [State.programEnd, State.post_port, Port.postIf_hasNotice_other _ _ (by decide)]
      exact (congrArg (Port.hasNotice · .segDone) (State.post_port _ .segDone p)).trans
        (by rw [Port.postIf_hasNotice_same, Bool.or_true])
    · rw [State.programEnd, State.post_port, Port.postIf_hasNotice_same, Bool.or_true]

/-! ## CLAIM, TAKE, RELEASE (R103 to R105) -/

theorem State.setClaim_get (s : State) (r : Resource) : s.setClaim r (s.clt.get r) = s := by cases r <;> rfl

theorem State.setClaim_clt_get (s : State) (r : Resource) (e : Claim) : (s.setClaim r e).clt.get r = e :=
  (PerResource.get_set _ _ _ _).trans (if_pos rfl)

/-- A return event to a resource that the program holds again (R152). -/
theorem State.returnEvent_settings {s : State} {r : Resource} {st : Settings} (held : (s.clt.get r).holder = .program)
    (inForce : s.sge.settings = some st)
    (open' : s.sge.state = .running ∨ s.sge.state = .starved ∨ s.sge.state = .suspended) :
    s.returnEvent r = s.applySetting r st := by
  have apply : s.applyHeld st r = s.applySetting r st := if_pos held
  unfold State.returnEvent
  obtain h | h | h := open' <;> rw [h, inForce] <;> exact apply

theorem State.returnEvent_stopping {s : State} {r : Resource} (held : (s.clt.get r).holder = .program)
    (stopping : s.sge.state = .stopping) : s.returnEvent r = s.stopResource r := by
  unfold State.returnEvent
  rw [stopping]
  exact if_pos held

/-- Settles O35, by the condition of the entry. -/
theorem claimCommands : Obligations.ClaimCommands := by
  intro s f
  refine ⟨fun r e named he => ⟨fun heard => ?_, fun heard => ?_, fun heard => ?_⟩,
    fun high => ⟨fun heard => ?_, fun heard => ?_, fun heard => ?_⟩⟩
  case refine_4 =>
    exact exec_replied .claim heard (forResource_of_none ((resourceOf_eq_none _).mpr high))
  case refine_5 =>
    exact exec_replied .take heard (forResource_of_none ((resourceOf_eq_none _).mpr high))
  case refine_6 =>
    exact exec_replied .release heard (forResource_of_none ((resourceOf_eq_none _).mpr high))
  case refine_1 =>
    refine exec_replied .claim heard ((forResource_of_some named).trans ?_)
    rw [State.atBlock_clt, ← he]
    cases e <;> rfl
  case refine_2 =>
    refine exec_replied .take heard ((forResource_of_some named).trans ?_)
    rw [State.atBlock_clt, ← he, State.atBlock_sge, ite_and]
    cases e <;> rfl
  case refine_3 =>
    have body {t : State} {st : Status} (block : (if (s.clt.get r) = .lent then
        ((s.atBlock f).setClaim r (s.clt.get r).released.1).returnEvent r
          else (s.atBlock f).setClaim r (s.clt.get r).released.1).done (s.clt.get r).released.2 = t.done st) :
        exec (.release f) s = .next (t.replied f .release st) :=
      exec_replied .release heard ((forResource_of_some named).trans block)
    have kept : (s.atBlock f).setClaim r e = s.atBlock f := he ▸ (s.atBlock f).setClaim_get r
    rw [← he] at body
    have again : (((s.atBlock f).setClaim r .program).clt.get r).holder = .program := by
      rw [State.setClaim_clt_get]; rfl
    refine ⟨fun idle => body ?_, fun cab => body ?_, fun st lent inForce going => body ?_, fun lent stopping => body ?_⟩
    · obtain free | program := idle
      · subst free; exact congrArg (State.done · .claimed) kept
      · subst program; exact congrArg (State.done · .claimed) kept
    · subst cab; rfl
    · subst lent
      exact congrArg (State.done · .ok) (State.returnEvent_settings again inForce going)
    · subst lent
      exact congrArg (State.done · .ok) (State.returnEvent_stopping again stopping)

/-! ## The claim test (R106) -/

/-- The three ARM_SET rows are one request (log entry 24). -/
theorem exec_armSet {f : Frame} {s t : State} {st : Status} (heard : s.hears .armSet f)
    (block : armSetBody f (s.atBlock f) = t.done st) :
    exec (.armSetDeploy f) s = .next (t.replied f .armSet st) ∧ exec (.armSetRetarget f) s = .next (t.replied f .armSet st) ∧
      exec (.armSetStow f) s = .next (t.replied f .armSet st) := by
  have sent := transact_replied heard block
  exact ⟨congrArg _ sent, congrArg _ sent, congrArg _ sent⟩

/-- The two PICKUP_SET rows are one request (log entry 24). -/
theorem exec_pickupSet {f : Frame} {s t : State} {st : Status} (heard : s.hears .pickupSet f)
    (block : pickupSetBody f (s.atBlock f) = t.done st) :
    exec (.pickupSetWork f) s = .next (t.replied f .pickupSet st) ∧
      exec (.pickupSetUp f) s = .next (t.replied f .pickupSet st) := by
  have sent := transact_replied heard block
  exact ⟨congrArg _ sent, congrArg _ sent⟩

/-- Settles O36. -/
theorem gatedRequestsNeedClaim : Obligations.GatedRequestsNeedClaim := by
  intro s f
  refine ⟨fun side named free => ?_, fun high => ?_, fun free heard => ?_, fun free heard => ?_, fun e => ?_⟩
  case refine_5 => cases e <;> decide
  · have claimed {act : Side → Done} : forArm f (s.atBlock f) act = (s.atBlock f).done .claimed :=
      (forArm_of_some named).trans (gated_of_not_cab free)
    exact ⟨fun heard => exec_armSet heard claimed, fun heard => exec_replied .armClear heard claimed⟩
  · have none {act : Side → Done} : forArm f (s.atBlock f) act = (s.atBlock f).done .range :=
      forArm_of_none ((sideOf_eq_none _).mpr high)
    exact ⟨fun heard => exec_armSet heard none, fun heard => exec_replied .armClear heard none⟩
  · exact exec_pickupSet heard (gated_of_not_cab (r := .pickup) free)
  · exact exec_replied .spraySet heard (gated_of_not_cab (r := .spray) free)

end Sys2Proof.Machine

/-! PROOF. The requests to arms and pickup, their switches and move timers (sections 5.2 to 5.6): O37 to O39. -/

namespace Sys2Proof.Machine

/-! ## Movements in the words of the statements -/

@[simp] theorem State.refreshIf_false (s : State) : s.refreshIf false = s := rfl

theorem State.liftArm_eq (s : State) (side : Side) (c : Cause) : s.liftArm side c =
    ((s.publishLane (armLane side) LaneReq.inactive).setArm side ((s.arm side).lifted c s.params.moveTimeout)).refreshIf
      ((s.arm side).state == .working) := by
  rw [State.liftArm, State.putArm, State.publishLane_arm]
  exact congrArg _ (Bool.false_xor _)

theorem State.faultArm_eq (s : State) (side : Side) (c : Cause) : s.faultArm side c =
    (((s.publishLane (armLane side) LaneReq.inactive).setArm side ((s.arm side).faulted c)).refreshIf
      ((s.arm side).state == .working)).post .armFault := by
  rw [State.faultArm, State.putArm, State.publishLane_arm]
  exact congrArg (State.post · .armFault) (congrArg _ (Bool.false_xor _))

/-! ## ARM_SET and ARM_CLEAR (R78 to R81) -/

theorem armActionOf_eq_none (b : Byte) : armActionOf b = none ↔ 3 ≤ b.toNat := by
  unfold armActionOf
  split <;> simp_all
  omega

theorem armSetBody_of_action {f : Frame} {t : State} {side : Side} {action : ArmAction}
    (named : sideOf (f.payload.getD 0 0) = some side) (held : (t.clt.get (armResource side)).holder = .cab)
    (act : armActionOf (f.payload.getD 1 0) = some action) : armSetBody f t = armAct t side action (armAngleOf f) := by
  rw [armSetBody, forArm_of_some named, gated_of_cab held, act]

section deploy

variable {s : State} {side : Side} {angle : Option Int} (free : ¬(s.stopin = true ∨ s.tgv.mode = .transport))
include free

theorem State.armDeploy_stowed (stowed : (s.arm side).state = .stowed) : s.armDeploy side angle =
    if s.armHomed side then
      (s.setArm side { s.arm side with
        slewTarget := slewTargetFor s.params (s.arm side).slewTarget angle, state := .deploying, phase := .slew,
        moveTimer := some s.params.moveTimeout }, slewStatus s.params (s.arm side).slewTarget angle)
    else
      (s.setArm side { s.arm side with
        slewTarget := slewTargetFor s.params (s.arm side).slewTarget angle, deployPending := true, state := .homing,
        moveTimer := some s.params.moveTimeout }, slewStatus s.params (s.arm side).slewTarget angle) := by
  unfold State.armDeploy; dsimp only; rw [if_neg free, stowed]

theorem State.armDeploy_homing (homing : (s.arm side).state = .homing) : s.armDeploy side angle =
    (s.setArm side { s.arm side with
      slewTarget := slewTargetFor s.params (s.arm side).slewTarget angle, deployPending := true },
      slewStatus s.params (s.arm side).slewTarget angle) := by
  unfold State.armDeploy; dsimp only; rw [if_neg free, homing]

theorem State.armDeploy_moving (out : (s.arm side).state = .deploying ∨ (s.arm side).state = .working) :
    s.armDeploy side angle = (match angle with
      | none => (s, .ok)
      | some x => s.armRetarget side x) := by
  unfold State.armDeploy; dsimp only; rw [if_neg free]
  obtain h | h := out <;> rw [h] <;> rfl

theorem State.armDeploy_shut (shut : (s.arm side).state = .lifting ∨ (s.arm side).state = .fault) :
    s.armDeploy side angle = (s, .state) := by
  unfold State.armDeploy; dsimp only; rw [if_neg free]
  obtain h | h := shut <;> rw [h]

end deploy

/-- Settles O37: by the action of the request, then by the state of the arm. -/
theorem armRequests : Obligations.ArmRequests := by
  intro s f side a angle raw target st up named held ha hangle hraw htarget hst hup
  have target_eq : slewTargetFor s.params a.slewTarget angle = target := by rw [htarget, hraw]; rfl
  have status_eq : slewStatus s.params a.slewTarget angle = st := by rw [hst, htarget, hraw]; rfl
  subst target_eq status_eq
  have lift : (s.atBlock f).liftArm side .command = up := by rw [hup, ha]; exact State.liftArm_eq _ _ _
  have arm : (s.atBlock f).arm side = a := ha.symm
  have block {action : ArmAction} {d : Done} (act : armActionOf (f.payload.getD 1 0) = some action)
      (does : armAct (s.atBlock f) side action angle = d) : armSetBody f (s.atBlock f) = d := by
    rw [armSetBody_of_action (t := s.atBlock f) named held act, ← does, hangle]; rfl
  have retarget {x : Int} (out : a.state = .deploying ∨ a.state = .working) :
      (s.atBlock f).armRetarget side x = ((s.atBlock f).setArm side { a with slewTarget := slewTargetFor s.params a.slewTarget (some x) },
        slewStatus s.params a.slewTarget (some x)) := by
    subst ha; exact if_pos out
  refine ⟨fun heard high => exec_armSet heard ?_, fun heard code => ?_, fun heard code => ?_, fun heard code => ?_,
    fun heard => ?_⟩
  · rw [armSetBody, forArm_of_some named, gated_of_cab (t := s.atBlock f) held, (armActionOf_eq_none _).mpr high]
  · have act : armActionOf (f.payload.getD 1 0) = some .deploy := by rw [armActionOf, code]; rfl
    have deploy {t : State} {st : Status} (does : (s.atBlock f).armDeploy side angle = (t, st)) :
        exec (.armSetDeploy f) s = .next (t.replied f .armSet st) :=
      (exec_armSet heard (block act (congrArg doneOf does))).1
    refine ⟨fun barred => deploy ?_, fun free road => ?_⟩
    · exact if_pos barred
    have open' : ¬((s.atBlock f).stopin = true ∨ (s.atBlock f).tgv.mode = .transport) := by
      rintro (h | h)
      · exact absurd (h.symm.trans free) (by decide)
      · exact road h
    refine ⟨fun stowed homed => deploy ?_, fun stowed unhomed => deploy ?_, fun homing => deploy ?_, fun moving => ?_,
      fun shut => deploy ?_⟩
    · have unfolded := State.armDeploy_stowed (angle := angle) open' (arm.symm ▸ stowed)
      rw [unfolded, if_pos (show (s.atBlock f).armHomed side = true from homed), arm]; rfl
    · have unfolded := State.armDeploy_stowed (angle := angle) open' (arm.symm ▸ stowed)
      rw [unfolded, if_neg (by rw [State.atBlock_armHomed, State.armHomed, unhomed]; decide), arm]; rfl
    · rw [State.armDeploy_homing open' (arm.symm ▸ homing), arm]; rfl
    · have unfolded := State.armDeploy_moving (angle := angle) open' (arm.symm ▸ moving)
      cases angle with
      | none => exact deploy unfolded
      | some x => exact deploy (unfolded.trans (retarget moving))
    · exact State.armDeploy_shut open' (arm.symm ▸ shut)
  · have act : armActionOf (f.payload.getD 1 0) = some .retarget := by rw [armActionOf, code]; rfl
    refine ⟨fun none => (exec_armSet heard (block act ?_)).2.1, fun given out => (exec_armSet heard (block act ?_)).2.1,
      fun given a1 a2 => (exec_armSet heard (block act ?_)).2.1⟩
    · subst none; rfl
    · cases angle with
      | none => exact absurd rfl given
      | some x => exact congrArg doneOf (retarget out)
    · cases angle with
      | none => exact absurd rfl given
      | some x =>
        subst ha
        exact congrArg doneOf (if_neg fun out => out.elim a1 a2)
  · have act : armActionOf (f.payload.getD 1 0) = some .stow := by rw [armActionOf, code]; rfl
    have stow {t : State} {st : Status} (does : (s.atBlock f).armStow side .command = (t, st)) :
        exec (.armSetStow f) s = .next (t.replied f .armSet st) :=
      (exec_armSet heard (block act (congrArg doneOf does))).2.2
    refine ⟨fun out => stow ?_, fun still => stow ?_, fun fault => stow ?_⟩
    · rw [State.armStow, arm, lift]; obtain h | h | h := out <;> rw [h]
    · rw [State.armStow, arm]; obtain h | h := still <;> rw [h]
    · rw [State.armStow, arm, fault]
  · have cleared {t : State} {st : Status} (does : (s.atBlock f).armClear side = (t, st)) :
        exec (.armClear f) s = .next (t.replied f .armClear st) :=
      exec_replied .armClear heard
        ((forArm_of_some named).trans ((gated_of_cab (t := s.atBlock f) held).trans (congrArg doneOf does)))
    subst ha
    refine ⟨fun still => cleared (if_pos still), fun fault upSw downSw => cleared ?_, fun fault upSw => cleared ?_⟩
    · have may : ¬((s.arm side).state ≠ .fault ∨ (s.arm side).upSw = true ∧ (s.arm side).downSw = true) := by
        rw [fault, downSw]; simp
      exact (if_neg may).trans (if_pos upSw)
    · have may : ¬((s.arm side).state ≠ .fault ∨ (s.arm side).upSw = true ∧ (s.arm side).downSw = true) := by
        rw [fault, upSw]; simp
      exact (if_neg may).trans ((if_neg (by rw [State.atBlock_arm, upSw]; decide)).trans (congrArg (·, Status.ok) lift))

/-! ## PICKUP_SET (R95) -/

theorem Pickup.raised_working (u : Pickup) (c : Cause) (timeout : Nat) :
    ((u.raised c timeout).state == .working) = false := by
  unfold Pickup.raised
  cases u.upSw <;> rfl

theorem Pickup.lowered_working (u : Pickup) (timeout : Nat) : ((u.lowered timeout).state == .working) = u.downSw := by
  unfold Pickup.lowered
  cases u.downSw <;> rfl

/-- The entry into RAISING in the words of the statement (R96). -/
theorem State.raisePickup_eq (s : State) (c : Cause) : s.raisePickup c = State.refreshIf
    { s.pickupLanesOff with arc := { s.arc with pickup := s.arc.pickup.raised c s.params.moveTimeout } }
    (s.arc.pickup.state == .working) := by
  unfold State.raisePickup State.putPickup
  rw [Pickup.raised_working, Bool.false_bne]
  rfl

/-- The entry into LOWERING in the words of the statement (R96). -/
theorem State.lowerPickup_eq {s : State} (up : s.arc.pickup.state = .up) :
    s.putPickup (s.arc.pickup.lowered s.params.moveTimeout) = State.refreshIf
      { s with arc := { s.arc with pickup := s.arc.pickup.lowered s.params.moveTimeout } } s.arc.pickup.downSw := by
  unfold State.putPickup
  rw [Pickup.lowered_working, up]
  exact congrArg _ (Bool.bne_false _)

theorem pickupActionOf_eq_none (b : Byte) : pickupActionOf b = none ↔ 2 ≤ b.toNat := by
  unfold pickupActionOf
  split <;> simp_all
  omega

/-- Settles O38: by the action of the request, then by the state of the pickup. -/
theorem pickupRequests : Obligations.PickupRequests := by
  intro s f u down up heard held hu hdown hup
  subst hu
  have body : pickupSetBody f (s.atBlock f) = match pickupActionOf (f.payload.getD 0 0) with
      | none => (s.atBlock f).done .range
      | some .work => doneOf (s.atBlock f).pickupWork
      | some .up => doneOf (s.atBlock f).pickupUp := gated_of_cab held
  have raise : (s.atBlock f).raisePickup .command = up := (State.raisePickup_eq _ _).trans hup.symm
  refine ⟨fun code => ?_, fun code => ?_, fun high => (exec_pickupSet heard ?_).2⟩
  · rw [code] at body
    have work {t : State} {st : Status} (does : (s.atBlock f).pickupWork = (t, st)) :
        exec (.pickupSetWork f) s = .next (t.replied f .pickupSet st) :=
      (exec_pickupSet heard (body.trans (congrArg doneOf does))).1
    refine ⟨fun barred => work (if_pos barred), fun free road => ?_⟩
    have free : ¬((s.atBlock f).stopin = true ∨ (s.atBlock f).tgv.mode = .transport) := by
      rintro (h | h)
      · exact absurd (h.symm.trans free) (by decide)
      · exact road h
    refine ⟨fun h => work ((if_neg free).trans ?_), fun still => work ((if_neg free).trans ?_),
      fun shut => work ((if_neg free).trans ?_)⟩
    · rw [State.atBlock_arc, h]
      exact congrArg (·, Status.ok) ((State.lowerPickup_eq (s := s.atBlock f) h).trans hdown.symm)
    · rw [State.atBlock_arc]; obtain h | h := still <;> rw [h]
    · rw [State.atBlock_arc]; obtain h | h := shut <;> rw [h]
  · rw [code] at body
    have lift {t : State} {st : Status} (does : (s.atBlock f).pickupUp = (t, st)) :
        exec (.pickupSetUp f) s = .next (t.replied f .pickupSet st) :=
      (exec_pickupSet heard (body.trans (congrArg doneOf does))).2
    refine ⟨fun still => lift ?_, fun out => lift ?_, fun fault upSw downSw => lift ?_, fun fault upSw downSw => lift ?_,
      fun fault upSw => lift ?_⟩
    · unfold State.pickupUp; dsimp only
      rw [State.atBlock_arc]; obtain h | h := still <;> rw [h]
    · unfold State.pickupUp; dsimp only
      rw [raise, State.atBlock_arc]; obtain h | h := out <;> rw [h]
    · unfold State.pickupUp; dsimp only
      rw [State.atBlock_arc, fault]
      exact if_pos ⟨upSw, downSw⟩
    · unfold State.pickupUp; dsimp only
      rw [State.atBlock_arc, fault]
      refine (if_neg (by rw [downSw]; simp)).trans ((if_pos upSw).trans ?_)
      rw [State.putPickup, State.atBlock_arc, fault]; rfl
    · unfold State.pickupUp; dsimp only
      rw [State.atBlock_arc, fault, raise]
      exact (if_neg (by rw [upSw]; simp)).trans (if_neg (by rw [upSw]; simp))
  · rw [body, (pickupActionOf_eq_none _).mpr high]

/-! ## Switches and move timers (R85, R87, R89, R90, R96) -/

theorem exec_positionSwitchChange {s : State} {unit : Equip} {sw : SwitchEnd} {active : Bool} (on : s.rstnHeld = false)
    (changed : s.switchLevel unit sw ≠ active) :
    exec (.positionSwitchChange unit sw active) s = .next (s.switchChange unit sw active) :=
  congrArg Host.Outcome.next ((if_neg changed).trans (if_neg (by rw [on]; decide)))

theorem Arm.switchMoves_eq (a : Arm) : a.switchMoves =
    if a.state = .deploying ∧ a.phase = .lower ∧ a.downSw = true then { a with phase := .spinup, liftDown := false }
    else if a.state = .lifting then { a with liftUp := !a.upSw }
    else a := by
  unfold Arm.switchMoves
  cases a.state <;> simp

/-- A fault of an arm whose record has just been replaced. -/
theorem State.faultArm_setArm (s : State) (side : Side) (a : Arm) (c : Cause) : (s.setArm side a).faultArm side c =
    (((s.publishLane (armLane side) LaneReq.inactive).setArm side (a.faulted c)).refreshIf (a.state == .working)).post
      .armFault := by
  rw [State.faultArm_eq, State.arm_setArm_same]
  exact congrArg (fun t => (State.refreshIf t _).post .armFault)
    (State.setArm_setArm (s.publishLane (armLane side) LaneReq.inactive) side a _)

theorem State.faultPickup_eq (s : State) (c : Cause) : s.faultPickup c = (State.refreshIf
    { s.pickupLanesOff with arc := { s.arc with pickup := s.arc.pickup.faulted c } }
    (s.arc.pickup.state == .working)).post .armFault := by
  unfold State.faultPickup State.putPickup
  exact congrArg (fun on => (State.refreshIf _ on).post .armFault) (Bool.false_bne _)

/-- Settles O39: the switches of an arm, its move timer, then the same of the pickup. -/
theorem switchesAndTimeouts : Obligations.SwitchesAndTimeouts := by
  intro s
  refine ⟨fun unit sw active => ⟨fun same => congrArg _ (if_pos same), fun changed held =>
    congrArg _ ((if_neg changed).trans (if_pos held))⟩, fun side unit faulted hunit hfaulted => ⟨fun sw active a on changed ha =>
      ⟨fun both => ?_, fun apart => ?_⟩, fun due moving => ?_, fun still => ?_⟩,
    fun faulted off hfaulted hoff => ⟨fun sw active u on changed hu => ?_, fun due moving => ?_, fun still => ?_⟩⟩
  · have switched : (s.arm side).withSwitch sw active = a := by rw [ha]; cases sw <;> rfl
    have moved : s.armSwitch side sw active =
        (((s.publishLane (armLane side) LaneReq.inactive).setArm side (faulted a .switch)).refreshIf
          (a.state == .working)).post .armFault := by
      rw [State.armSwitch, switched, hfaulted]
      exact (if_pos both).trans (State.faultArm_setArm _ _ _ _)
    rw [exec_positionSwitchChange on changed, ← moved, hunit]
    cases side <;> rfl
  · have switched : (s.arm side).withSwitch sw active = a := by rw [ha]; cases sw <;> rfl
    have may : ¬(a.upSw = true ∧ a.downSw = true ∧ a.state ≠ .fault) := by
      rintro ⟨upSw, downSw, out⟩
      obtain h | h | h := apart
      · rw [upSw] at h; cases h
      · rw [downSw] at h; cases h
      · exact out h
    have moved : s.armSwitch side sw active = s.setArm side a.switchMoves := by
      rw [State.armSwitch, switched]
      exact if_neg may
    rw [exec_positionSwitchChange on changed, ← Arm.switchMoves_eq, ← moved, hunit]
    cases side <;> rfl
  · have ranOut : (s.arm side).moveTimer.ranOut = true := (Timer.ranOut_iff _).mpr due
    have faults : s.armTimeout side =
        ((s.publishLane (armLane side) LaneReq.inactive).setArm side (faulted (s.arm side) .timeout)).post .armFault := by
      unfold State.armTimeout
      rw [State.faultArm_eq, hfaulted]
      obtain h | h | h := moving <;> rw [h] <;> exact if_pos ranOut
    rw [← faults, hunit]
    cases side <;> rfl
  · have stays : s.armTimeout side = s := by
      unfold State.armTimeout
      obtain h | h | h | h := still
      · split
        iterate 3 exact if_neg (mt (Timer.ranOut_iff _).mp h)
        all_goals rfl
      all_goals rw [h]
    refine Eq.trans ?_ (congrArg _ stays)
    rw [hunit]
    cases side <;> rfl
  · have acts := exec_positionSwitchChange on changed
    have switched : (s.arc.pickup.withSwitch sw active) = u := by rw [hu]; cases sw <;> rfl
    have state : s.arc.pickup.state = u.state := by rw [← switched, Pickup.withSwitch_state]
    have pickup : s.pickupSwitch sw active = if u.upSw = true ∧ u.downSw = true ∧ u.state ≠ .fault then
        ({ s with arc := { s.arc with pickup := u } } : State).faultPickup .switch else s.putPickup u.switchMoves := by
      rw [State.pickupSwitch, switched]
    have moves (apart : ¬(u.upSw = true ∧ u.downSw = true ∧ u.state ≠ .fault)) {t : State}
        (put : s.putPickup u.switchMoves = t) : exec (.positionSwitchChange .pickup sw active) s = .next t :=
      acts.trans (congrArg _ (pickup.trans ((if_neg apart).trans put)))
    refine ⟨fun both => ?_, fun lowering upSw downSw => moves ?_ ?_, fun raising upSw downSw => moves ?_ ?_,
      fun lowering downSw => moves ?_ ?_, fun raising upSw => moves ?_ ?_, fun still => moves ?_ ?_⟩
    · refine acts.trans (congrArg _ (pickup.trans ((if_pos both).trans ?_)))
      rw [State.faultPickup_eq, hoff, hfaulted]; rfl
    · rw [upSw]; simp
    · rw [State.putPickup, state, Pickup.switchMoves, lowering]
      dsimp only
      rw [if_pos downSw]; rfl
    · rw [downSw]; simp
    · rw [State.putPickup, state, Pickup.switchMoves, raising]
      dsimp only
      rw [if_pos upSw]; rfl
    · rw [downSw]; simp
    · rw [State.putPickup, state, Pickup.switchMoves, lowering]
      dsimp only
      rw [if_neg (by rw [downSw]; decide)]
      rfl
    · rw [upSw]; simp
    · rw [State.putPickup, state, Pickup.switchMoves, raising]
      dsimp only
      rw [if_neg (by rw [upSw]; decide)]
      rfl
    · rintro ⟨upSw, downSw, out⟩
      obtain h | ⟨-, h | h⟩ := still
      · exact out h
      · rw [upSw] at h; cases h
      · rw [downSw] at h; cases h
    · have same : u.switchMoves = u := by
        unfold Pickup.switchMoves
        obtain h | ⟨h | h, -⟩ := still <;> rw [h]
      rw [State.putPickup, same, state, bne_self_eq_false]; rfl
  · have ranOut : s.arc.pickup.moveTimer.ranOut = true := (Timer.ranOut_iff _).mpr due
    have faults : s.pickupTimeout = State.post
        { off s with arc := { s.arc with pickup := faulted s.arc.pickup .timeout } } .armFault := by
      unfold State.pickupTimeout
      rw [State.faultPickup_eq, hfaulted, hoff]
      obtain h | h := moving <;> rw [h] <;> exact if_pos ranOut
    exact congrArg _ faults
  · have stays : s.pickupTimeout = s := by
      unfold State.pickupTimeout
      obtain h | h | h | h := still
      · split
        iterate 2 exact if_neg (mt (Timer.ranOut_iff _).mp h)
        all_goals rfl
      all_goals rw [h]
    exact congrArg _ stays

end Sys2Proof.Machine

/-! PROOF. The arm update (R83) record by record: what each stage makes of an arm's and of the pickup's record, which fields the
later stages leave, and what the stages read but do not change. -/

namespace Sys2Proof.Machine

/-! ## What the stages read and leave unchanged -/

/-- Two states that agree in all that a stage of the arm update reads beside the records. -/
structure State.ReadsAs (s t : State) : Prop where
  params : t.params = s.params
  profile : t.profile = s.profile
  tgv : t.tgv = s.tgv
  ctu : t.ctu = s.ctu
  out : ∀ l, (t.pba.lane l).out = (s.pba.lane l).out
  pressure : ∀ l, t.pba.pressure l = s.pba.pressure l

namespace State.ReadsAs

variable {s t u : State}

theorem trans (first : s.ReadsAs t) (second : t.ReadsAs u) : s.ReadsAs u where
  params := second.params.trans first.params
  profile := second.profile.trans first.profile
  tgv := second.tgv.trans first.tgv
  ctu := second.ctu.trans first.ctu
  out l := (second.out l).trans (first.out l)
  pressure l := (second.pressure l).trans (first.pressure l)

theorem starveArm (s : State) (side : Side) : s.ReadsAs (s.starveArm side) := by constructor <;> simp
theorem starvePickup (s : State) : s.ReadsAs s.starvePickup := by constructor <;> simp
theorem stallArm (s : State) (side : Side) : s.ReadsAs (s.stallArm side) := by constructor <;> simp
theorem stallPickup (s : State) : s.ReadsAs s.stallPickup := by constructor <;> simp
theorem progressArm (s : State) (side : Side) : s.ReadsAs (s.progressArm side) := by constructor <;> simp
theorem slewArm (s : State) (side : Side) : s.ReadsAs (s.slewArm side) := by constructor <;> simp
theorem brushArm (s : State) (side : Side) : s.ReadsAs (s.brushArm side) := by constructor <;> simp
theorem brushMain (s : State) : s.ReadsAs s.brushMain := by constructor <;> simp
theorem brushFan (s : State) : s.ReadsAs s.brushFan := by constructor <;> simp

end State.ReadsAs

/-! ## The stages on the record of an arm -/

section arm

variable (s : State) (side : Side)

/-- Stage 1: starvation (R93). -/
def State.starvedArm (a : Arm) : Arm :=
  if (a.state = .working ∨ (a.state = .deploying ∧ a.phase = .spinup)) ∧
      (s.pba.lane (armLane side)).out.state = .starved then a.lifted .starved s.params.moveTimeout else a

/-- Is the arm in stall, were this its record (R92)? -/
def State.stallsArm (a : Arm) : Bool := a.state == .working && brushStalls (s.chan (brushChan side)) a.rpm

/-- Does stage 2 find a full stall (R92)? -/
def State.stallFull (a : Arm) : Bool := s.stallsArm side a && decide (s.params.stallTime ≤ a.stallTimer + 10)

/-- Stage 2: stall detection (R92). -/
def State.stalledArm (a : Arm) : Arm :=
  if s.stallFull side a then
    ({ a with stallCount := min 255 (a.stallCount + 1) } : Arm).lifted .stall s.params.moveTimeout
  else { a with stallTimer := if s.stallsArm side a then a.stallTimer + 10 else 0 }

/-- The deadband test of stage 3 (R83). -/
def State.aimedArm (a : Arm) : Arm :=
  if a.state.runsLoop (s.armHomed side) then
    { a with onTarget := withinDeadband s.params a.slewTarget (s.position side) }
  else a

/-- Stage 3: progress (R87 to R89). -/
def State.progressedArm (b : Arm) : Arm :=
  let a := s.aimedArm side b
  match a.state with
  | .deploying =>
    if !s.armHomed side then a.lifted .reference s.params.moveTimeout
    else
      match a.phase with
      | .slew =>
        if a.onTarget then
          if a.downSw then { a with phase := .spinup, liftDown := false } else { a with phase := .lower, liftDown := true }
        else a
      | .lower => a
      | .spinup =>
        if (s.pba.lane (armLane side)).out.state.served then { a with state := .working, moveTimer := none } else a
  | .working => if !s.armHomed side then a.lifted .reference s.params.moveTimeout else a
  | .lifting => if a.upSw && s.armHomed side && a.onTarget then a.stowed else a
  | .stowed | .homing | .fault => a

/-- Stage 4: the slew outputs (R84). -/
def State.slewedArm (a : Arm) : Arm :=
  let e := a.slewTarget - s.position side
  if a.state.runsLoop (s.armHomed side) then
    if withinDeadband s.params a.slewTarget (s.position side) then
      { a with onTarget := true, slewPlus := 0, slewMinus := 0 }
    else if 0 < e then { a with onTarget := false, slewPlus := slewLevel s.params e, slewMinus := 0 }
    else { a with onTarget := false, slewPlus := 0, slewMinus := slewLevel s.params e }
  else
    match a.state with
    | .homing | .lifting => { a with onTarget := false, slewPlus := 0, slewMinus := s.params.homingLevel }
    | .stowed | .fault | .deploying | .working => { a with onTarget := false, slewPlus := 0, slewMinus := 0 }

/-- Stage 5: the brush (R88, R91). -/
def State.brushedArm (a : Arm) : Arm :=
  { a with
    rpm := if a.state == .working then
        min s.armCurveRpm (rpmOf (s.pba.lane (armLane side)).out.flow s.params.armDisp) else 0
    brushLevel := min (if a.state == .working then s.rawLevel (armLane side) s.armFlow else 0) 4095 }

/-- The record of an arm after an arm update. -/
def State.updatedArm (a : Arm) : Arm :=
  s.brushedArm side (s.slewedArm side (s.progressedArm side (s.stalledArm side (s.starvedArm side a))))

end arm

theorem Arc.setArm_setArm (r : Arc) (side : Side) (x y : Arm) : (r.setArm side x).setArm side y = r.setArm side y := by
  cases side <;> rfl

theorem State.starveArm_arc (s : State) (side : Side) :
    (s.starveArm side).arc = s.arc.setArm side (s.starvedArm side (s.arm side)) := by
  unfold State.starveArm State.starvedArm
  dsimp only
  split
  · exact State.liftArm_arc _ _ _
  · cases side <;> rfl

theorem State.stallArm_arc (s : State) (side : Side) :
    (s.stallArm side).arc = s.arc.setArm side (s.stalledArm side (s.arm side)) := by
  unfold State.stalledArm
  obtain ⟨stalls, long, e⟩ | ⟨short, e⟩ := s.stallArm_cases side
  · have full : s.stallFull side (s.arm side) = true := by
      rw [State.stallFull, decide_eq_true long, Bool.and_true]; exact stalls
    rw [e, if_pos full, State.liftArm_arc, State.stallEvent_arm, State.arm_setArm_same, State.stallEvent_arc]
    exact Arc.setArm_setArm _ _ _ _
  · have full : ¬s.stallFull side (s.arm side) = true := by
      rw [State.stallFull, Bool.and_eq_true, decide_eq_true_eq]
      exact fun h => absurd (short h.1) (Nat.not_lt.mpr h.2)
    rw [e, if_neg full]; rfl

theorem State.progressArm_arc (s : State) (side : Side) :
    (s.progressArm side).arc = s.arc.setArm side (s.progressedArm side (s.arm side)) := by
  have lifts (a : Arm) : ((s.setArm side a).liftArm side .reference).arc =
      s.arc.setArm side (a.lifted .reference s.params.moveTimeout) := by
    rw [State.liftArm_arc, State.arm_setArm_same]; exact Arc.setArm_setArm _ _ _ _
  have aimed : s.aimedArm side (s.arm side) = s.aimed side := rfl
  unfold State.progressArm State.progressedArm
  rw [aimed]
  dsimp only
  cases (s.aimed side).state
  case deploying =>
    dsimp only
    split
    · exact lifts _
    cases (s.aimed side).phase
    case slew => dsimp only; split <;> rfl
    case lower => rfl
    case spinup =>
      dsimp only
      split
      · exact State.putArm_arc _ _ _
      · rfl
  case working =>
    dsimp only
    split
    · exact lifts _
    · rfl
  case lifting => dsimp only; split <;> rfl
  all_goals rfl

theorem State.slewArm_arc (s : State) (side : Side) :
    (s.slewArm side).arc = s.arc.setArm side (s.slewedArm side (s.arm side)) := rfl

theorem State.brushArm_arc (s : State) (side : Side) :
    (s.brushArm side).arc = s.arc.setArm side (s.brushedArm side (s.arm side)) := rfl

/-! ## The stages on the record of the pickup -/

section pickup

variable (s : State)

/-- Stage 1: starvation (R93). -/
def State.starvedPickup (u : Pickup) : Pickup :=
  if u.state = .working ∧ ((s.pba.lane .main).out.state = .starved ∨ (s.pba.lane .fan).out.state = .starved) then
    u.raised .starved s.params.moveTimeout else u

/-- Is the pickup in stall, were this its record (R92)? -/
def State.stallsPickup (u : Pickup) : Bool :=
  u.state == .working && (brushStalls (s.chan .bmain) u.mainRpm || brushStalls (s.chan .fan) u.fanRpm)

/-- Does stage 2 find a full stall (R92)? -/
def State.pickupStallFull (u : Pickup) : Bool := s.stallsPickup u && decide (s.params.stallTime ≤ u.stallTimer + 10)

/-- Stage 2: stall detection (R92). -/
def State.stalledPickup (u : Pickup) : Pickup :=
  if s.pickupStallFull u then
    ({ u with stallCount := min 255 (u.stallCount + 1) } : Pickup).raised .stall s.params.moveTimeout
  else { u with stallTimer := if s.stallsPickup u then u.stallTimer + 10 else 0 }

/-- Stage 5: the main broom and the fan (R91, R96). -/
def State.brushedPickup (u : Pickup) : Pickup :=
  { u with
    mainRpm := if u.state == .working then min s.mainCurveRpm (rpmOf (s.pba.lane .main).out.flow s.params.mainDisp) else 0
    mainLevel := min (if u.state == .working then s.rawLevel .main s.mainFlow else 0) 4095
    fanRpm := if u.state == .working then min s.profile.fanRpm (rpmOf (s.pba.lane .fan).out.flow s.params.fanDisp) else 0
    fanLevel := min (if u.state == .working then s.rawLevel .fan s.fanFlow else 0) 4095 }

/-- The record of the pickup after an arm update. -/
def State.updatedPickup (u : Pickup) : Pickup := s.brushedPickup (s.stalledPickup (s.starvedPickup u))

end pickup

theorem State.starvePickup_arc (s : State) :
    s.starvePickup.arc = { s.arc with pickup := s.starvedPickup s.arc.pickup } := by
  unfold State.starvePickup State.starvedPickup
  split
  · exact State.raisePickup_arc _ _
  · rfl

theorem State.stallPickup_arc (s : State) :
    s.stallPickup.arc = { s.arc with pickup := s.stalledPickup s.arc.pickup } := by
  have full : s.pickupStallFull s.arc.pickup = true ↔
      s.pickupInStall = true ∧ s.params.stallTime ≤ s.arc.pickup.stallTimer + 10 := by
    rw [State.pickupStallFull, Bool.and_eq_true, decide_eq_true_eq]; rfl
  unfold State.stalledPickup
  obtain ⟨stalls, long, e⟩ | ⟨short, e⟩ := s.stallPickup_cases
  · rw [e, if_pos (full.mpr ⟨stalls, long⟩), State.raisePickup_arc]; rfl
  · rw [e, if_neg (mt full.mp short)]; rfl

/-! ## The stages together -/

namespace State.ReadsAs

variable {s t : State} (h : s.ReadsAs t)
include h

theorem rawLevel (l : LaneId) (q : Nat) : t.rawLevel l q = s.rawLevel l q := State.rawLevel_congr (h.out l) h.params q

theorem chan (c : ChanId) : t.chan c = s.chan c := by rw [State.chan, h.ctu]; rfl

theorem armHomed (side : Side) : t.armHomed side = s.armHomed side := by rw [State.armHomed, h.chan]; rfl

theorem position (side : Side) : t.position side = s.position side := by rw [State.position, h.chan]; rfl

theorem armFlow : t.armFlow = s.armFlow := by rw [State.armFlow, State.armCurveRpm, h.profile, h.tgv, h.params]; rfl

theorem mainFlow : t.mainFlow = s.mainFlow := by rw [State.mainFlow, State.mainCurveRpm, h.profile, h.tgv, h.params]; rfl

theorem fanFlow : t.fanFlow = s.fanFlow := by rw [State.fanFlow, h.profile, h.params]; rfl

theorem starvedArm (side : Side) (a : Arm) : t.starvedArm side a = s.starvedArm side a := by
  rw [State.starvedArm, h.out, h.params]; rfl

theorem stalledArm (side : Side) (a : Arm) : t.stalledArm side a = s.stalledArm side a := by
  rw [State.stalledArm, State.stallFull, State.stallsArm, h.chan, h.params]; rfl

theorem progressedArm (side : Side) (a : Arm) : t.progressedArm side a = s.progressedArm side a := by
  unfold State.progressedArm State.aimedArm
  rw [h.armHomed, h.out, h.params, h.position]

theorem slewedArm (side : Side) (a : Arm) : t.slewedArm side a = s.slewedArm side a := by
  unfold State.slewedArm
  rw [h.armHomed, h.params, h.position]

theorem brushedArm (side : Side) (a : Arm) : t.brushedArm side a = s.brushedArm side a := by
  unfold State.brushedArm State.armCurveRpm
  rw [h.rawLevel, h.armFlow, h.out, h.params, h.profile, h.tgv]

theorem starvedPickup (u : Pickup) : t.starvedPickup u = s.starvedPickup u := by
  rw [State.starvedPickup, h.out, h.out, h.params]; rfl

theorem stalledPickup (u : Pickup) : t.stalledPickup u = s.stalledPickup u := by
  rw [State.stalledPickup, State.pickupStallFull, State.stallsPickup, h.chan, h.chan, h.params]; rfl

theorem brushedPickup (u : Pickup) : t.brushedPickup u = s.brushedPickup u := by
  unfold State.brushedPickup State.mainCurveRpm
  rw [h.rawLevel, h.rawLevel, h.mainFlow, h.fanFlow, h.out, h.out, h.params, h.profile, h.tgv]

end State.ReadsAs

/-- Stages 1 and 2 on the records. -/
theorem State.armSafety_arc (s : State) : s.armSafety.arc = { s.arc with
    left := s.stalledArm .left (s.starvedArm .left s.arc.left)
    right := s.stalledArm .right (s.starvedArm .right s.arc.right)
    pickup := s.stalledPickup (s.starvedPickup s.arc.pickup) } := by
  have r1 := ReadsAs.starveArm s .left
  have r2 := r1.trans (.starveArm _ .right)
  have r3 := r2.trans (.starvePickup _)
  have r4 := r3.trans (.stallArm _ .left)
  have r5 := r4.trans (.stallArm _ .right)
  simp only [State.armSafety, State.stallPickup_arc, State.stallArm_arc, State.starvePickup_arc, State.starveArm_arc, State.arm,
    Arc.arm, Arc.setArm, r1.starvedArm, r2.starvedPickup, r3.stalledArm, r4.stalledArm, r5.stalledPickup]

theorem State.armSafety_reads (s : State) : s.ReadsAs s.armSafety :=
  (((((ReadsAs.starveArm s .left).trans (.starveArm _ .right)).trans (.starvePickup _)).trans (.stallArm _ .left)).trans
    (.stallArm _ .right)).trans (.stallPickup _)

/-- Stages 3 and 4 on the records. -/
theorem State.armMotion_arc (s : State) : s.armMotion.arc = { s.arc with
    left := s.slewedArm .left (s.progressedArm .left s.arc.left)
    right := s.slewedArm .right (s.progressedArm .right s.arc.right) } := by
  have r1 := ReadsAs.progressArm s .left
  have r2 := r1.trans (.progressArm _ .right)
  have r3 := r2.trans (.slewArm _ .left)
  simp only [State.armMotion, State.slewArm_arc, State.progressArm_arc, State.arm, Arc.arm, Arc.setArm, r1.progressedArm,
    r2.slewedArm, r3.slewedArm]

theorem State.armMotion_reads (s : State) : s.ReadsAs s.armMotion :=
  (((ReadsAs.progressArm s .left).trans (.progressArm _ .right)).trans (.slewArm _ .left)).trans (.slewArm _ .right)

/-- Stage 5 on the records. -/
theorem State.armDrives_arc (s : State) : s.armDrives.arc = { s.arc with
    left := s.brushedArm .left s.arc.left
    right := s.brushedArm .right s.arc.right
    pickup := s.brushedPickup s.arc.pickup } := by
  have r1 := ReadsAs.brushArm s .left
  have r2 := r1.trans (.brushArm _ .right)
  have r3 := r2.trans (.brushMain _)
  have main : s.armDrives.arc = { (s.brushArm .left).brushArm .right |>.arc with
      pickup := { ((s.brushArm .left).brushArm .right).brushedPickup s.arc.pickup with
        fanRpm := (((s.brushArm .left).brushArm .right).brushMain.brushedPickup s.arc.pickup).fanRpm
        fanLevel := (((s.brushArm .left).brushArm .right).brushMain.brushedPickup s.arc.pickup).fanLevel } } := rfl
  rw [main, r2.brushedPickup, r3.brushedPickup, State.brushArm_arc, r1.brushedArm]
  rfl

theorem State.armDrives_reads (s : State) : s.ReadsAs s.armDrives :=
  (((ReadsAs.brushArm s .left).trans (.brushArm _ .right)).trans (.brushMain _)).trans (.brushFan _)

/-- The state that stage 6 publishes from. -/
def State.armStages (s : State) : State := s.armSafety.armMotion.armDrives

theorem State.armStages_reads (s : State) : s.ReadsAs s.armStages :=
  (s.armSafety_reads.trans (armMotion_reads _)).trans (armDrives_reads _)

theorem State.armStages_arc (s : State) : s.armStages.arc = { s.arc with
    left := s.updatedArm .left s.arc.left
    right := s.updatedArm .right s.arc.right
    pickup := s.updatedPickup s.arc.pickup } := by
  have r1 := s.armSafety_reads
  have r2 := r1.trans (armMotion_reads _)
  simp only [State.armStages, State.armDrives_arc, State.armMotion_arc, State.armSafety_arc, r1.progressedArm, r1.slewedArm,
    r2.brushedArm, r2.brushedPickup]
  rfl

theorem State.armUpdate_arc (s : State) : s.armUpdate.arc = {
    left := s.updatedArm .left s.arc.left
    right := s.updatedArm .right s.arc.right
    pickup := s.updatedPickup s.arc.pickup
    cap := s.armStages.brushCap
    updateTimer := some 10 } := by
  have arc : s.armUpdate.arc = { s.armStages.arc with cap := s.armStages.brushCap, updateTimer := some 10 } := by
    simp only [State.armUpdate, State.armPublish, State.publishLane_arc, State.armStages]
  rw [arc, State.armStages_arc]

theorem State.armUpdate_arm (s : State) (side : Side) : s.armUpdate.arm side = s.updatedArm side (s.arm side) := by
  rw [State.arm, State.armUpdate_arc]
  cases side <;> rfl

end Sys2Proof.Machine

/-! PROOF. How one arm update moves the arms and the pickup (R87 to R89, R92, R93): O41. -/

namespace Sys2Proof.Machine

/-! ## One arm -/

section arm

variable {s : State} {side : Side} {a : Arm}

/-- The slew loop and the brush write outputs and speeds alone. -/
theorem State.updatedArm_eq (s : State) (side : Side) (a : Arm) : ∃ (on : Bool) (plus minus rpm level : Nat),
    s.updatedArm side a = { s.progressedArm side (s.stalledArm side (s.starvedArm side a)) with
      onTarget := on, slewPlus := plus, slewMinus := minus, rpm := rpm, brushLevel := level } := by
  have slewed (x : Arm) : ∃ (on : Bool) (plus minus : Nat),
      s.slewedArm side x = { x with onTarget := on, slewPlus := plus, slewMinus := minus } := by
    unfold State.slewedArm
    dsimp only
    split
    · split
      · exact ⟨_, _, _, rfl⟩
      · split <;> exact ⟨_, _, _, rfl⟩
    · split <;> exact ⟨_, _, _, rfl⟩
  obtain ⟨on, plus, minus, e⟩ := slewed (s.progressedArm side (s.stalledArm side (s.starvedArm side a)))
  exact ⟨on, plus, minus, _, _, by rw [State.updatedArm, e]; rfl⟩

theorem State.starvedArm_of (out : a.state = .working ∨ a.state = .deploying ∧ a.phase = .spinup)
    (starved : (s.pba.lane (armLane side)).out.state = .starved) :
    s.starvedArm side a = a.lifted .starved s.params.moveTimeout := if_pos ⟨out, starved⟩

theorem State.starvedArm_fed (fed : (s.pba.lane (armLane side)).out.state ≠ .starved) : s.starvedArm side a = a :=
  if_neg fun h => fed h.2

theorem State.starvedArm_in (in' : ¬(a.state = .working ∨ a.state = .deploying ∧ a.phase = .spinup)) :
    s.starvedArm side a = a := if_neg fun h => in' h.1

theorem State.stallsArm_eq_false (idle : a.state ≠ .working) : s.stallsArm side a = false := by
  rw [State.stallsArm, beq_eq_false_iff_ne.mpr idle, Bool.false_and]

theorem State.stalledArm_idle (idle : a.state ≠ .working) : s.stalledArm side a = { a with stallTimer := 0 } := by
  unfold State.stalledArm State.stallFull
  rw [State.stallsArm_eq_false idle]; rfl

theorem State.stalledArm_full (full : s.stallFull side a = true) : s.stalledArm side a =
    ({ a with stallCount := min 255 (a.stallCount + 1) } : Arm).lifted .stall s.params.moveTimeout := if_pos full

theorem State.stalledArm_short (short : ¬s.stallFull side a = true) : s.stalledArm side a =
    { a with stallTimer := if s.stallsArm side a then a.stallTimer + 10 else 0 } := if_neg short

theorem State.aimedArm_eq (s : State) (side : Side) (a : Arm) : ∃ on : Bool, s.aimedArm side a = { a with onTarget := on } ∧
    (a.state.runsLoop (s.armHomed side) = true → on = withinDeadband s.params a.slewTarget (s.position side)) := by
  unfold State.aimedArm
  split
  · exact ⟨_, rfl, fun _ => rfl⟩
  · next still => exact ⟨a.onTarget, rfl, fun runs => absurd runs still⟩

/-- A lift ends in STOWED where the arm is up, has its reference and is on target (R89). -/
theorem State.progressedArm_lifting (lifting : a.state = .lifting) :
    (s.progressedArm side a).state = (if a.upSw = true ∧ s.armHomed side = true ∧
      withinDeadband s.params a.slewTarget (s.position side) = true then .stowed else .lifting) ∧
    (s.progressedArm side a).cause = a.cause ∧ (s.progressedArm side a).stallCount = a.stallCount := by
  obtain ⟨on, aimed, near⟩ := s.aimedArm_eq side a
  unfold State.progressedArm
  rw [aimed]
  dsimp only
  rw [lifting] at near ⊢
  dsimp only
  by_cases ends : a.upSw = true ∧ s.armHomed side = true ∧ withinDeadband s.params a.slewTarget (s.position side) = true
  · obtain ⟨up, homed, target⟩ := ends
    rw [if_pos (by rw [up, homed, near homed, target]; rfl), if_pos ⟨up, homed, target⟩]
    exact ⟨rfl, rfl, rfl⟩
  · rw [if_neg ends, if_neg]
    · exact ⟨rfl, rfl, rfl⟩
    · simp only [Bool.and_eq_true, and_assoc]
      exact fun ⟨up, homed, target⟩ => ends ⟨up, homed, near homed ▸ target⟩

/-- The loss of the reference lifts an arm that is out (R88). -/
theorem State.progressedArm_lost (out : a.state = .deploying ∨ a.state = .working) (lost : s.armHomed side = false) :
    (s.progressedArm side a).cause = .reference ∧ (s.progressedArm side a).state = .lifting := by
  obtain ⟨on, aimed, -⟩ := s.aimedArm_eq side a
  unfold State.progressedArm
  rw [aimed, lost]
  dsimp only
  obtain h | h := out <;> rw [h] <;> exact ⟨rfl, rfl⟩

theorem State.progressedArm_working (working : a.state = .working) (homed : s.armHomed side = true) :
    ∃ on : Bool, s.progressedArm side a = { a with onTarget := on } := by
  obtain ⟨on, aimed, -⟩ := s.aimedArm_eq side a
  unfold State.progressedArm
  rw [aimed, homed]
  dsimp only
  rw [working]
  exact ⟨on, rfl⟩

theorem State.progressedArm_slew (out : a.state = .deploying) (slew : a.phase = .slew) (homed : s.armHomed side = true) :
    (s.progressedArm side a).state = .deploying ∧ (s.progressedArm side a).phase =
      (if withinDeadband s.params a.slewTarget (s.position side) then (if a.downSw then .spinup else .lower) else .slew) := by
  obtain ⟨on, aimed, near⟩ := s.aimedArm_eq side a
  unfold State.progressedArm
  rw [aimed, homed]
  dsimp only
  rw [out] at near ⊢
  dsimp only
  rw [slew, near rfl]
  dsimp only
  cases withinDeadband s.params a.slewTarget (s.position side)
  · exact ⟨rfl, rfl⟩
  · cases a.downSw <;> exact ⟨rfl, rfl⟩

theorem State.progressedArm_lower (out : a.state = .deploying) (lower : a.phase = .lower) (homed : s.armHomed side = true) :
    (s.progressedArm side a).state = .deploying ∧ (s.progressedArm side a).phase = .lower := by
  obtain ⟨on, aimed, -⟩ := s.aimedArm_eq side a
  unfold State.progressedArm
  rw [aimed, homed]
  dsimp only
  rw [out, lower]
  exact ⟨rfl, rfl⟩

theorem State.progressedArm_spinup (out : a.state = .deploying) (spinup : a.phase = .spinup) (homed : s.armHomed side = true) :
    (s.progressedArm side a).state = (if (s.pba.lane (armLane side)).out.state.served then .working else .deploying) ∧
      ((s.progressedArm side a).state = .working → (s.progressedArm side a).moveTimer = none) := by
  obtain ⟨on, aimed, -⟩ := s.aimedArm_eq side a
  unfold State.progressedArm
  rw [aimed, homed]
  dsimp only
  rw [out, spinup]
  dsimp only
  cases (s.pba.lane (armLane side)).out.state.served
  · exact ⟨rfl, fun working => nomatch working⟩
  · exact ⟨rfl, fun _ => rfl⟩

theorem State.progressedArm_rest (rest : a.state = .stowed ∨ a.state = .homing ∨ a.state = .fault) :
    (s.progressedArm side a).state = a.state := by
  obtain ⟨on, aimed, -⟩ := s.aimedArm_eq side a
  unfold State.progressedArm
  rw [aimed]
  dsimp only
  obtain h | h | h := rest <;> rw [h]

/-- A lifted arm stays LIFTING or ends in STOWED in the same update, with its cause and its count. -/
theorem State.progressedArm_lifted (a : Arm) (c : Cause) (timeout : Nat) :
    (s.progressedArm side (a.lifted c timeout)).cause = c ∧
      ((s.progressedArm side (a.lifted c timeout)).state = .lifting ∨
        (s.progressedArm side (a.lifted c timeout)).state = .stowed) ∧
      (s.progressedArm side (a.lifted c timeout)).stallCount = a.stallCount := by
  obtain ⟨state, cause, count⟩ := State.progressedArm_lifting (s := s) (side := side) (a := a.lifted c timeout) rfl
  refine ⟨cause, ?_, count⟩
  rw [state]
  split
  · exact .inr rfl
  · exact .inl rfl

/-- O41 of one arm, on its record. -/
theorem State.updatedArm_moves (s : State) (side : Side) (a b : Arm) (starved lags homed near : Bool)
    (hb : b = s.updatedArm side a)
    (hstarved : starved = ((s.pba.lane (armLane side)).out.state == .starved))
    (hlags : lags = brushStalls (s.chan (brushChan side)) a.rpm) (hhomed : homed = s.armHomed side)
    (hnear : near = withinDeadband s.params a.slewTarget (s.position side)) :
      (starved = true → a.state = .working ∨ a.state = .deploying ∧ a.phase = .spinup →
        b.cause = .starved ∧ (b.state = .lifting ∨ b.state = .stowed)) ∧
      (starved = false → a.state = .working → lags = true → s.params.stallTime ≤ a.stallTimer + 10 →
        b.cause = .stall ∧ (b.state = .lifting ∨ b.state = .stowed) ∧ b.stallCount = min 255 (a.stallCount + 1)) ∧
      (starved = false → a.state = .working → (lags = true → a.stallTimer + 10 < s.params.stallTime) → homed = true →
        b.state = .working ∧ b.stallTimer = (if lags then a.stallTimer + 10 else 0) ∧ b.cause = a.cause) ∧
      (starved = false → homed = false →
        a.state = .deploying ∨ a.state = .working ∧ (lags = true → a.stallTimer + 10 < s.params.stallTime) →
        b.cause = .reference ∧ b.state = .lifting) ∧
      (a.state = .deploying → a.phase = .slew → homed = true →
        b.state = .deploying ∧ b.phase = (if near then (if a.downSw then .spinup else .lower) else .slew)) ∧
      (a.state = .deploying → a.phase = .lower → homed = true → b.state = .deploying ∧ b.phase = .lower) ∧
      (a.state = .deploying → a.phase = .spinup → homed = true → starved = false →
        b.state = (if (s.pba.lane (armLane side)).out.state = .full ∨ (s.pba.lane (armLane side)).out.state = .part
          then .working else .deploying) ∧
        (b.state = .working → b.moveTimer = none)) ∧
      (a.state = .lifting → b.state = (if a.upSw = true ∧ homed = true ∧ near = true then .stowed else .lifting)) ∧
      (a.state = .stowed ∨ a.state = .homing ∨ a.state = .fault → b.state = a.state) := by
  obtain ⟨on, plus, minus, rpm, level, e⟩ := s.updatedArm_eq side a
  rw [e] at hb
  have fed : starved = false → s.starvedArm side a = a := fun h =>
    State.starvedArm_fed (beq_eq_false_iff_ne.mp (hstarved.symm.trans h))
  have short (working : a.state = .working) (early : lags = true → a.stallTimer + 10 < s.params.stallTime) :
      s.stalledArm side a = { a with stallTimer := if lags then a.stallTimer + 10 else 0 } := by
    have stalls : s.stallsArm side a = lags := by rw [State.stallsArm, working, ← hlags]; rfl
    rw [State.stalledArm_short, stalls]
    rw [State.stallFull, stalls, Bool.and_eq_true, decide_eq_true_eq]
    exact fun ⟨h, long⟩ => absurd (early h) (Nat.not_lt.mpr long)
  have idle (state : a.state ≠ .working) (in' : ¬(a.state = .deploying ∧ a.phase = .spinup)) :
      s.stalledArm side (s.starvedArm side a) = { a with stallTimer := 0 } := by
    rw [State.starvedArm_in (not_or.mpr ⟨state, in'⟩), State.stalledArm_idle state]
  subst hhomed
  refine ⟨fun h out => ?_, fun h working behind long => ?_, fun h working early ref => ?_, fun h lost out => ?_,
    fun out slew ref => ?_, fun out lower ref => ?_, fun out spinup ref h => ?_, fun lifting => ?_, fun rest => ?_⟩
  · rw [State.starvedArm_of out (eq_of_beq (hstarved.symm.trans h)), State.stalledArm_idle (show ArmState.lifting ≠ .working by decide)] at hb
    obtain ⟨cause, state, -⟩ := State.progressedArm_lifted (s := s) (side := side) a .starved s.params.moveTimeout
    subst hb
    exact ⟨cause, state⟩
  · have full : s.stallFull side a = true := by
      rw [State.stallFull, State.stallsArm, working, ← hlags, behind, decide_eq_true long]; rfl
    rw [fed h, State.stalledArm_full full] at hb
    subst hb
    exact State.progressedArm_lifted _ _ _
  · rw [fed h, short working early] at hb
    obtain ⟨target, e⟩ := State.progressedArm_working (s := s) (side := side)
      (a := { a with stallTimer := if lags then a.stallTimer + 10 else 0 }) working ref
    rw [e] at hb
    subst hb
    exact ⟨working, rfl, rfl⟩
  · rw [fed h] at hb
    subst hb
    obtain out | ⟨working, early⟩ := out
    · rw [State.stalledArm_idle (by rw [out]; decide)]
      exact State.progressedArm_lost (.inl out) lost
    · rw [short working early]
      exact State.progressedArm_lost (.inr working) lost
  · rw [idle (by rw [out]; decide) (by rw [slew]; simp)] at hb
    subst hb hnear
    exact State.progressedArm_slew out slew ref
  · rw [idle (by rw [out]; decide) (by rw [lower]; simp)] at hb
    subst hb
    exact State.progressedArm_lower out lower ref
  · rw [fed h, State.stalledArm_idle (by rw [out]; decide)] at hb
    subst hb
    obtain ⟨state, timer⟩ := State.progressedArm_spinup (s := s) (side := side) (a := { a with stallTimer := 0 }) out spinup ref
    refine ⟨state.trans ?_, timer⟩
    cases (s.pba.lane (armLane side)).out.state <;> rfl
  · rw [idle (by rw [lifting]; decide) (by rw [lifting]; simp)] at hb
    subst hb hnear
    exact (State.progressedArm_lifting (s := s) (side := side) (a := { a with stallTimer := 0 }) lifting).1
  · rw [idle (by obtain h | h | h := rest <;> rw [h] <;> decide) (by obtain h | h | h := rest <;> rw [h] <;> simp)] at hb
    subst hb
    exact State.progressedArm_rest rest

end arm

/-! ## The pickup -/

theorem State.stallsPickup_eq_false {s : State} {u : Pickup} (idle : u.state ≠ .working) : s.stallsPickup u = false := by
  rw [State.stallsPickup, beq_eq_false_iff_ne.mpr idle, Bool.false_and]

theorem State.stalledPickup_idle {s : State} {u : Pickup} (idle : u.state ≠ .working) :
    s.stalledPickup u = { u with stallTimer := 0 } := by
  unfold State.stalledPickup State.pickupStallFull
  rw [State.stallsPickup_eq_false idle]; rfl

theorem Pickup.raised_idle (u : Pickup) (c : Cause) (timeout : Nat) : (u.raised c timeout).state ≠ .working :=
  beq_eq_false_iff_ne.mp (Pickup.raised_working _ _ _)

/-- O41 of the pickup, on its record. -/
theorem State.updatedPickup_moves (s : State) (u v : Pickup) (starved lags : Bool) (hv : v = s.updatedPickup u)
    (hstarved : starved = ((s.pba.lane .main).out.state == .starved || (s.pba.lane .fan).out.state == .starved))
    (hlags : lags = (brushStalls (s.chan .bmain) u.mainRpm || brushStalls (s.chan .fan) u.fanRpm)) :
    (u.state = .working → starved = true → v.cause = .starved ∧ v.state = (if u.upSw then .up else .raising) ∧
      v.stallCount = u.stallCount) ∧
    (u.state = .working → starved = false → lags = true → s.params.stallTime ≤ u.stallTimer + 10 →
      v.cause = .stall ∧ v.state = (if u.upSw then .up else .raising) ∧ v.stallCount = min 255 (u.stallCount + 1)) ∧
    (u.state = .working → starved = false → (lags = true → u.stallTimer + 10 < s.params.stallTime) →
      v.state = .working ∧ v.stallTimer = (if lags then u.stallTimer + 10 else 0) ∧ v.cause = u.cause ∧
      v.stallCount = u.stallCount) ∧
    (u.state ≠ .working → v.state = u.state ∧ v.cause = u.cause ∧ v.stallCount = u.stallCount ∧ v.stallTimer = 0) := by
  have starves : starved = true ↔ (s.pba.lane .main).out.state = .starved ∨ (s.pba.lane .fan).out.state = .starved := by
    rw [hstarved, Bool.or_eq_true, beq_iff_eq, beq_iff_eq]
  have fed (h : starved = false) : s.starvedPickup u = u :=
    if_neg fun ⟨_, out⟩ => by rw [starves.mpr out] at h; cases h
  have stalls (working : u.state = .working) : s.stallsPickup u = lags := by
    rw [State.stallsPickup, working, ← hlags]; rfl
  subst hv
  unfold State.updatedPickup
  refine ⟨fun working h => ?_, fun working h behind long => ?_, fun working h early => ?_, fun idle => ?_⟩
  · have raised : s.starvedPickup u = u.raised .starved s.params.moveTimeout := if_pos ⟨working, starves.mp h⟩
    rw [raised, State.stalledPickup_idle (Pickup.raised_idle _ _ _)]
    exact ⟨rfl, rfl, rfl⟩
  · have full : s.pickupStallFull u = true := by
      rw [State.pickupStallFull, stalls working, behind, decide_eq_true long]; rfl
    rw [fed h, State.stalledPickup, if_pos full]
    exact ⟨rfl, rfl, rfl⟩
  · have short : ¬s.pickupStallFull u = true := by
      rw [State.pickupStallFull, stalls working, Bool.and_eq_true, decide_eq_true_eq]
      exact fun ⟨behind, long⟩ => absurd (early behind) (Nat.not_lt.mpr long)
    rw [fed h, State.stalledPickup, if_neg short, stalls working]
    exact ⟨working, rfl, rfl, rfl⟩
  · have still : s.starvedPickup u = u := if_neg fun ⟨working, _⟩ => idle working
    rw [still, State.stalledPickup_idle idle]
    exact ⟨rfl, rfl, rfl, rfl⟩

/-! ## Stalls counted and posted (R92, R142)

`State.Stalls s t n`: between `s` and `t` there were `n` stalls. -/

structure State.Stalls (s t : State) (n : Nat) : Prop where
  present : t.sge.present = s.sge.present
  counted : t.sge.figures.stalls =
    if s.sge.present = true ∧ 0 < n then min 255 (s.sge.figures.stalls + n) else s.sge.figures.stalls
  notice : ∀ q, (t.port q).hasNotice .armStall = ((s.port q).hasNotice .armStall || decide (0 < n))

namespace State.Stalls

variable {s t u : State} {n m : Nat}

theorem trans (first : s.Stalls t n) (second : t.Stalls u m) : s.Stalls u (n + m) where
  present := second.present.trans first.present
  counted := by
    rw [second.counted, first.counted, first.present]
    by_cases present : s.sge.present = true
    · simp only [present, true_and]
      split <;> split <;> split <;> omega
    · simp [present]
  notice q := by
    rw [second.notice, first.notice, Bool.or_assoc, ← Bool.decide_or]
    exact congrArg _ (decide_eq_decide.mpr (by omega))

/-- No stall: neither the figures nor the notices of stalls change. -/
theorem none {K : Notice → Bool} (present : t.sge.present = s.sge.present)
    (stalls : t.sge.figures.stalls = s.sge.figures.stalls) (posts : s.Posts K t) (other : K .armStall = false) :
    s.Stalls t 0 := ⟨present, by simpa using stalls, fun q => by rw [posts.only other]; simp⟩

theorem then_none (first : s.Stalls t n) (second : t.Stalls u 0) : s.Stalls u n := first.trans second

theorem of_rfl (sge : t.sge = s.sge) (ports : t.ports = s.ports) : s.Stalls t 0 :=
  none (K := fun _ => false) (by rw [sge]) (by rw [sge]) (.of_ports ports) rfl

theorem setArm (h : s.Stalls t n) (side : Side) (x : Arm) : s.Stalls (t.setArm side x) n := h.then_none (of_rfl rfl rfl)

theorem setArc (h : s.Stalls t n) (r : Arc) : s.Stalls { t with arc := r } n := h.then_none (of_rfl rfl rfl)

theorem refl (s : State) : s.Stalls s 0 := of_rfl rfl rfl

theorem stallEvent (s : State) : s.Stalls s.stallEvent 1 where
  present := by simp [State.stallEvent, Sge.addStall, Sge.note, apply_ite Sge.present]
  counted := by
    show (s.sge.addStall).figures.stalls = _
    unfold Sge.addStall Sge.note
    cases s.sge.present <;> simp
  notice q := by rw [State.stallEvent, State.post_port, Port.postIf_hasNotice_same]; rfl

theorem publishLane (s : State) (l : LaneId) (r : LaneReq) : s.Stalls (s.publishLane l r) 0 :=
  none (K := Notice.ofSpray) rfl rfl (.publishLane (fun _ h => h) _ _ _) rfl

theorem refreshIf (s : State) (changed : Bool) : s.Stalls (s.refreshIf changed) 0 := by
  have water (e : Sge) (ml : Nat) : (e.addWater ml).present = e.present ∧
      (e.addWater ml).figures.stalls = e.figures.stalls := by
    unfold Sge.addWater Sge.note
    split <;> exact ⟨rfl, rfl⟩
  cases changed
  · exact of_rfl rfl rfl
  · have sge : s.sprayRefresh.sge = s.sge.addWater s.settledMl := by
      rw [State.sprayRefresh, State.publishSpry_sge, State.settleBanks_sge]
    exact none (K := Notice.ofSpray) ((congrArg Sge.present sge).trans (water _ _).1)
      ((congrArg (fun e => e.figures.stalls) sge).trans (water _ _).2) (.sprayRefresh (fun _ h => h) _) rfl

theorem liftArm (s : State) (side : Side) (c : Cause) : s.Stalls (s.liftArm side c) 0 := by
  rw [State.liftArm_eq]
  exact ((publishLane s _ _).setArm _ _).then_none (refreshIf _ _)

theorem raisePickup (s : State) (c : Cause) : s.Stalls (s.raisePickup c) 0 := by
  rw [State.raisePickup_eq]
  have off : s.Stalls s.pickupLanesOff 0 := (publishLane s _ _).then_none (publishLane _ _ _)
  exact (off.setArc _).then_none (refreshIf _ _)

theorem starveArm (s : State) (side : Side) : s.Stalls (s.starveArm side) 0 := by
  obtain ⟨-, -, e⟩ | ⟨-, e⟩ := s.starveArm_cases side <;> rw [e]
  · exact liftArm _ _ _
  · exact of_rfl rfl rfl

theorem starvePickup (s : State) : s.Stalls s.starvePickup 0 := by
  unfold State.starvePickup
  split
  · exact raisePickup _ _
  · exact of_rfl rfl rfl

theorem stallArm (s : State) (side : Side) : s.Stalls (s.stallArm side) (s.stallFull side (s.arm side)).toNat := by
  obtain ⟨stalls, long, e⟩ | ⟨short, e⟩ := s.stallArm_cases side
  · have full : s.stallFull side (s.arm side) = true := by
      rw [State.stallFull, decide_eq_true long, Bool.and_true]; exact stalls
    rw [e, full]
    exact (((refl s).setArm side _).trans (stallEvent _)).then_none (liftArm _ _ _)
  · have full : s.stallFull side (s.arm side) = false := by
      rw [State.stallFull, ← Bool.not_eq_true, Bool.and_eq_true, decide_eq_true_eq]
      exact fun h => absurd (short h.1) (Nat.not_lt.mpr h.2)
    rw [e, full]
    exact of_rfl rfl rfl

theorem stallPickup (s : State) : s.Stalls s.stallPickup (s.pickupStallFull s.arc.pickup).toNat := by
  have full : s.pickupStallFull s.arc.pickup = true ↔
      s.pickupInStall = true ∧ s.params.stallTime ≤ s.arc.pickup.stallTimer + 10 := by
    rw [State.pickupStallFull, Bool.and_eq_true, decide_eq_true_eq]; rfl
  obtain ⟨stalls, long, e⟩ | ⟨short, e⟩ := s.stallPickup_cases
  · rw [e, full.mpr ⟨stalls, long⟩]
    exact (((refl s).setArc _).trans (stallEvent _)).then_none (raisePickup _ _)
  · rw [e, Bool.eq_false_iff.mpr (mt full.mp short)]
    exact of_rfl rfl rfl

theorem progressArm (s : State) (side : Side) : s.Stalls (s.progressArm side) 0 := by
  obtain ⟨-, -, e⟩ | ⟨x, e | ⟨-, -, -, e⟩⟩ := s.progressArm_cases side <;> rw [e]
  · exact ((refl s).setArm _ _).then_none (liftArm _ _ _)
  · exact (refl s).setArm _ _
  · exact ((refl s).setArm _ _).then_none (refreshIf _ _)

theorem armMotion (s : State) : s.Stalls s.armMotion 0 :=
  (((progressArm s .left).then_none (progressArm _ .right)).setArm _ _).setArm _ _

/-- A stage of the drives: outputs, and a saturation posted. -/
theorem drive {r : Arc} {p : Pba} {on : Bool} (s : State) :
    s.Stalls { s with arc := r, pba := p, ports := postAllIf s.ports .clamp on } 0 :=
  none (K := Notice.ofSpray) rfl rfl (.of_postAllIf rfl rfl) rfl

theorem armDrives (s : State) : s.Stalls s.armDrives 0 := by
  have arm (t : State) (side : Side) : t.Stalls (t.brushArm side) 0 := drive t
  have main (t : State) : t.Stalls t.brushMain 0 := drive t
  have fan (t : State) : t.Stalls t.brushFan 0 := drive t
  exact (((arm s .left).then_none (arm _ .right)).then_none (main _)).then_none (fan _)

theorem armPublish (s : State) : s.Stalls s.armPublish 0 :=
  ((((publishLane s _ _).then_none (publishLane _ _ _)).then_none (publishLane _ _ _)).then_none
    (publishLane _ _ _)).setArc _

end State.Stalls

theorem State.ReadsAs.stallFull {s t : State} (h : s.ReadsAs t) (side : Side) (a : Arm) :
    t.stallFull side a = s.stallFull side a := by
  rw [State.stallFull, State.stallsArm, h.chan, h.params]; rfl

theorem State.ReadsAs.pickupStallFull {s t : State} (h : s.ReadsAs t) (u : Pickup) :
    t.pickupStallFull u = s.pickupStallFull u := by
  rw [State.pickupStallFull, State.stallsPickup, h.chan, h.chan, h.params]; rfl

/-- The stalls that an update finds. -/
def State.stallsFound (s : State) : Nat :=
  (s.stallFull .left (s.starvedArm .left s.arc.left)).toNat + (s.stallFull .right (s.starvedArm .right s.arc.right)).toNat +
    (s.pickupStallFull (s.starvedPickup s.arc.pickup)).toNat

theorem State.armSafety_stalls (s : State) : s.Stalls s.armSafety s.stallsFound := by
  have r1 := ReadsAs.starveArm s .left
  have r2 := r1.trans (.starveArm _ .right)
  have r3 := r2.trans (.starvePickup _)
  have r4 := r3.trans (.stallArm _ .left)
  have r5 := r4.trans (.stallArm _ .right)
  have starves := ((Stalls.starveArm s .left).then_none (.starveArm _ .right)).then_none (.starvePickup _)
  have found := ((starves.trans (.stallArm _ .left)).trans (.stallArm _ .right)).trans (.stallPickup _)
  rw [r3.stallFull, r4.stallFull, r5.pickupStallFull] at found
  simp only [State.stallArm_arc, State.starvePickup_arc, State.starveArm_arc, State.arm, Arc.arm, Arc.setArm,
    r1.starvedArm, r2.starvedPickup, Nat.zero_add] at found
  exact found

theorem State.armUpdate_stalls (s : State) : s.Stalls s.armUpdate s.stallsFound :=
  ((((s.armSafety_stalls.then_none (.armMotion _)).then_none (.armDrives _)).then_none (.armPublish _)).setArc _)

/-- An arm that starves is lifted before its stall is looked at. -/
theorem State.stallFull_starvedArm (s : State) (side : Side) (a : Arm) : s.stallFull side (s.starvedArm side a) =
    (a.state == .working && (s.pba.lane (armLane side)).out.state != .starved &&
      brushStalls (s.chan (brushChan side)) a.rpm && decide (s.params.stallTime ≤ a.stallTimer + 10)) := by
  by_cases starved : (s.pba.lane (armLane side)).out.state = .starved
  · have idle : (s.starvedArm side a).state ≠ .working := by
      unfold State.starvedArm
      split
      · exact (show ArmState.lifting ≠ .working by decide)
      · next h => exact fun working => h ⟨.inl working, starved⟩
    rw [State.stallFull, State.stallsArm_eq_false idle, starved, bne_self_eq_false, Bool.and_false]
    rfl
  · rw [State.starvedArm_fed starved, bne_iff_ne.mpr starved, Bool.and_true]; rfl

theorem State.pickupStallFull_starvedPickup (s : State) (u : Pickup) : s.pickupStallFull (s.starvedPickup u) =
    (u.state == .working && !((s.pba.lane .main).out.state == .starved || (s.pba.lane .fan).out.state == .starved) &&
      (brushStalls (s.chan .bmain) u.mainRpm || brushStalls (s.chan .fan) u.fanRpm) &&
      decide (s.params.stallTime ≤ u.stallTimer + 10)) := by
  have starves : ((s.pba.lane .main).out.state == .starved || (s.pba.lane .fan).out.state == .starved) = true ↔
      (s.pba.lane .main).out.state = .starved ∨ (s.pba.lane .fan).out.state = .starved := by
    rw [Bool.or_eq_true, beq_iff_eq, beq_iff_eq]
  by_cases starved : (s.pba.lane .main).out.state = .starved ∨ (s.pba.lane .fan).out.state = .starved
  · have idle : (s.starvedPickup u).state ≠ .working := by
      unfold State.starvedPickup
      split
      · exact Pickup.raised_idle _ _ _
      · next h => exact fun working => h ⟨working, starved⟩
    rw [State.pickupStallFull, State.stallsPickup_eq_false idle, starves.mpr starved, Bool.not_true, Bool.and_false]
    rfl
  · have fed : s.starvedPickup u = u := if_neg fun h => starved h.2
    rw [fed, Bool.eq_false_iff.mpr (mt starves.mp starved), Bool.not_false, Bool.and_true]; rfl

theorem exec_armUpdate (s : State) : exec .armUpdate s =
    .next (if s.arc.updateTimer.ranOut = true then s.armUpdate else s) := rfl

/-- Settles O41: the stalls of the update, then each unit on its record. -/
theorem armUpdateMovesArms : Obligations.ArmUpdateMovesArms := by
  intro s
  have updates (due : s.arc.updateTimer = some 0) : exec .armUpdate s = .next s.armUpdate := by
    rw [exec_armUpdate, if_pos ((Timer.ranOut_iff _).mpr due)]
  have posted {n : Nat} (stalls : s.Stalls s.armUpdate n) (some' : 0 < n) (q : PortId) :
      (s.armUpdate.port q).hasNotice .armStall = true := by rw [stalls.notice, decide_eq_true some', Bool.or_true]
  refine ⟨fun wait => by rw [exec_armUpdate, if_neg (mt (Timer.ranOut_iff _).mp wait)],
    fun t u v starved lags behind due done hu hv hbehind hstarved hlags => ?_,
    fun t side a b starved lags homed near due done ha hb hstarved hlags hhomed hnear => ?_⟩
  · have same : t = s.armUpdate := Host.Outcome.next.inj (done.symm.trans (updates due))
    subst same
    have stalls := s.armUpdate_stalls
    have pickup : v = s.updatedPickup u := by rw [hv, hu, State.armUpdate_arc]
    obtain rfl : behind = fun c rpm => brushStalls (s.chan c) rpm := funext fun c => funext fun rpm => hbehind c rpm
    obtain ⟨starves, stall, runs, rests⟩ := s.updatedPickup_moves u v starved lags pickup hstarved hlags
    refine ⟨starves, fun working fed lag long => ?_, runs, rests, fun n stalled hstalled hn => ?_⟩
    · have full : s.pickupStallFull (s.starvedPickup s.arc.pickup) = true := by
        rw [State.pickupStallFull_starvedPickup, ← hu, ← hstarved, ← hlags, working, fed, lag, decide_eq_true long]; rfl
      obtain ⟨cause, state, count⟩ := stall working fed lag long
      exact ⟨cause, state, count, posted stalls (by rw [State.stallsFound, full]; exact Nat.succ_pos _)⟩
    · have found : s.stallsFound = n := by
        rw [hn, hstalled, hstalled, hstarved, hlags, hu, State.stallsFound, State.stallFull_starvedArm, State.stallFull_starvedArm,
          State.pickupStallFull_starvedPickup]
        rfl
      rw [found] at stalls
      refine ⟨fun present some' => ?_, fun no => ?_, stalls.notice⟩
      · rw [stalls.counted, if_pos ⟨present, some'⟩]
      · rw [stalls.counted, if_neg]
        rintro ⟨present, some'⟩
        obtain h | h := no
        · rw [present] at h; cases h
        · omega
  · have same : t = s.armUpdate := Host.Outcome.next.inj (done.symm.trans (updates due))
    subst same
    have record : b = s.updatedArm side a := by rw [hb, ha, State.armUpdate_arm]
    obtain ⟨starves, stall, rest⟩ := s.updatedArm_moves side a b starved lags homed near record hstarved hlags hhomed hnear
    refine ⟨starves, fun fed working lag long => ?_, rest⟩
    have full : s.stallFull side (s.starvedArm side a) = true := by
      rw [State.stallFull_starvedArm, bne, ← hstarved, working, fed, ← show lags = brushStalls _ _ from hlags, lag,
        decide_eq_true long]
      rfl
    have some' : 0 < s.stallsFound := by
      unfold State.stallsFound
      subst ha
      cases side
      · rw [show s.stallFull .left (s.starvedArm .left s.arc.left) = true from full]
        exact Nat.add_pos_left (Nat.add_pos_left Nat.one_pos _) _
      · rw [show s.stallFull .right (s.starvedArm .right s.arc.right) = true from full]
        exact Nat.add_pos_left (Nat.add_pos_right _ Nat.one_pos) _
    obtain ⟨cause, state, count⟩ := stall fed working lag long
    exact ⟨cause, state, count, posted s.armUpdate_stalls some'⟩

end Sys2Proof.Machine

/-! PROOF. What one arm update leaves: slew outputs, speeds, levels, lanes with their clamps, the brush cap (R84, R91, R94): O40. -/

namespace Sys2Proof.Machine

/-! ## The movements raise no clamp of an arm, the broom or the fan -/

/-- The clamp flags of every lane but SPRY are those before. -/
def State.SameClamps (s t : State) : Prop := ∀ l, l ≠ .spry → ∀ k, (t.pba.lane l).clamp k = (s.pba.lane l).clamp k

namespace State.SameClamps

variable {s t u : State}

theorem trans (first : s.SameClamps t) (second : t.SameClamps u) : s.SameClamps u := fun l h k =>
  (second l h k).trans (first l h k)

theorem of_rfl (pba : t.pba = s.pba) : s.SameClamps t := fun l _ k => by rw [pba]

theorem setArm (h : s.SameClamps t) (side : Side) (x : Arm) : s.SameClamps (t.setArm side x) := h.trans (of_rfl rfl)

theorem setArc (h : s.SameClamps t) (r : Arc) : s.SameClamps { t with arc := r } := h.trans (of_rfl rfl)

theorem refl (s : State) : s.SameClamps s := of_rfl rfl

/-- A lane published inactive saturates nothing. -/
theorem laneOff (s : State) (l : LaneId) : s.SameClamps (s.publishLane l LaneReq.inactive) := by
  intro i _ k
  rw [State.publishLane_lane]
  split
  · next e =>
    rw [Lane.raise_clamp, e]
    exact (Bool.or_false _).trans (by cases k <;> rfl)
  · rfl

theorem refreshIf (s : State) (changed : Bool) : s.SameClamps (s.refreshIf changed) := fun l h k => by
  rw [State.refreshIf_lane _ _ h]

theorem liftArm (s : State) (side : Side) (c : Cause) : s.SameClamps (s.liftArm side c) := by
  rw [State.liftArm_eq]
  exact ((laneOff s _).setArm _ _).trans (refreshIf _ _)

theorem raisePickup (s : State) (c : Cause) : s.SameClamps (s.raisePickup c) := by
  rw [State.raisePickup_eq]
  have off : s.SameClamps s.pickupLanesOff := (laneOff s _).trans (laneOff _ _)
  exact (off.setArc _).trans (refreshIf _ _)

theorem starveArm (s : State) (side : Side) : s.SameClamps (s.starveArm side) := by
  obtain ⟨-, -, e⟩ | ⟨-, e⟩ := s.starveArm_cases side <;> rw [e]
  · exact liftArm _ _ _
  · exact refl _

theorem starvePickup (s : State) : s.SameClamps s.starvePickup := by
  unfold State.starvePickup
  split
  · exact raisePickup _ _
  · exact refl _

theorem stallEvent (s : State) : s.SameClamps s.stallEvent := of_rfl rfl

theorem stallArm (s : State) (side : Side) : s.SameClamps (s.stallArm side) := by
  obtain ⟨-, -, e⟩ | ⟨-, e⟩ := s.stallArm_cases side <;> rw [e]
  · exact (((refl s).setArm side _).trans (stallEvent _)).trans (liftArm _ _ _)
  · exact (refl s).setArm _ _

theorem stallPickup (s : State) : s.SameClamps s.stallPickup := by
  obtain ⟨-, -, e⟩ | ⟨-, e⟩ := s.stallPickup_cases <;> rw [e]
  · exact (((refl s).setArc _).trans (stallEvent _)).trans (raisePickup _ _)
  · exact (refl s).setArc _

theorem progressArm (s : State) (side : Side) : s.SameClamps (s.progressArm side) := by
  obtain ⟨-, -, e⟩ | ⟨x, e | ⟨-, -, -, e⟩⟩ := s.progressArm_cases side <;> rw [e]
  · exact ((refl s).setArm _ _).trans (liftArm _ _ _)
  · exact (refl s).setArm _ _
  · exact ((refl s).setArm _ _).trans (refreshIf _ _)

/-- Stages 1 to 4. -/
theorem moved (s : State) : s.SameClamps s.armSafety.armMotion := by
  have safety : s.SameClamps s.armSafety :=
    (((((starveArm s .left).trans (starveArm _ .right)).trans (starvePickup _)).trans (stallArm _ .left)).trans
      (stallArm _ .right)).trans (stallPickup _)
  exact (((safety.trans (progressArm _ .left)).trans (progressArm _ .right)).setArm _ _).setArm _ _

end State.SameClamps

/-! ## The lanes after an update -/

theorem State.armPublish_lane (s : State) {l : LaneId} {r : LaneReq}
    (published : l = .arml ∧ r = s.armReq .left ∨ l = .armr ∧ r = s.armReq .right ∨ l = .main ∧ r = s.mainReq ∨
      l = .fan ∧ r = s.fanReq) :
    s.armPublish.pba.lane l =
      ({ s.pba.lane l with req := { r with demand := min r.demand 2500, floor := min r.floor 2500 } } : Lane).raise .demand
        (decide (2500 < r.demand) || decide (2500 < r.floor)) := by
  obtain ⟨rfl, rfl⟩ | ⟨rfl, rfl⟩ | ⟨rfl, rfl⟩ | ⟨rfl, rfl⟩ := published <;> rfl

theorem State.armDrives_lane (s : State) {l : LaneId} {on : Bool} {q : Nat}
    (driven : l = .arml ∧ on = (s.arc.left.state == .working) ∧ q = s.armFlow ∨
      l = .armr ∧ on = (s.arc.right.state == .working) ∧ q = s.armFlow ∨
      l = .main ∧ on = (s.arc.pickup.state == .working) ∧ q = s.mainFlow ∨
      l = .fan ∧ on = (s.arc.pickup.state == .working) ∧ q = s.fanFlow) :
    s.armDrives.pba.lane l = (s.pba.lane l).raise .level (decide (4095 < if on then s.rawLevel l q else 0)) := by
  obtain ⟨rfl, rfl, rfl⟩ | ⟨rfl, rfl, rfl⟩ | ⟨rfl, rfl, rfl⟩ | ⟨rfl, rfl, rfl⟩ := driven <;> rfl

theorem State.armUpdate_pba (s : State) : s.armUpdate.pba = s.armStages.armPublish.pba := rfl

/-- The drives and the publication leave every unit in the state to which stages 1 to 4 have moved it. -/
theorem State.armUpdate_states (s : State) : s.armUpdate.arc.left.state = s.armSafety.armMotion.arc.left.state ∧
    s.armUpdate.arc.right.state = s.armSafety.armMotion.arc.right.state ∧
    s.armUpdate.arc.pickup.state = s.armSafety.armMotion.arc.pickup.state := by
  have drives (m : State) : m.armDrives.arc.left.state = m.arc.left.state ∧
      m.armDrives.arc.right.state = m.arc.right.state ∧ m.armDrives.arc.pickup.state = m.arc.pickup.state := by
    rw [State.armDrives_arc]; exact ⟨rfl, rfl, rfl⟩
  have published : s.armUpdate.arc = { s.armSafety.armMotion.armDrives.arc with
      cap := s.armStages.brushCap, updateTimer := some 10 } := by
    simp only [State.armUpdate, State.armPublish, State.publishLane_arc, State.armStages]
  obtain ⟨left, right, pickup⟩ := drives s.armSafety.armMotion
  rw [published]
  exact ⟨left, right, pickup⟩

/-- A lane after an update: its fields, and the two flags that the update may raise. -/
theorem State.armUpdate_lane (s : State) {l : LaneId} {on : Bool} {q : Nat} {r : LaneReq} {a : Arc} (arc : s.armUpdate.arc = a)
    (unit : l = .arml ∧ on = (a.left.state == .working) ∧ q = s.armFlow ∧ r = s.armStages.armReq .left ∨
      l = .armr ∧ on = (a.right.state == .working) ∧ q = s.armFlow ∧ r = s.armStages.armReq .right ∨
      l = .main ∧ on = (a.pickup.state == .working) ∧ q = s.mainFlow ∧ r = s.armStages.mainReq ∨
      l = .fan ∧ on = (a.pickup.state == .working) ∧ q = s.fanFlow ∧ r = s.armStages.fanReq) :
    (s.armUpdate.pba.lane l).req = { r with demand := min r.demand 2500, floor := min r.floor 2500 } ∧
    (s.armUpdate.pba.lane l).levelClamp =
      ((s.pba.lane l).levelClamp || on && decide (4095 < s.rawLevel l q)) ∧
    (s.armUpdate.pba.lane l).demandClamp =
      ((s.pba.lane l).demandClamp || (decide (2500 < r.demand) || decide (2500 < r.floor))) := by
  have reads : s.ReadsAs s.armSafety.armMotion := s.armSafety_reads.trans (armMotion_reads _)
  have other : l ≠ .spry := by
    obtain ⟨rfl, -⟩ | ⟨rfl, -⟩ | ⟨rfl, -⟩ | ⟨rfl, -⟩ := unit <;> decide
  have published := State.armPublish_lane s.armStages (l := l) (r := r) (by
    obtain ⟨h, -, -, e⟩ | ⟨h, -, -, e⟩ | ⟨h, -, -, e⟩ | ⟨h, -, -, e⟩ := unit
    · exact .inl ⟨h, e⟩
    · exact .inr (.inl ⟨h, e⟩)
    · exact .inr (.inr (.inl ⟨h, e⟩))
    · exact .inr (.inr (.inr ⟨h, e⟩)))
  obtain ⟨left, right, pickup⟩ := s.armUpdate_states
  rw [arc] at left right pickup
  have driven := State.armDrives_lane s.armSafety.armMotion (l := l) (on := on) (q := q) (by
    rw [← left, ← right, ← pickup, reads.armFlow, reads.mainFlow, reads.fanFlow]
    obtain ⟨h, o, f, -⟩ | ⟨h, o, f, -⟩ | ⟨h, o, f, -⟩ | ⟨h, o, f, -⟩ := unit
    · exact .inl ⟨h, o, f⟩
    · exact .inr (.inl ⟨h, o, f⟩)
    · exact .inr (.inr (.inl ⟨h, o, f⟩))
    · exact .inr (.inr (.inr ⟨h, o, f⟩)))
  have flag (k : ClampKind) : (s.armUpdate.pba.lane l).clamp k = (((s.pba.lane l).clamp k ||
      decide (4095 < if on then s.rawLevel l q else 0) && decide (k = .level)) ||
        (decide (2500 < r.demand) || decide (2500 < r.floor)) && decide (k = .demand)) := by
    rw [State.armUpdate_pba, published, Lane.raise_clamp]
    refine congrArg (· || _) (Eq.trans ?_ (congrArg (· || _) (SameClamps.moved s l other k)))
    rw [← reads.rawLevel, ← Lane.raise_clamp]
    rw [← driven]; cases k <;> rfl
  refine ⟨?_, ?_, ?_⟩
  · rw [State.armUpdate_pba, published]; rfl
  · refine (flag .level).trans ?_
    cases on <;> simp [Lane.clamp]
  · refine (flag .demand).trans ?_
    simp [Lane.clamp]

/-! ## The slew outputs (R84) -/

section slew

variable {s : State} {side : Side} {a : Arm}

/-- Where the slew loop runs. -/
theorem State.slewedArm_runs (runs : a.state.runsLoop (s.armHomed side) = true) {e : Int}
    (he : e = a.slewTarget - s.position side) :
    (s.slewedArm side a).onTarget = decide (e.natAbs ≤ s.params.deadband) ∧
    (s.slewedArm side a).slewPlus =
      (if s.params.deadband < e.natAbs ∧ 0 < e then min s.params.slewMaxLevel (e.natAbs * s.params.kslew) else 0) ∧
    (s.slewedArm side a).slewMinus =
      (if s.params.deadband < e.natAbs ∧ e < 0 then min s.params.slewMaxLevel (e.natAbs * s.params.kslew) else 0) := by
  unfold State.slewedArm withinDeadband
  rw [if_pos runs, ← he]
  by_cases near : e.natAbs ≤ s.params.deadband
  · rw [if_pos (decide_eq_true near), decide_eq_true near, if_neg (by omega), if_neg (by omega)]
    exact ⟨rfl, rfl, rfl⟩
  · rw [if_neg (by rw [decide_eq_true_eq]; exact near), decide_eq_false near]
    by_cases forward : 0 < e
    · rw [if_pos forward, if_pos ⟨by omega, forward⟩, if_neg (by omega)]
      exact ⟨rfl, rfl, rfl⟩
    · rw [if_neg forward, if_neg (by omega), if_pos ⟨by omega, by omega⟩]
      exact ⟨rfl, rfl, rfl⟩

theorem State.slewedArm_homing (homing : a.state = .homing ∨ a.state = .lifting ∧ s.armHomed side = false) :
    (s.slewedArm side a).onTarget = false ∧ (s.slewedArm side a).slewPlus = 0 ∧
      (s.slewedArm side a).slewMinus = s.params.homingLevel := by
  unfold State.slewedArm
  obtain h | ⟨h, lost⟩ := homing
  · rw [h, if_neg (by simp [ArmState.runsLoop])]; exact ⟨rfl, rfl, rfl⟩
  · rw [h, lost, if_neg (by simp [ArmState.runsLoop])]; exact ⟨rfl, rfl, rfl⟩

theorem State.slewedArm_rest (rest : a.state = .stowed ∨ a.state = .fault) :
    (s.slewedArm side a).onTarget = false ∧ (s.slewedArm side a).slewPlus = 0 ∧ (s.slewedArm side a).slewMinus = 0 := by
  unfold State.slewedArm
  obtain h | h := rest <;> rw [h, if_neg (by simp [ArmState.runsLoop])] <;> exact ⟨rfl, rfl, rfl⟩

theorem State.slewedArm_same (s : State) (side : Side) (a : Arm) :
    (s.slewedArm side a).state = a.state ∧ (s.slewedArm side a).slewTarget = a.slewTarget := by
  unfold State.slewedArm
  dsimp only
  split
  · split
    · exact ⟨rfl, rfl⟩
    · split <;> exact ⟨rfl, rfl⟩
  · split <;> exact ⟨rfl, rfl⟩

end slew

/-! ## The least of the caps (R94) -/

theorem leastCap_eq_some {x y : Option Nat} {c : Nat} (h : leastCap x y = some c) : x = some c ∨ y = some c := by
  cases x <;> cases y <;> simp_all [leastCap]
  omega

theorem leastCap_le_left {x y : Option Nat} {c : Nat} (h : x = some c) : ∃ d, leastCap x y = some d ∧ d ≤ c := by
  subst h
  cases y with
  | none => exact ⟨c, rfl, le_rfl⟩
  | some z => exact ⟨min c z, rfl, min_le_left _ _⟩

theorem leastCap_le_right {x y : Option Nat} {c : Nat} (h : y = some c) : ∃ d, leastCap x y = some d ∧ d ≤ c := by
  subst h
  cases x with
  | none => exact ⟨c, rfl, le_rfl⟩
  | some z => exact ⟨min z c, rfl, min_le_right _ _⟩

theorem leastCap_le_of_right {x y : Option Nat} {c : Nat} (h : ∃ d, y = some d ∧ d ≤ c) : ∃ d, leastCap x y = some d ∧ d ≤ c := by
  obtain ⟨d, e, le⟩ := h
  obtain ⟨b, e, le'⟩ := leastCap_le_right (x := x) e
  exact ⟨b, e, le'.trans le⟩

/-! ## O40 -/

theorem State.rawLevel_granted (s : State) (l : LaneId) (q : Nat) : s.rawLevel l q =
    if (s.pba.lane l).out.state = .full ∨ (s.pba.lane l).out.state = .part then
      roundDivNat (min (s.pba.lane l).out.flow q * 4095) (s.params.qfs l) else 0 := by
  unfold State.rawLevel levelOf
  cases (s.pba.lane l).out.state <;> rfl

/-- The fields that an active lane asks for, limited; an inactive lane asks for nothing. -/
theorem laneReq_limited (on : Bool) (q d f : Nat) (r : LaneReq)
    (hr : r = if on then { active := true, flow := q, demand := d, floor := f } else LaneReq.inactive) :
    ({ r with demand := min r.demand 2500, floor := min r.floor 2500 } : LaneReq) =
      (if on then { active := true, flow := q, demand := min 2500 d, floor := min 2500 f } else LaneReq.inactive) ∧
    (decide (2500 < r.demand) || decide (2500 < r.floor)) = (on && (decide (2500 < d) || decide (2500 < f))) := by
  subst hr
  cases on
  · exact ⟨rfl, rfl⟩
  · exact ⟨by simp only [if_true, min_comm], rfl⟩

theorem State.armStages_armReq (s : State) (side : Side) : s.armStages.armReq side =
    if (s.armUpdate.arm side).laneActive then
      { active := true, flow := s.armFlow, demand := powerOf s.armFlow (s.pba.pressure (armLane side)),
        floor := powerOf (flowFor s.profile.a0 s.params.armDisp) (s.pba.pressure (armLane side)) }
    else LaneReq.inactive := by
  have reads := s.armStages_reads
  have arm : s.armStages.arm side = s.armUpdate.arm side := by
    rw [State.armUpdate_arm, State.arm, State.armStages_arc]; cases side <;> rfl
  rw [State.armReq, arm, reads.armFlow, reads.pressure, reads.profile, reads.params]

theorem State.armStages_pickup (s : State) : s.armStages.arc.pickup = s.armUpdate.arc.pickup := by
  rw [State.armUpdate_arc, State.armStages_arc]

theorem State.armStages_mainReq (s : State) : s.armStages.mainReq =
    if s.armUpdate.arc.pickup.state == .working then
      { active := true, flow := s.mainFlow, demand := powerOf s.mainFlow (s.pba.pressure .main),
        floor := powerOf (flowFor s.profile.m0 s.params.mainDisp) (s.pba.pressure .main) }
    else LaneReq.inactive := by
  have reads := s.armStages_reads
  rw [State.mainReq, State.armStages_pickup, reads.mainFlow, reads.pressure, reads.profile, reads.params]
  cases s.armUpdate.arc.pickup.state <;> rfl

theorem State.armStages_fanReq (s : State) : s.armStages.fanReq =
    if s.armUpdate.arc.pickup.state == .working then
      { active := true, flow := s.fanFlow, demand := powerOf s.fanFlow (s.pba.pressure .fan),
        floor := powerOf (ceilDiv (s.profile.fanRpm * s.params.fanDisp * s.params.fanFloorPct) 10000) (s.pba.pressure .fan) }
    else LaneReq.inactive := by
  have reads := s.armStages_reads
  rw [State.fanReq, State.armStages_pickup, reads.fanFlow, reads.pressure, reads.profile, reads.params]
  cases s.armUpdate.arc.pickup.state <;> rfl

/-- What an update leaves at the outputs of an arm, by its state then. -/
theorem State.updatedArm_outputs (s : State) (side : Side) (b : Arm) {a : Arm} (ha : a = s.updatedArm side b) {e : Int}
    (he : e = a.slewTarget - s.position side) :
    (a.state = .deploying ∨ a.state = .working ∨ a.state = .lifting ∧ s.armHomed side = true →
      a.onTarget = decide (e.natAbs ≤ s.params.deadband) ∧
      a.slewPlus = (if s.params.deadband < e.natAbs ∧ 0 < e then min s.params.slewMaxLevel (e.natAbs * s.params.kslew) else 0) ∧
      a.slewMinus = (if s.params.deadband < e.natAbs ∧ e < 0 then min s.params.slewMaxLevel (e.natAbs * s.params.kslew) else 0)) ∧
    (a.state = .homing ∨ a.state = .lifting ∧ s.armHomed side = false →
      a.onTarget = false ∧ a.slewPlus = 0 ∧ a.slewMinus = s.params.homingLevel) ∧
    (a.state = .stowed ∨ a.state = .fault → a.onTarget = false ∧ a.slewPlus = 0 ∧ a.slewMinus = 0) ∧
    (a.state = .working → a.brushLevel = min 4095 (s.rawLevel (armLane side) s.armFlow) ∧
      a.rpm = min s.armCurveRpm (rpmOf (s.pba.lane (armLane side)).out.flow s.params.armDisp)) ∧
    (a.state ≠ .working → a.brushLevel = 0 ∧ a.rpm = 0) := by
  unfold State.updatedArm at ha
  generalize s.progressedArm side (s.stalledArm side (s.starvedArm side b)) = x at ha
  obtain ⟨same, target⟩ := s.slewedArm_same side x
  have state : x.state = a.state := by rw [ha]; exact same.symm
  have error : e = x.slewTarget - s.position side := by rw [he, ha]; exact congrArg (· - s.position side) target
  refine ⟨fun runs => ?_, fun homing => ?_, fun rest => ?_, fun working => ?_, fun idle => ?_⟩
  · have runs : x.state.runsLoop (s.armHomed side) = true := by
      rw [state]
      obtain h | h | ⟨h, ref⟩ := runs
      · rw [h]; rfl
      · rw [h]; rfl
      · rw [h]; exact ref
    rw [ha]
    exact State.slewedArm_runs runs error
  · rw [← state] at homing
    rw [ha]
    exact State.slewedArm_homing homing
  · rw [← state] at rest
    rw [ha]
    exact State.slewedArm_rest rest
  · have working : (s.slewedArm side x).state = .working := by rw [same, state, working]
    rw [ha, State.brushedArm, working, min_comm 4095]
    exact ⟨rfl, rfl⟩
  · have idle : ((s.slewedArm side x).state == .working) = false := by rw [same, state]; exact beq_eq_false_iff_ne.mpr idle
    rw [ha, State.brushedArm, idle]
    exact ⟨rfl, rfl⟩

/-- What an update leaves at the outputs of the pickup, by its state then. -/
theorem State.updatedPickup_outputs (s : State) (v : Pickup) {u : Pickup} (hu : u = s.updatedPickup v) {on : Bool}
    (hon : on = (u.state == .working)) :
    u.mainLevel = (if on then min 4095 (s.rawLevel .main s.mainFlow) else 0) ∧
    u.mainRpm = (if on then min s.mainCurveRpm (rpmOf (s.pba.lane .main).out.flow s.params.mainDisp) else 0) ∧
    u.fanLevel = (if on then min 4095 (s.rawLevel .fan s.fanFlow) else 0) ∧
    u.fanRpm = (if on then min s.profile.fanRpm (rpmOf (s.pba.lane .fan).out.flow s.params.fanDisp) else 0) := by
  unfold State.updatedPickup at hu
  generalize s.stalledPickup (s.starvedPickup v) = x at hu
  have state : (x.state == .working) = on := by rw [hon, hu]; rfl
  rw [hu, State.brushedPickup, state, min_comm 4095, min_comm 4095]
  cases on <;> exact ⟨rfl, rfl, rfl, rfl⟩

/-- The candidate of an arm after the update. -/
theorem State.armStages_armCandidate (s : State) (side : Side) : s.armStages.armCandidate side =
    if (s.armUpdate.arm side).state = .working ∧ (s.pba.lane (armLane side)).out.state = .part then
      s.profile.armCurve.inverse (rpmOf (s.pba.lane (armLane side)).out.flow s.params.armDisp) else none := by
  have reads := s.armStages_reads
  have arm : s.armStages.arm side = s.armUpdate.arm side := by
    rw [State.armUpdate_arm, State.arm, State.armStages_arc]; cases side <;> rfl
  rw [State.armCandidate, arm, reads.out, reads.profile, reads.params]

theorem State.armStages_mainCandidate (s : State) : s.armStages.mainCandidate =
    if s.armUpdate.arc.pickup.state = .working ∧ (s.pba.lane .main).out.state = .part then
      s.profile.mainCurve.inverse (rpmOf (s.pba.lane .main).out.flow s.params.mainDisp) else none := by
  have reads := s.armStages_reads
  rw [State.mainCandidate, State.armStages_pickup, reads.out, reads.profile, reads.params]

theorem State.armUpdate_cap (s : State) : s.armUpdate.arc.cap = if s.tgv.mode = .sweep then
    leastCap (s.armStages.armCandidate .left) (leastCap (s.armStages.armCandidate .right) s.armStages.mainCandidate)
    else none := by
  have cap : s.armUpdate.arc.cap = s.armStages.brushCap := by rw [State.armUpdate_arc]
  rw [cap, State.brushCap, s.armStages_reads.tgv]

theorem candidate_eq_some {P : Prop} [Decidable P] {x : Option Nat} {c : Nat} (h : (if P then x else none) = some c) :
    P ∧ x = some c := by
  split at h
  · next p => exact ⟨p, h⟩
  · cases h

/-- Settles O40: each unit on its record and its lanes, the cap from its three candidates. -/
theorem armUpdateDrivesOutputs : Obligations.ArmUpdateDrivesOutputs := by
  intro s raw flow power rpm req p pr armSpeed mainSpeed fanFloor due hp hpr harm hmain hfan hraw hflow hrpm hpower hreq
  have raw_eq (l : LaneId) (q : Nat) : s.rawLevel l q = raw l q := by rw [hraw, hp]; exact State.rawLevel_granted s l q
  have armFlow : s.armFlow = flow armSpeed p.armDisp := by rw [hflow, harm, hp, hpr]; rfl
  have mainFlow : s.mainFlow = flow mainSpeed p.mainDisp := by rw [hflow, hmain, hp, hpr]; rfl
  have fanFlow : s.fanFlow = flow pr.fanRpm p.fanDisp := by rw [hflow, hp, hpr]; rfl
  have armCurve : s.armCurveRpm = armSpeed := by rw [harm, hpr]; rfl
  have mainCurve : s.mainCurveRpm = mainSpeed := by rw [hmain, hpr]; rfl
  have power_eq (l : LaneId) (q : Nat) : powerOf q (s.pba.pressure l) = power l q := (hpower l q).symm
  have flow_eq (n d : Nat) : flowFor n d = flow n d := (hflow n d).symm
  have rpm_eq (l : LaneId) (d : Nat) : rpmOf (s.pba.lane l).out.flow d = rpm l d := (hrpm l d).symm
  have updates : exec .armUpdate s = .next s.armUpdate := by rw [exec_armUpdate, if_pos ((Timer.ranOut_iff _).mpr due)]
  have arm := s.armUpdate_arm
  have pickup : s.armUpdate.arc.pickup = s.updatedPickup s.arc.pickup := by rw [State.armUpdate_arc]
  have timer : s.armUpdate.arc.updateTimer = some 10 := by rw [State.armUpdate_arc]
  have lane {l : LaneId} {on : Bool} {q : Nat} {r : LaneReq} := s.armUpdate_lane (l := l) (on := on) (q := q) (r := r) rfl
  have armReq := s.armStages_armReq
  have mainReq := s.armStages_mainReq
  have fanReq := s.armStages_fanReq
  have cap := s.armUpdate_cap
  rw [State.armStages_armCandidate, State.armStages_armCandidate, State.armStages_mainCandidate, ← hpr, ← hp, rpm_eq, rpm_eq, rpm_eq]
    at cap
  have notices := ((State.Raises.armKept s).armUpdate (.of_rfl rfl rfl)).notice_eq
  have frame := And.intro s.armUpdate_ctu (And.intro s.armUpdate_tgv (And.intro s.armUpdate_pft (And.intro s.armUpdate_clt
    (And.intro s.armUpdate_cfs (And.intro s.armUpdate_out (Pba.eq_of_around s.armUpdate_around))))))
  generalize s.armUpdate = t at updates arm pickup timer lane armReq mainReq fanReq cap notices frame
  generalize s.armStages = m at lane armReq mainReq fanReq
  refine ⟨t, updates, timer, fun side a e l q floor on ha he hl hq hfloor hon => ?_, fun u on q qf hu hon hq hqf => ?_,
    notices, ?_, ?_, ?_, ?_, frame⟩
  · subst hl
    have asked : m.armReq side =
        if on then { active := true, flow := q, demand := power (armLane side) q, floor := power (armLane side) floor }
        else LaneReq.inactive := by
      rw [armReq, ← ha, hon, hq, hfloor, armFlow, power_eq, flow_eq, ← hp, ← hpr, power_eq]; rfl
    obtain ⟨limited, clamped⟩ := laneReq_limited _ _ _ _ _ asked
    obtain ⟨fields, level, demand⟩ := lane (l := armLane side) (on := a.state == .working) (q := q) (r := m.armReq side) (by
        rw [hq, ← armFlow, ha]
        cases side
        · exact .inl ⟨rfl, rfl, rfl, rfl⟩
        · exact .inr (.inl ⟨rfl, rfl, rfl, rfl⟩))
    obtain ⟨runs, homing, rest, working, idle⟩ := s.updatedArm_outputs side (s.arm side) (ha.trans (arm side)) he
    rw [raw_eq, armFlow, ← hq, armCurve, rpm_eq, ← hp] at working
    rw [← hp] at runs homing
    exact ⟨runs, homing, rest, working, idle, by rw [fields, limited, hreq], by rw [level, raw_eq], by rw [demand, clamped]⟩
  · have mainAsked : m.mainReq = if on then
        { active := true, flow := q, demand := power .main q, floor := power .main (flow pr.m0 p.mainDisp) }
        else LaneReq.inactive := by
      rw [mainReq, ← hu, hon, hq, mainFlow, power_eq, flow_eq, ← hp, ← hpr, power_eq]
    have fanAsked : m.fanReq = if on then
        { active := true, flow := qf, demand := power .fan qf, floor := power .fan fanFloor } else LaneReq.inactive := by
      rw [fanReq, ← hu, hon, hqf, fanFlow, power_eq, ← hp, ← hpr, ← hfan, power_eq]
    obtain ⟨mainLimited, mainClamped⟩ := laneReq_limited _ _ _ _ _ mainAsked
    obtain ⟨fanLimited, fanClamped⟩ := laneReq_limited _ _ _ _ _ fanAsked
    obtain ⟨mainFields, mainLevel, mainDemand⟩ := lane (l := .main) (on := on) (q := q) (r := m.mainReq)
      (.inr (.inr (.inl ⟨rfl, by rw [hon, hu], by rw [hq, mainFlow], rfl⟩)))
    obtain ⟨fanFields, fanLevel, fanDemand⟩ := lane (l := .fan) (on := on) (q := qf) (r := m.fanReq)
      (.inr (.inr (.inr ⟨rfl, by rw [hon, hu], by rw [hqf, fanFlow], rfl⟩)))
    obtain ⟨main, mainRpm, fan, fanRpm⟩ := s.updatedPickup_outputs _ (hu.trans pickup) hon
    rw [raw_eq, mainFlow, ← hq] at main
    rw [mainCurve, rpm_eq, ← hp] at mainRpm
    rw [raw_eq, fanFlow, ← hqf] at fan
    rw [rpm_eq, ← hp, ← hpr] at fanRpm
    exact ⟨main, mainRpm, fan, fanRpm, by rw [mainFields, mainLimited, hreq], by rw [fanFields, fanLimited, hreq],
      by rw [mainLevel, raw_eq], by rw [fanLevel, raw_eq], by rw [mainDemand, mainClamped], by rw [fanDemand, fanClamped]⟩
  · exact fun other => cap.trans (if_neg other)
  · intro c some'
    rw [cap] at some'
    by_cases sweep : s.tgv.mode = .sweep
    · rw [if_pos sweep] at some'
      refine ⟨sweep, ?_⟩
      obtain h | h := leastCap_eq_some some'
      · obtain ⟨⟨working, part⟩, e⟩ := candidate_eq_some h
        exact .inl ⟨.left, working, part, e⟩
      obtain h | h := leastCap_eq_some h
      · obtain ⟨⟨working, part⟩, e⟩ := candidate_eq_some h
        exact .inl ⟨.right, working, part, e⟩
      · obtain ⟨⟨working, part⟩, e⟩ := candidate_eq_some h
        exact .inr ⟨working, part, e⟩
    · rw [if_neg sweep] at some'; cases some'
  · intro side c sweep working part e
    rw [cap, if_pos sweep]
    cases side
    · exact leastCap_le_left ((if_pos ⟨working, part⟩).trans e)
    · exact leastCap_le_of_right (leastCap_le_left ((if_pos ⟨working, part⟩).trans e))
  · intro c sweep working part e
    rw [cap, if_pos sweep]
    exact leastCap_le_of_right (leastCap_le_right ((if_pos ⟨working, part⟩).trans e))

end Sys2Proof.Machine

/-! PROOF. The Spray Controller: the refresh, SPRAY_SET, TANK, pulses and marks (Chapter 7): O42 to O44. -/

namespace Sys2Proof.Machine

/-! ## The refresh (R116 to R127) -/

/-- The publication of the SPRY lane posts CLAMP alone. -/
theorem State.posts_publishSpry (s : State) : s.Posts (· == .clamp) s.publishSpry := by
  unfold State.publishSpry
  split
  · exact .refl _
  · exact (State.Posts.of_postAllIf (k := .clamp) (t := s.publishLane .spry s.spryReq) rfl rfl).trans
      (.of_postAllIf (k := .clamp) rfl rfl)

theorem State.sprayRefresh_noticed (s : State) (q : PortId) {k : Notice} (other : (k == .clamp) = false) :
    (s.sprayRefresh.port q).hasNotice k = (s.settleBanks.port q).hasNotice k := s.settleBanks.posts_publishSpry.only other

theorem State.sprayRefresh_termsOf (s : State) (i : BankId) : s.sprayRefresh.termsOf i = s.settleBanks.termsOf i :=
  State.termsOf_congr (by simp [State.sprayRefresh]) (by simp [State.sprayRefresh]) (by simp [State.sprayRefresh])
    (by simp [State.sprayRefresh]) (by simp [State.sprayRefresh]) (by simp [State.sprayRefresh])
    (by rw [State.sprayRefresh, State.publishSpry_banks]) (by rw [State.sprayRefresh, State.publishSpry_estimate])

theorem State.sprayRefresh_bank (s : State) (i : BankId) : s.sprayRefresh.spc.banks.get i =
    (s.spc.banks.get i).settled (s.termsOf i) (s.sprayRefresh.termsOf i) (s.params.nozzleFlow i) := by
  rw [State.sprayRefresh_termsOf, ← State.settleBanks_bank, State.sprayRefresh, State.publishSpry_banks]

/-- A permissive that the closings take away fails T2 and no other term: the tank alone has changed (R122). -/
theorem State.settleBanks_fails {s : State} {i : BankId} (before : (s.termsOf i).all = true)
    (after : (s.settleBanks.termsOf i).all = false) : s.settleBanks.termsOf i = { s.termsOf i with t2 := false } := by
  rw [State.settleBanks_termsOf] at after ⊢
  cases full : decide (s.params.reserve < s.settleBanks.spc.estimate) with
  | false => rw [State.termsAt, full]
  | true =>
    have same : s.termsAt s.settleBanks.spc.estimate i = s.termsOf i := by
      have full2 : (s.termsOf i).t2 = true := by
        simp only [Terms.all, Bool.and_eq_true] at before
        exact before.1.1.1.1.1.2
      rw [State.termsAt, full, ← full2]
    rw [same, before] at after
    cases after

/-- The latch after both evaluations (R119). -/
theorem Bank.settled_firstFailing (b : Bank) {before after : Terms} (flow : Nat)
    (fails : before.all = true → after.all = false → after = { before with t2 := false }) :
    (b.settled before after flow).firstFailing =
      if b.terms.all && before.t1 && !before.all then before.firstFalse
      else if before.all && !after.all then some .t2
      else b.firstFailing := by
  unfold Bank.settled Bank.evaluated Bank.loses
  dsimp only
  cases hb : before.all with
  | false =>
    simp only [Bool.false_and, Bool.false_eq_true, if_false, Bool.not_false, Bool.and_true]
  | true =>
    have first : before.t1 = true := by
      simp only [Terms.all, Bool.and_eq_true] at hb
      exact hb.1.1.1.1.1.1
    cases ha : after.all with
    | true => simp
    | false =>
      have t2 := fails hb ha
      have latched : after.t1 = true ∧ after.firstFalse = some .t2 := by
        rw [t2]
        exact ⟨first, by simp [Terms.firstFalse, first]⟩
      simp [latched]

/-- The millilitres of a refresh, bank by bank. -/
theorem State.settledMl_of_closed (s : State) {ml : BankId → Nat}
    (h : ∀ i, ml i = if (s.spc.banks.get i).valve = true ∧ (s.sprayRefresh.spc.banks.get i).valve = false then
      ((s.spc.banks.get i).remainder + s.params.nozzleFlow i * (s.spc.banks.get i).openTime) / 1000 else 0) :
    s.settledMl = ml .b0 + ml .b1 + ml .b2 + ml .b3 := by
  refine State.settledMl_eq s ml fun i => ?_
  rw [h, State.sprayRefresh_bank, Bank.settled_valve, State.sprayRefresh_termsOf, Bank.closingMl]
  refine if_congr ?_ rfl rfl
  cases (s.spc.banks.get i).valve <;> simp

/-- The banks that lose their permissive with T1 true, in the first evaluation or by the closings. -/
theorem State.blocks_eq (s : State) : s.blocks = [BankId.b0, .b1, .b2, .b3].any fun i =>
    (s.spc.banks.get i).terms.all && (s.termsOf i).t1 && !(s.termsOf i).all ||
      (s.termsOf i).all && !(s.settleBanks.termsOf i).all := by
  have first (i : BankId) : (s.spc.banks.get i).loses (s.termsOf i) =
      ((s.spc.banks.get i).terms.all && (s.termsOf i).t1 && !(s.termsOf i).all) := by
    rw [Bank.loses, Bool.and_right_comm]
  have second (i : BankId) : (s.closingRound.spc.banks.get i).loses (s.closingRound.termsOf i) =
      ((s.termsOf i).all && !(s.settleBanks.termsOf i).all) := by
    rw [Bank.loses, State.closingRound_bank, Bank.rounded_terms, State.closingRound_termsOf_eq]
    cases before : (s.termsOf i).all with
    | false => rfl
    | true =>
      cases after : (s.settleBanks.termsOf i).all with
      | true => rfl
      | false =>
        rw [State.settleBanks_fails before after]
        simp only [Terms.all, Bool.and_eq_true] at before
        exact before.1.1.1.1.1.1
  have any (v : PerBank Bank) (p : BankId → Bank → Bool) :
      v.any p = [BankId.b0, .b1, .b2, .b3].any fun i => p i (v.get i) := by
    simp only [PerBank.any, PerBank.get, List.any_cons, List.any_nil, Bool.or_false, Bool.or_assoc]
  rw [State.blocks, any, any]
  simp only [first, second, List.any_cons, List.any_nil, Bool.or_false]
  ac_rfl

/-- The SPRY lane follows the banks, where the pump's figures are within the range of the lane (R127). -/
theorem State.publishSpry_req {s : State} (power : s.params.pumpPower ≤ 2500) (floor : s.params.pumpFloor ≤ 2500) :
    (s.publishSpry.pba.lane .spry).req = s.spryReq := by
  unfold State.publishSpry
  split
  · next same => exact same.symm
  · have within : s.spryReq.demand ≤ 2500 ∧ s.spryReq.floor ≤ 2500 := by
      unfold State.spryReq
      split
      · exact ⟨power, floor⟩
      · exact ⟨by decide, by decide⟩
    rw [State.setPump_lane, if_pos rfl, State.publishLane_lane, if_pos rfl]
    exact (congrArg₂ (fun d f => ({ s.spryReq with demand := d, floor := f } : LaneReq)) (min_eq_left within.1)
      (min_eq_left within.2))

/-- Settles O42: the banks after both rounds of evaluation and closing, then the notices and the SPRY lane. -/
theorem refreshClosesValves : Obligations.RefreshClosesValves := by
  intro s t ml ht hml
  subst ht
  have water := s.settledMl_of_closed hml
  have fails {i : BankId} (before : (s.termsOf i).all = true) (after : (s.sprayRefresh.termsOf i).all = false) :
      s.sprayRefresh.termsOf i = { s.termsOf i with t2 := false } := by
    rw [State.sprayRefresh_termsOf] at after ⊢
    exact State.settleBanks_fails before after
  refine ⟨fun i b c hb hc => ?_, ?_, ?_, fun p => ⟨?_, ?_⟩, fun power floor => ?_, State.sprayRefresh_arc s, State.sprayRefresh_ctu s,
    State.sprayRefresh_tgv s, State.sprayRefresh_clt s, State.sprayRefresh_cfs s⟩
  · rw [State.sprayRefresh_bank, ← hb] at hc
    have terms : c.terms = s.sprayRefresh.termsOf i := by rw [hc]; rfl
    have valve : c.valve = (b.valve && c.terms.all) := by rw [terms, hc, Bank.settled_valve]
    refine ⟨terms, valve, fun opened shut => ?_, ?_, ?_⟩
    · rw [valve, opened, Bool.true_and, terms] at shut
      rw [hc, Bank.settled_of_lost _ _ opened shut]
      exact ⟨rfl, rfl, rfl⟩
    · rw [terms, hc]
      exact Bank.settled_firstFailing b _ fails
    · rw [hc, Bank.settled]
      split <;> exact ⟨rfl, rfl, rfl, rfl⟩
  · rw [← water, State.sprayRefresh, State.publishSpry_estimate, State.settleBanks_estimate]
  · rw [← water, State.sprayRefresh, State.publishSpry_sge, State.settleBanks_sge]
    rfl
  · have terms (i : BankId) : (s.sprayRefresh.spc.banks.get i).terms = s.settleBanks.termsOf i := by
      rw [State.sprayRefresh_bank, Bank.settled_terms, State.sprayRefresh_termsOf]
    rw [State.sprayRefresh_noticed _ _ rfl, State.settleBanks_noticed, State.blocks_eq]
    simp only [terms, decide_true, Bool.and_true, show decide (Notice.sprayBlock = .tankReserve) = false from rfl, Bool.and_false,
      Bool.or_false]
  · rw [State.sprayRefresh_noticed _ _ rfl, State.settleBanks_noticed, State.sprayRefresh, State.publishSpry_estimate]
    simp only [decide_true, Bool.and_true, show decide (Notice.tankReserve = .sprayBlock) = false from rfl, Bool.and_false,
      Bool.or_false]
    rfl
  · rw [State.sprayRefresh, State.publishSpry_req (s := s.settleBanks) power floor, State.publishSpry_banks]
    rfl

/-! ## SPRAY_SET (R113, R114, R120) -/

theorem PerBank.map_eq_ofFn {α β : Type} (v : PerBank α) (g : BankId → α → β) :
    v.map g = PerBank.ofFn fun i => g i (v.get i) := rfl

theorem maskBit_setWidth (m : Byte) (i : BankId) : maskBit (m.setWidth 4) i = m.getLsbD (match i with
    | .b0 => 0
    | .b1 => 1
    | .b2 => 2
    | .b3 => 3) := by
  cases i <;> simp [maskBit]

/-- A bank under a setting with enables. -/
theorem Bank.withSetting_eq (b : Bank) (p : Params) (pr : Profile) (m : BitVec 4) (dose : Option Nat) (i : BankId) {eff width : Nat}
    {raised : Bool} (hEff : eff = dose.getD (pr.dose.get i))
    (hWidth : width = roundDivNat (eff * p.sprayInterval) (p.nozzleFlow i))
    (hRaised : raised = (decide (0 < eff) && decide (width = 0))) :
    b.withSetting p pr (some m) dose i = { b with
      enabled := maskBit m i
      dose := dose
      firstFailing := none
      doseShort := false
      doseInEffect := eff
      width := if raised then 1 else width
      widthClamp := raised } := by
  subst hRaised hWidth hEff
  rfl

theorem limitDose_doseOf (hi lo : Byte) : limitDose (doseOf hi lo) = doseOf hi lo ↔ ¬(500 < u16 hi lo ∧ u16 hi lo ≠ 65535) := by
  unfold limitDose doseOf
  split
  · next absent => simp [absent]
  · next present =>
    simp only [Option.map_some, Option.some.injEq, ne_eq, present, not_false_eq_true, and_true]
    omega

/-- Settles O43: the setting of each bank, and CLAMP where one of them raises a width. -/
theorem spraySettings : Obligations.SpraySettings := by
  intro s t f dose eff width raised heard held hdose hbank ht
  have limited : limitDose (sprayDoseOf f) = dose := by
    rw [hdose, sprayDoseOf, doseOf, limitDose]
    split <;> rfl
  have bank (i : BankId) (b : Bank) := Bank.withSetting_eq b s.params s.profile (sprayMaskOf f) dose i
    (hbank i).1 (hbank i).2.1 (hbank i).2.2
  have banks : (s.spc.banks.map fun i b => b.withSetting s.params s.profile (some (sprayMaskOf f)) dose i) = t.spc.banks := by
    rw [ht, PerBank.map_eq_ofFn]
    dsimp only
    refine congrArg PerBank.ofFn (funext fun i => ?_)
    rw [bank, sprayMaskOf, maskBit_setWidth] <;> rfl
  have flags : (s.spc.banks.any fun i b => (b.withSetting s.params s.profile (some (sprayMaskOf f)) dose i).widthClamp) =
      (raised .b0 || raised .b1 || raised .b2 || raised .b3) := by
    simp only [PerBank.any, bank]
  have set : (s.atBlock f).spraySetting (some (sprayMaskOf f)) dose = t.sprayRefresh := by
    refine congrArg State.sprayRefresh (Eq.trans ?_ ht.symm)
    rw [State.atBlock_spc, State.atBlock_params, State.atBlock_profile, banks, flags, ht]
  refine exec_replied .spraySet heard ((gated_of_cab (t := s.atBlock f) (r := .spray) held).trans ?_)
  rw [limited, set, ← limited, sprayDoseOf]
  exact congrArg _ ((if_congr (limitDose_doseOf _ _) rfl rfl).trans (ite_not _ _ _))

/-! ## TANK, pulses and marks (R121 to R126) -/

theorem PerBank.ext_get {α : Type} {v w : PerBank α} (h : ∀ i, v.get i = w.get i) : v = w := by
  have h0 := h .b0
  have h1 := h .b1
  have h2 := h .b2
  have h3 := h .b3
  obtain ⟨v0, v1, v2, v3⟩ := v
  obtain ⟨w0, w1, w2, w3⟩ := w
  simp only [PerBank.get] at h0 h1 h2 h3
  rw [h0, h1, h2, h3]

theorem State.refreshIf_bne (s : State) (m n : Nat) : s.refreshIf (m != n) = if m = n then s else s.sprayRefresh :=
  (if_congr bne_iff_ne rfl rfl).trans (ite_not _ _ _)

/-- The closing of one open bank hands over its own millilitres. -/
theorem State.closingMl_one (s : State) (i : BankId) (opened : (s.spc.banks.get i).valve = true) :
    s.closingMl (fun j b => j == i && b.valve) =
      ((s.spc.banks.get i).remainder + s.params.nozzleFlow i * (s.spc.banks.get i).openTime) / 1000 := by
  rw [State.closingMl_eq]
  cases i <;> simp [Bank.closingMl, Bank.microlitres, opened]

theorem Bank.onMark_eq (b : Bank) : b.onMark = if b.terms.all = true ∧ 0 < b.width then
    { b with
      valve := true
      pulseTimer := some b.width
      openTime := if b.valve then b.openTime else 0
      doseShort := b.doseShort || b.valve }
    else b := by
  have acts : b.acts = true ↔ b.terms.all = true ∧ 0 < b.width := by
    rw [Bank.acts, Bool.and_eq_true, decide_eq_true_eq]
  unfold Bank.onMark
  refine if_congr acts ?_ rfl
  cases b.valve <;> simp

/-- Settles O44: TANK, then the expiry of one pulse, then a mark bank by bank. -/
theorem tankPulsesAndMarks : Obligations.TankPulsesAndMarks := by
  intro s
  refine ⟨fun f level n t heard hlevel hn ht => ?_, fun i b ul left t hb opened due hul hleft ht => ?_, fun i wait => ?_,
    fun i b hb => ?_, fun p => ?_⟩
  · refine exec_replied .tank heard ?_
    have level' : tankLevelOf f = level := hlevel.symm
    have set : (s.atBlock f).setEstimate n = if n = s.spc.estimate then t else t.sprayRefresh := by
      rw [ht]
      exact State.refreshIf_bne _ _ _
    show ((s.atBlock f).setEstimate (min (tankLevelOf f) 4000000)).done (if tankLevelOf f ≤ 4000000 then .ok else .clamped) = _
    rw [level', ← hn, set]
  · have ran : (s.spc.banks.get i).pulseTimer.ranOut = true := (Timer.ranOut_iff _).mpr (hb ▸ due)
    have ml : s.closingMl (fun j b => j == i && b.valve) = ul / 1000 := by
      rw [State.closingMl_one s i (hb ▸ opened), hul, hb]
    have banks : (s.spc.banks.map fun j b => if (j == i && b.valve) = true then b.closed (s.params.nozzleFlow j) else b) =
        PerBank.ofFn fun j =>
          if j = i then { b with valve := false, pulseTimer := none, openTime := 0, remainder := ul % 1000 }
          else s.spc.banks.get j := by
      refine PerBank.ext_get fun j => ?_
      rw [PerBank.get_map, PerBank.get_ofFn]
      by_cases same : j = i
      · rw [same, ← hb, if_pos rfl, if_pos (by rw [beq_self_eq_true, opened]; rfl), hul]
        rfl
      · rw [if_neg same, if_neg (by rw [beq_eq_false_iff_ne.mpr same, Bool.false_and]; decide)]
    have closed : s.closeWhere (fun j b => j == i && b.valve) = t := by
      rw [ht, ← banks, hleft, ← ml]
      rfl
    have expired : s.pulseExpired i = if left = s.spc.estimate then t else t.sprayRefresh := by
      have estimate : t.spc.estimate = left := by rw [ht]
      rw [State.pulseExpired, closed, State.refreshIf_bne, estimate]
    exact congrArg _ ((if_pos ran).trans expired)
  · exact congrArg _ (if_neg (mt (Timer.ranOut_iff _).mp wait))
  · subst hb
    exact (PerBank.get_map _ _ _).trans (Bank.onMark_eq _)
  · have marked : s.distanceMark.port p = (s.port p).postIf .doseShort (s.spc.banks.any fun _ b => b.firstRetrigger) :=
      postAllIf_get _ _ _ _
    rw [marked, Port.postIf_hasNotice_same]
    simp only [PerBank.any, PerBank.get, List.any_cons, List.any_nil, Bool.or_false, Bool.or_assoc]
    rfl

end Sys2Proof.Machine

/-! PROOF. The descriptors and the start, the control and the advance of the segment program (Chapter 8): O45 to O48. -/

namespace Sys2Proof.Machine

/-! ## DESC_WRITE and DESC_RETURN (R133, R134, R136) -/

/-- A code that names nothing leaves the descriptor without a request. -/
theorem DescFields.request_eq_none (d : DescFields)
    (h : profileIndexOf d.profile = none ∨ armSettingOf d.left = none ∨ armSettingOf d.right = none ∨
      pickupSettingOf d.pickup = none ∨ sprayOf d.spray = none ∨ endActionOf d.endAction = none) : d.request = none := by
  unfold DescFields.request
  rcases h with h | h | h | h | h | h <;> rw [h] <;>
    simp only [Option.bind_eq_bind, Option.bind_none, Option.bind_fun_none]

theorem DescFields.request_eq_some {d : DescFields} {p : Fin 8} {l r : ArmSetting} {pk : PickupSetting} {sp : Option (BitVec 4)}
    {e : EndAction} (hp : profileIndexOf d.profile = some p) (hl : armSettingOf d.left = some l)
    (hr : armSettingOf d.right = some r) (hpk : pickupSettingOf d.pickup = some pk) (hsp : sprayOf d.spray = some sp)
    (he : endActionOf d.endAction = some e) : d.request = some {
      lengthMm := d.length * 1000
      settings := {
        speedCap := limitCap d.speedCap, profile := p, left := l, leftAngle := d.leftAngle, right := r,
        rightAngle := d.rightAngle, pickup := pk, spray := sp, dose := limitOverride d.dose }
      endAction := e
      last := d.control.getLsbD 0 } := by
  unfold DescFields.request
  rw [hp, hl, hr, hpk, hsp, he]
  rfl

theorem DescFields.profile_of_request {d : DescFields} {q : Request} (h : d.request = some q) :
    profileIndexOf d.profile = some q.settings.profile := by
  unfold DescFields.request at h
  simp only [Option.bind_eq_bind, Option.bind_eq_some_iff, Option.pure_def, Option.some.injEq] at h
  obtain ⟨p, hp, l, -, r, -, pk, -, sp, -, e, -, rfl⟩ := h
  exact hp

theorem Sge.setDesc_get (e : Sge) (i : Fin 32) : e.setDesc i (e.ring.get i) = e := by
  rw [Sge.setDesc, Vector.get_eq_getElem, Vector.set_getElem_self]

/-- Settles O45: each test of R133 in its turn, then what is stored. -/
theorem descriptorCommands : Obligations.DescriptorCommands := by
  intro s f d hd
  have fields : descFields f.payload = d := hd ▸ rfl
  refine ⟨fun high => ?_, fun i x hi hx => ?_⟩
  · have unnamed {act : Fin 32 → Done} : forDescriptor f (s.atBlock f) act = (s.atBlock f).done .range :=
      forDescriptor_of_none ((descIndexOf_eq_none _).mpr high)
    exact ⟨fun heard => exec_replied .descWrite heard unnamed, fun heard => exec_replied .descReturn heard unnamed⟩
  have named {act : Fin 32 → Done} : forDescriptor f (s.atBlock f) act = act i :=
    forDescriptor_of_some ((descIndexOf_eq_some _ i).mpr hi)
  refine ⟨fun heard => ?_, fun heard => ?_⟩
  · have write {t : State} {st : Status} (does : (if x.owner = .engine then (s.atBlock f).done .owned
        else if d.length < 1 ∨ 20000 < d.length then (s.atBlock f).done .range
        else match d.request with
          | none => (s.atBlock f).done .range
          | some r =>
            if (s.pft.profiles.get r.settings.profile).valid then
              ({ s.atBlock f with sge := s.sge.setDesc i (d.stored r) } : State).done d.status
            else (s.atBlock f).done .range) = t.done st) :
        exec (.descWrite f) s = .next (t.replied f .descWrite st) := by
      refine exec_replied .descWrite heard (named.trans (Eq.trans ?_ does))
      rw [hx, fields]
      rfl
    refine ⟨fun engine => write (if_pos engine), fun master bad => write ((if_neg (by rw [master]; decide)).trans ?_),
      fun p l r pk sp e q y master low high hp valid hl hr hpk hsp he hq hy => ?_⟩
    · have refused (unnamed : d.request = none) : (match d.request with
          | none => (s.atBlock f).done .range
          | some r =>
            if (s.pft.profiles.get r.settings.profile).valid then
              ({ s.atBlock f with sge := s.sge.setDesc i (d.stored r) } : State).done d.status
            else (s.atBlock f).done .range) = (s.atBlock f).done .range := by rw [unnamed]
      by_cases long : d.length < 1 ∨ 20000 < d.length
      · exact if_pos long
      refine (if_neg long).trans ?_
      obtain h | h | h | ⟨p, hp, invalid⟩ | h := bad
      · exact absurd (.inl h) long
      · exact absurd (.inr h) long
      · exact refused (d.request_eq_none (.inl h))
      · cases asked : d.request with
        | none => rfl
        | some q =>
          have same : q.settings.profile = p := Option.some.inj ((DescFields.profile_of_request asked).symm.trans hp)
          exact if_neg (by rw [same, invalid]; decide)
      · exact refused (d.request_eq_none (.inr h))
    · have asked := DescFields.request_eq_some hp hl hr hpk hsp he
      have stored : d.stored q = y := hy.symm
      have status : d.status = if q.settings.speedCap = d.speedCap ∧ q.settings.dose = d.dose then .ok else .clamped := by
        rw [hq]; rfl
      rw [← status]
      refine write ((if_neg (by rw [master]; decide)).trans ((if_neg (by omega)).trans ?_))
      rw [asked, ← stored, hq]
      exact if_pos valid
  · refine ⟨fun busy => ?_, fun idle master => ?_, fun y hy idle engine => ?_⟩
    · exact exec_replied .descReturn heard (named.trans (if_pos busy))
    · refine exec_replied .descReturn heard (named.trans ((if_neg (not_not.mpr idle)).trans ?_))
      have returned : x.returned = x := by rw [Descriptor.returned, master]
      rw [State.atBlock_sge, ← hx, returned, hx, Sge.setDesc_get]
      rfl
    · refine exec_replied .descReturn heard (named.trans ((if_neg (not_not.mpr idle)).trans ?_))
      have returned : x.returned = y := by rw [hy, Descriptor.returned, engine]
      rw [State.atBlock_sge, ← hx, returned]
      rfl

end Sys2Proof.Machine

/-! PROOF. What settings and stops leave at the equipment (R140, R148, R152, R153): the record of each arm and of the pickup, and
the setting of each bank. -/

namespace Sys2Proof.Machine

/-! ## Requests on the records -/

section records

variable (s : State)

/-- STOW on the record of an arm (R80). -/
def State.stowArm (c : Cause) (a : Arm) : Arm :=
  match a.state with
  | .homing | .deploying | .working => a.lifted c s.params.moveTimeout
  | .stowed | .lifting | .fault => a

/-- RETARGET on the record of an arm (R80). -/
def State.retargetArm (angle : Int) (a : Arm) : Arm :=
  if a.state = .deploying ∨ a.state = .working then
    { a with slewTarget := slewTargetFor s.params a.slewTarget (some angle) } else a

/-- DEPLOY on the record of an arm (R79). -/
def State.deployArm (side : Side) (angle : Option Int) (a : Arm) : Arm :=
  if s.stopin ∨ s.tgv.mode = .transport then a
  else
    match a.state with
    | .stowed =>
      if s.armHomed side then
        { a with
          slewTarget := slewTargetFor s.params a.slewTarget angle, state := .deploying, phase := .slew,
          moveTimer := some s.params.moveTimeout }
      else
        { a with
          slewTarget := slewTargetFor s.params a.slewTarget angle, deployPending := true, state := .homing,
          moveTimer := some s.params.moveTimeout }
    | .homing => { a with slewTarget := slewTargetFor s.params a.slewTarget angle, deployPending := true }
    | .deploying | .working =>
      match angle with
      | none => a
      | some x => s.retargetArm x a
    | .lifting | .fault => a

/-- UP on the record of the pickup (R95). -/
def State.upPickup (u : Pickup) : Pickup :=
  match u.state with
  | .up | .raising => u
  | .lowering | .working => u.raised .command s.params.moveTimeout
  | .fault =>
    if u.upSw ∧ u.downSw then u
    else if u.upSw then { u with state := .up }
    else u.raised .command s.params.moveTimeout

/-- WORK on the record of the pickup (R95). -/
def State.workPickup (u : Pickup) : Pickup :=
  if s.stopin ∨ s.tgv.mode = .transport then u
  else
    match u.state with
    | .up => u.lowered s.params.moveTimeout
    | .lowering | .working | .raising | .fault => u

/-- A setting on the record of an arm (R140). -/
def State.orderedArm (side : Side) (setting : ArmSetting) (angle : Option Int) (a : Arm) : Arm :=
  match setting with
  | .stow => s.stowArm .command a
  | .work => s.deployArm side angle a
  | .keep => a

/-- A setting on the record of the pickup (R140). -/
def State.orderedPickup (setting : PickupSetting) (u : Pickup) : Pickup :=
  match setting with
  | .up => s.upPickup u
  | .work => s.workPickup u
  | .keep => u

end records

theorem Arc.setArm_arm (r : Arc) (side : Side) : r.setArm side (r.arm side) = r := by cases side <;> rfl

theorem State.armStow_arc (s : State) (side : Side) (c : Cause) :
    (s.armStow side c).1.arc = s.arc.setArm side (s.stowArm c (s.arm side)) := by
  unfold State.armStow State.stowArm
  cases (s.arm side).state
  case homing => exact State.liftArm_arc _ _ _
  case deploying => exact State.liftArm_arc _ _ _
  case working => exact State.liftArm_arc _ _ _
  all_goals exact (Arc.setArm_arm _ _).symm

theorem State.armRetarget_arc (s : State) (side : Side) (x : Int) :
    (s.armRetarget side x).1.arc = s.arc.setArm side (s.retargetArm x (s.arm side)) := by
  unfold State.armRetarget State.retargetArm
  dsimp only
  split
  · rfl
  · exact (Arc.setArm_arm _ _).symm

theorem State.armDeploy_arc (s : State) (side : Side) (angle : Option Int) :
    (s.armDeploy side angle).1.arc = s.arc.setArm side (s.deployArm side angle (s.arm side)) := by
  have stays : s.arc = s.arc.setArm side (s.arm side) := (Arc.setArm_arm _ _).symm
  have moving : (match angle with
      | none => (s, Status.ok)
      | some x => s.armRetarget side x).1.arc = s.arc.setArm side (match angle with
        | none => s.arm side
        | some x => s.retargetArm x (s.arm side)) := by
    cases angle with
    | none => exact stays
    | some x => exact s.armRetarget_arc side x
  unfold State.armDeploy State.deployArm
  dsimp only
  split
  · exact stays
  cases (s.arm side).state
  case stowed => dsimp only; split <;> rfl
  case homing => rfl
  case deploying => exact moving
  case working => exact moving
  case lifting => exact stays
  case fault => exact stays

theorem State.pickupUp_arc (s : State) : s.pickupUp.1.arc = { s.arc with pickup := s.upPickup s.arc.pickup } := by
  unfold State.pickupUp State.upPickup
  dsimp only
  cases s.arc.pickup.state
  case lowering => exact State.raisePickup_arc _ _
  case working => exact State.raisePickup_arc _ _
  case fault =>
    dsimp only
    split
    · rfl
    · split
      · exact State.putPickup_arc _ _
      · exact State.raisePickup_arc _ _
  all_goals rfl

theorem State.pickupWork_arc (s : State) : s.pickupWork.1.arc = { s.arc with pickup := s.workPickup s.arc.pickup } := by
  unfold State.pickupWork State.workPickup
  split
  · rfl
  cases s.arc.pickup.state
  case up => exact State.putPickup_arc _ _
  all_goals rfl

theorem State.armStow_arm (s : State) (side : Side) (c : Cause) :
    (s.armStow side c).1.arm side = s.stowArm c (s.arm side) := by
  rw [State.arm, State.armStow_arc]; cases side <;> rfl

theorem State.armDeploy_arm (s : State) (side : Side) (angle : Option Int) :
    (s.armDeploy side angle).1.arm side = s.deployArm side angle (s.arm side) := by
  rw [State.arm, State.armDeploy_arc]; cases side <;> rfl

theorem State.pickupUp_pickup (s : State) : s.pickupUp.1.arc.pickup = s.upPickup s.arc.pickup := by rw [State.pickupUp_arc]

theorem State.pickupWork_pickup (s : State) : s.pickupWork.1.arc.pickup = s.workPickup s.arc.pickup := by
  rw [State.pickupWork_arc]

theorem State.applyArm_arc (s : State) (side : Side) (setting : ArmSetting) (angle : Option Int) :
    (s.applyArm side setting angle).arc = s.arc.setArm side (s.orderedArm side setting angle (s.arm side)) := by
  cases setting with
  | stow => exact s.armStow_arc side .command
  | work => exact s.armDeploy_arc side angle
  | keep => exact (Arc.setArm_arm _ _).symm

theorem State.applyPickup_arc (s : State) (setting : PickupSetting) :
    (s.applyPickup setting).arc = { s.arc with pickup := s.orderedPickup setting s.arc.pickup } := by
  cases setting with
  | up => exact s.pickupUp_arc
  | work => exact s.pickupWork_arc
  | keep => rfl

/-! ## What requests read and settings and stops leave -/

/-- Two states that agree in all that a request reads beside the record. -/
structure State.OrdersAs (s t : State) : Prop where
  params : t.params = s.params
  stopin : t.stopin = s.stopin
  mode : t.tgv.mode = s.tgv.mode
  homed : ∀ side, t.armHomed side = s.armHomed side

namespace State.OrdersAs

variable {s t u : State}

theorem trans (first : s.OrdersAs t) (second : t.OrdersAs u) : s.OrdersAs u where
  params := second.params.trans first.params
  stopin := second.stopin.trans first.stopin
  mode := second.mode.trans first.mode
  homed side := (second.homed side).trans (first.homed side)

theorem applyHeld (s : State) (st : Settings) (r : Resource) : s.OrdersAs (s.applyHeld st r) := by constructor <;> simp

theorem stopHeld (s : State) (r : Resource) : s.OrdersAs (s.stopHeld r) := by constructor <;> simp

section congr

variable (h : s.OrdersAs t)
include h

theorem stowArm (c : Cause) (a : Arm) : t.stowArm c a = s.stowArm c a := by rw [State.stowArm, h.params]; rfl

theorem deployArm (side : Side) (angle : Option Int) (a : Arm) : t.deployArm side angle a = s.deployArm side angle a := by
  unfold State.deployArm State.retargetArm
  rw [h.params, h.stopin, h.mode, h.homed]

theorem upPickup (u : Pickup) : t.upPickup u = s.upPickup u := by
  unfold State.upPickup
  rw [h.params]

theorem workPickup (u : Pickup) : t.workPickup u = s.workPickup u := by
  unfold State.workPickup
  rw [h.params, h.stopin, h.mode]

theorem orderedArm (side : Side) (setting : ArmSetting) (angle : Option Int) (a : Arm) :
    t.orderedArm side setting angle a = s.orderedArm side setting angle a := by
  cases setting with
  | stow => exact h.stowArm _ _
  | work => exact h.deployArm _ _ _
  | keep => rfl

theorem orderedPickup (setting : PickupSetting) (u : Pickup) : t.orderedPickup setting u = s.orderedPickup setting u := by
  cases setting with
  | up => exact h.upPickup _
  | work => exact h.workPickup _
  | keep => rfl

end congr

end State.OrdersAs

/-- The settings of an arm. -/
def Settings.arm (st : Settings) : Side → ArmSetting × Option Int
  | .left => (st.left, st.leftAngle)
  | .right => (st.right, st.rightAngle)

theorem State.applyHeld_arm_arc (s : State) (st : Settings) (side : Side) : (s.applyHeld st (armResource side)).arc =
    s.arc.setArm side (if (s.clt.get (armResource side)).holder = .program then
      s.orderedArm side (st.arm side).1 (st.arm side).2 (s.arm side) else s.arm side) := by
  unfold State.applyHeld
  split
  · cases side <;> exact s.applyArm_arc _ _ _
  · exact (Arc.setArm_arm _ _).symm

theorem State.applyHeld_pickup_arc (s : State) (st : Settings) : (s.applyHeld st .pickup).arc =
    { s.arc with pickup := if (s.clt.get .pickup).holder = .program then s.orderedPickup st.pickup s.arc.pickup
      else s.arc.pickup } := by
  unfold State.applyHeld
  split
  · exact s.applyPickup_arc _
  · rfl

theorem State.applyHeld_spray_arc (s : State) (st : Settings) : (s.applyHeld st .spray).arc = s.arc := by
  unfold State.applyHeld
  split
  · exact s.spraySetting_arc _ _
  · rfl

/-- The arms and the pickup after their settings (R139, R140). -/
theorem State.applyUnits_arc (s : State) (st : Settings) :
    (((s.applyHeld st .armL).applyHeld st .armR).applyHeld st .pickup).arc = { s.arc with
      left := if (s.clt.get .armL).holder = .program then s.orderedArm .left st.left st.leftAngle s.arc.left else s.arc.left
      right := if (s.clt.get .armR).holder = .program then s.orderedArm .right st.right st.rightAngle s.arc.right
        else s.arc.right
      pickup := if (s.clt.get .pickup).holder = .program then s.orderedPickup st.pickup s.arc.pickup else s.arc.pickup } := by
  have r1 := OrdersAs.applyHeld s st .armL
  have r2 := r1.trans (.applyHeld _ st .armR)
  have left : (s.applyHeld st .armL).arc = _ := s.applyHeld_arm_arc st .left
  have right : ((s.applyHeld st .armL).applyHeld st .armR).arc = _ := (s.applyHeld st .armL).applyHeld_arm_arc st .right
  rw [r1.orderedArm, State.applyHeld_clt, State.arm, left] at right
  rw [State.applyHeld_pickup_arc, r2.orderedPickup, State.applyHeld_clt, State.applyHeld_clt]
  exact (congrArg (fun r : Arc => ({ r with
    pickup := if (s.clt.get .pickup).holder = .program then s.orderedPickup st.pickup r.pickup else r.pickup } : Arc))
      right).trans rfl

theorem State.stopHeld_arm_arc (s : State) (side : Side) : (s.stopHeld (armResource side)).arc =
    s.arc.setArm side (if (s.clt.get (armResource side)).holder = .program then s.stowArm .command (s.arm side)
      else s.arm side) := by
  unfold State.stopHeld
  split
  · cases side <;> exact s.armStow_arc _ _
  · exact (Arc.setArm_arm _ _).symm

theorem State.stopHeld_pickup_arc (s : State) : (s.stopHeld .pickup).arc =
    { s.arc with pickup := if (s.clt.get .pickup).holder = .program then s.upPickup s.arc.pickup else s.arc.pickup } := by
  unfold State.stopHeld
  split
  · exact s.pickupUp_arc
  · rfl

theorem State.stopHeld_spray_arc (s : State) : (s.stopHeld .spray).arc = s.arc := by
  unfold State.stopHeld
  split
  · exact s.disableBanks_arc
  · rfl

/-- The arms and the pickup after the stop's settings (R148). -/
theorem State.stopAllHeld_arc (s : State) : s.stopAllHeld.arc = { s.arc with
      left := if (s.clt.get .armL).holder = .program then s.stowArm .command s.arc.left else s.arc.left
      right := if (s.clt.get .armR).holder = .program then s.stowArm .command s.arc.right else s.arc.right
      pickup := if (s.clt.get .pickup).holder = .program then s.upPickup s.arc.pickup else s.arc.pickup } := by
  have r1 := OrdersAs.stopHeld s .armL
  have r2 := r1.trans (.stopHeld _ .armR)
  have left : (s.stopHeld .armL).arc = _ := s.stopHeld_arm_arc .left
  have right : ((s.stopHeld .armL).stopHeld .armR).arc = _ := (s.stopHeld .armL).stopHeld_arm_arc .right
  rw [r1.stowArm, State.stopHeld_clt, State.arm, left] at right
  rw [State.stopAllHeld, State.stopHeld_spray_arc, State.stopHeld_pickup_arc, r2.upPickup, State.stopHeld_clt, State.stopHeld_clt]
  exact (congrArg (fun r : Arc => ({ r with
    pickup := if (s.clt.get .pickup).holder = .program then s.upPickup r.pickup else r.pickup } : Arc)) right).trans rfl

/-! ## The settings of the banks -/

/-- Two records of a bank with the same setting: dose and width, with the enable apart. -/
structure Bank.SameDose (b c : Bank) : Prop where
  dose : c.dose = b.dose
  doseInEffect : c.doseInEffect = b.doseInEffect
  width : c.width = b.width
  widthClamp : c.widthClamp = b.widthClamp

theorem Bank.SameDose.refl (b : Bank) : b.SameDose b := ⟨rfl, rfl, rfl, rfl⟩

theorem Bank.SameDose.trans {b c d : Bank} (first : b.SameDose c) (second : c.SameDose d) : b.SameDose d :=
  ⟨second.dose.trans first.dose, second.doseInEffect.trans first.doseInEffect, second.width.trans first.width,
    second.widthClamp.trans first.widthClamp⟩

/-- No bank has another setting. -/
def State.SameSettings (s t : State) : Prop := ∀ k, (s.spc.banks.get k).SameDose (t.spc.banks.get k) ∧
  (t.spc.banks.get k).enabled = (s.spc.banks.get k).enabled

namespace State.SameSettings

variable {s t u : State}

theorem trans (first : s.SameSettings t) (second : t.SameSettings u) : s.SameSettings u := fun k =>
  ⟨(first k).1.trans (second k).1, (second k).2.trans (first k).2⟩

theorem of_rfl (banks : t.spc.banks = s.spc.banks) : s.SameSettings t := fun k => by rw [banks]; exact ⟨.refl _, rfl⟩

theorem sprayRefresh (s : State) : s.SameSettings s.sprayRefresh := fun k => by
  rw [State.sprayRefresh_bank]
  unfold Bank.settled
  split <;> exact ⟨⟨rfl, rfl, rfl, rfl⟩, rfl⟩

theorem refreshIf (s : State) (changed : Bool) : s.SameSettings (s.refreshIf changed) := by
  cases changed
  · exact of_rfl rfl
  · exact sprayRefresh s

/-- The requests to arms and pickup leave the settings of the banks. -/
theorem armKept (s : State) : ArmKept s.SameSettings where
  fault h := h.trans (of_rfl rfl)
  lane _ _ h := h.trans (of_rfl rfl)
  clamp _ _ _ h := h.trans (of_rfl rfl)
  stall h := h.trans (of_rfl rfl)
  arm {t side x} _ h := h.trans (refreshIf (t.setArm side x) _)
  pickup {t x} _ h := h.trans (refreshIf { t with arc := { t.arc with pickup := x } } _)
  clock _ _ h := h.trans (of_rfl rfl)

theorem refl (s : State) : s.SameSettings s := of_rfl rfl

/-- The settings of the arms and the pickup. -/
theorem applyUnits (s : State) (st : Settings) :
    s.SameSettings (((s.applyHeld st .armL).applyHeld st .armR).applyHeld st .pickup) := by
  have arm (t : State) (side : Side) (setting : ArmSetting) (angle : Option Int) :
      t.SameSettings (t.applyArm side setting angle) := by
    cases setting with
    | stow => exact (armKept t).armStow side _ (refl t)
    | work => exact (armKept t).armDeploy side angle (refl t)
    | keep => exact refl t
  have pickup (t : State) (setting : PickupSetting) : t.SameSettings (t.applyPickup setting) := by
    cases setting with
    | up => exact (armKept t).pickupUp (refl t)
    | work => exact (armKept t).pickupWork (refl t)
    | keep => exact refl t
  have held (t : State) (r : Resource) (applied : t.SameSettings (t.applySetting r st)) :
      t.SameSettings (t.applyHeld st r) := by
    unfold State.applyHeld
    split
    · exact applied
    · exact refl t
  exact ((held s .armL (arm _ _ _ _)).trans (held _ .armR (arm _ _ _ _))).trans (held _ .pickup (pickup _ _))

/-- The stop's settings of the arms and the pickup. -/
theorem stopUnits (s : State) : s.SameSettings (((s.stopHeld .armL).stopHeld .armR).stopHeld .pickup) := by
  have held (t : State) (r : Resource) (stopped : t.SameSettings (t.stopResource r)) : t.SameSettings (t.stopHeld r) := by
    unfold State.stopHeld
    split
    · exact stopped
    · exact refl t
  have arm (t : State) (side : Side) : t.SameSettings (t.armStow side .command).1 := (armKept t).armStow side _ (refl t)
  exact ((held s .armL (arm _ .left)).trans (held _ .armR (arm _ .right))).trans
    (held _ .pickup ((armKept _).pickupUp (refl _)))

end State.SameSettings

/-- A disable clears every enable and leaves the rest of the settings (R115). -/
theorem State.disableBanks_bank (s : State) (k : BankId) : (s.spc.banks.get k).SameDose (s.disableBanks.spc.banks.get k) ∧
    (s.disableBanks.spc.banks.get k).enabled = false := by
  unfold State.disableBanks
  split
  · obtain ⟨dose, enabled⟩ := State.SameSettings.sprayRefresh
      { s with spc := { s.spc with banks := s.spc.banks.map fun _ b => { b with enabled := false } } } k
    rw [show ({ s with spc := { s.spc with banks := s.spc.banks.map fun _ b => { b with enabled := false } } } : State).spc.banks.get
      k = { s.spc.banks.get k with enabled := false } from PerBank.get_map _ _ _] at dose enabled
    exact ⟨⟨dose.dose, dose.doseInEffect, dose.width, dose.widthClamp⟩, enabled⟩
  · next off =>
    refine ⟨.refl _, ?_⟩
    simp only [PerBank.any, Bool.or_eq_true, not_or, Bool.not_eq_true] at off
    obtain ⟨⟨⟨b0, b1⟩, b2⟩, b3⟩ := off
    cases k
    · exact b0
    · exact b1
    · exact b2
    · exact b3

/-- The banks after the stop's settings (R148, R153). -/
theorem State.stopAllHeld_bank (s : State) (k : BankId) :
    (s.stopAllHeld.spc.banks.get k).enabled = (if (s.clt.get .spray).holder = .program then false else (s.spc.banks.get k).enabled) ∧
    (s.spc.banks.get k).SameDose (s.stopAllHeld.spc.banks.get k) := by
  obtain ⟨dose, enabled⟩ := State.SameSettings.stopUnits s k
  have clt : (((s.stopHeld .armL).stopHeld .armR).stopHeld .pickup).clt = s.clt := by simp
  rw [State.stopAllHeld, State.stopHeld, clt]
  split
  · obtain ⟨same, off⟩ := (((s.stopHeld .armL).stopHeld .armR).stopHeld .pickup).disableBanks_bank k
    exact ⟨off, dose.trans same⟩
  · exact ⟨enabled, dose⟩

end Sys2Proof.Machine

/-! PROOF. A segment start (R139): what it leaves in the engine record, the profile, the travel record, the equipment and the
banks. -/

namespace Sys2Proof.Machine

/-! ## A spray setting, bank by bank (R113, R114, R120) -/

/-- A bank as a spray setting has left it in the state `t`. -/
structure Bank.SetIn (b : Bank) (t : State) (k : BankId) (on : Bool) (setting : Option Nat) (eff w : Nat) : Prop where
  enabled : b.enabled = on
  dose : b.dose = setting
  doseInEffect : b.doseInEffect = eff
  width : b.width = if 0 < eff ∧ w = 0 then 1 else w
  widthClamp : b.widthClamp = (decide (0 < eff) && decide (w = 0))
  terms : b.terms = t.termsOf k
  permissive : b.valve = true → b.terms.all = true

/-- The enable that a setting gives a bank: the mask's bit, or the one it has (R113). -/
def enableOf (mask : Option (BitVec 4)) (k : BankId) (before : Bool) : Bool :=
  match mask with
  | some m => maskBit m k
  | none => before

theorem State.spraySetting_bank (s : State) (mask : Option (BitVec 4)) (dose : Option Nat) (k : BankId) {eff w : Nat}
    (hEff : eff = dose.getD (s.profile.dose.get k)) (hWidth : w = roundDivNat (eff * s.params.sprayInterval) (s.params.nozzleFlow k)) :
    ((s.spraySetting mask dose).spc.banks.get k).SetIn (s.spraySetting mask dose) k
      (enableOf mask k (s.spc.banks.get k).enabled) dose eff w := by
  have set (b : Bank) : (b.withSetting s.params s.profile mask dose k).enabled = enableOf mask k b.enabled ∧
      (b.withSetting s.params s.profile mask dose k).dose = dose ∧
      (b.withSetting s.params s.profile mask dose k).doseInEffect = eff ∧
      (b.withSetting s.params s.profile mask dose k).width = (if 0 < eff ∧ w = 0 then 1 else w) ∧
      (b.withSetting s.params s.profile mask dose k).widthClamp = (decide (0 < eff) && decide (w = 0)) := by
    subst hWidth hEff
    refine ⟨rfl, rfl, rfl, if_congr ?_ rfl rfl, rfl⟩
    rw [widthRaised, Bool.and_eq_true, decide_eq_true_eq, decide_eq_true_eq]
    rfl
  obtain ⟨enabled, doses, inEffect, width, clamp⟩ := set (s.spc.banks.get k)
  unfold State.spraySetting
  have before := PerBank.get_map s.spc.banks (fun i b => b.withSetting s.params s.profile mask dose i) k
  obtain ⟨same, kept⟩ := State.SameSettings.sprayRefresh { s with
    spc := { s.spc with banks := s.spc.banks.map fun i b => b.withSetting s.params s.profile mask dose i }
    ports := postAllIf s.ports .clamp
      (s.spc.banks.any fun i b => (b.withSetting s.params s.profile mask dose i).widthClamp) } k
  have refreshed := State.sprayRefresh_bank { s with
    spc := { s.spc with banks := s.spc.banks.map fun i b => b.withSetting s.params s.profile mask dose i }
    ports := postAllIf s.ports .clamp
      (s.spc.banks.any fun i b => (b.withSetting s.params s.profile mask dose i).widthClamp) } k
  simp only [before] at same kept
  refine ⟨kept.trans enabled, same.dose.trans doses, same.doseInEffect.trans inEffect, same.width.trans width,
    same.widthClamp.trans clamp, ?_, fun opened => ?_⟩
  · rw [refreshed]; rfl
  · rw [refreshed, Bank.settled_valve, Bool.and_eq_true] at opened
    rw [refreshed]
    exact opened.2

/-! ## The banks and a change of profile, and the banks after all settings -/

theorem State.activateProfile_pft (s : State) (i : Fin 8) : (s.activateProfile i).pft = { s.pft with active := i } := by
  unfold State.activateProfile
  split
  · next same => rw [← same]
  · rfl

/-- A publication of the profile leaves the enables and the dose settings (R113). -/
theorem State.activateProfile_bank (s : State) (i : Fin 8) (k : BankId) :
    ((s.activateProfile i).spc.banks.get k).enabled = (s.spc.banks.get k).enabled ∧
      ((s.activateProfile i).spc.banks.get k).dose = (s.spc.banks.get k).dose := by
  unfold State.activateProfile
  split
  · exact ⟨rfl, rfl⟩
  · unfold State.profilePublished
    dsimp only
    rw [PerBank.get_map, Bank.withProfile]
    split <;> exact ⟨rfl, rfl⟩

theorem State.applyAllHeld_eq (s : State) (st : Settings) :
    s.applyAllHeld st = (((s.applyHeld st .armL).applyHeld st .armR).applyHeld st .pickup).applyHeld st .spray := rfl

/-- The banks under settings that leave them to their holder. -/
theorem State.applyAllHeld_bank_kept {s : State} {st : Settings} (other : (s.clt.get .spray).holder ≠ .program) :
    s.SameSettings (s.applyAllHeld st) := by
  have clt : (((s.applyHeld st .armL).applyHeld st .armR).applyHeld st .pickup).clt = s.clt := by simp
  have units := State.SameSettings.applyUnits s st
  rw [State.applyAllHeld_eq, State.applyHeld, clt, if_neg other]
  exact units

/-- The banks under settings of their own. -/
theorem State.applyAllHeld_bank_set {s : State} {st : Settings} (held : (s.clt.get .spray).holder = .program) (k : BankId) {eff w : Nat}
    (hEff : eff = st.dose.getD (s.profile.dose.get k)) (hWidth : w = roundDivNat (eff * s.params.sprayInterval) (s.params.nozzleFlow k)) :
    ((s.applyAllHeld st).spc.banks.get k).SetIn (s.applyAllHeld st) k (enableOf st.spray k (s.spc.banks.get k).enabled) st.dose
      eff w := by
  have clt : (((s.applyHeld st .armL).applyHeld st .armR).applyHeld st .pickup).clt = s.clt := by simp
  have profile : (((s.applyHeld st .armL).applyHeld st .armR).applyHeld st .pickup).profile = s.profile := by simp
  have params : (((s.applyHeld st .armL).applyHeld st .armR).applyHeld st .pickup).params = s.params := by simp
  have enabled := (State.SameSettings.applyUnits s st k).2
  rw [State.applyAllHeld_eq]
  generalize ((s.applyHeld st .armL).applyHeld st .armR).applyHeld st .pickup = u at *
  have applied : u.applyHeld st .spray = u.spraySetting st.spray st.dose := if_pos (by rw [clt, held])
  rw [applied, ← enabled]
  exact u.spraySetting_bank st.spray st.dose k (by rw [profile, hEff]) (by rw [params, hWidth])

theorem State.applyAllHeld_arc (s : State) (st : Settings) : (s.applyAllHeld st).arc = { s.arc with
      left := if (s.clt.get .armL).holder = .program then s.orderedArm .left st.left st.leftAngle s.arc.left else s.arc.left
      right := if (s.clt.get .armR).holder = .program then s.orderedArm .right st.right st.rightAngle s.arc.right
        else s.arc.right
      pickup := if (s.clt.get .pickup).holder = .program then s.orderedPickup st.pickup s.arc.pickup else s.arc.pickup } := by
  rw [State.applyAllHeld_eq, State.applyHeld_spray_arc, State.applyUnits_arc]

/-- The equipment leaves the freshness of the budget. -/
theorem EquipKept.of_freshness (x : Freshness) : EquipKept fun s => s.pba.freshness = x where
  fault := id
  lane _ _ h := by simpa using h
  clamp _ _ _ h := by simpa using h
  stall h := by simpa using h
  arm _ h := by simpa using h
  pickup _ h := by simpa [State.putPickup] using h
  clock _ _ := id
  setting _ _ h := by simpa using h
  disable h := by simpa using h

/-! ## The start of a segment -/

/-- A segment has been started: `t` is what its settings make of `s` (R139). -/
structure State.Started (s : State) (st : Settings) (t : State) : Prop where
  sge : t.sge = { s.sge with
    present := true
    state := .running
    settings := some st
    unplanned := 0
    figures := {
      distance := 0
      leadIn := s.sge.unplanned
      water := 0
      stalls := 0
      flags := startFlags s.clt (s.pba.freshness == .stale) } }
  pft : t.pft = { s.pft with active := st.profile }
  tgv : t.tgv = { s.tgv with segCap := st.speedCap }
  clt : t.clt = s.clt
  ctu : t.ctu = s.ctu
  cfs : t.cfs = s.cfs
  short : ∀ k, (t.spc.banks.get k).doseShort = false
  arc : t.arc = { s.arc with
    left := if (s.clt.get .armL).holder = .program then s.orderedArm .left st.left st.leftAngle s.arc.left else s.arc.left
    right := if (s.clt.get .armR).holder = .program then s.orderedArm .right st.right st.rightAngle s.arc.right
      else s.arc.right
    pickup := if (s.clt.get .pickup).holder = .program then s.orderedPickup st.pickup s.arc.pickup else s.arc.pickup }
  kept : (s.clt.get .spray).holder ≠ .program → ∀ k,
    (t.spc.banks.get k).enabled = (s.spc.banks.get k).enabled ∧ (t.spc.banks.get k).dose = (s.spc.banks.get k).dose
  set : (s.clt.get .spray).holder = .program → ∀ k (eff w : Nat), eff = st.dose.getD ((s.pft.profiles.get st.profile).dose.get k) →
    w = roundDivNat (eff * s.params.sprayInterval) (s.params.nozzleFlow k) →
    (t.spc.banks.get k).SetIn t k (enableOf st.spray k (s.spc.banks.get k).enabled) st.dose eff w

theorem Sge.with_figures_of_core {e e' : Sge} (core : e'.core = e.core) (g : SegFigures) :
    ({ e' with figures := g } : Sge) = { e with figures := g } := congrArg (fun c : Sge => { c with figures := g }) core

theorem Sge.unplanned_of_core {e e' : Sge} (core : e'.core = e.core) : e'.unplanned = e.unplanned :=
  (congrArg Sge.unplanned core : e'.core.unplanned = e.core.unplanned)

/-- Steps 1 to 3 of a segment start: the record, the settings in force, the profile and the speed cap. -/
def State.withSegment (s : State) (st : Settings) : State :=
  (({ s with sge := { s.sge with present := true, state := .running } } : State).adoptSettings st).activateProfile st.profile

theorem State.segmentStart_eq (s : State) : s.segmentStart =
    ((s.withSegment s.sge.atCursor.request.settings).applyAllHeld
      s.sge.atCursor.request.settings).startFigures.spraySegmentStart := rfl

section withSegment

variable (s : State) (st : Settings)

theorem State.withSegment_sge : (s.withSegment st).sge =
    { s.sge with present := true, state := .running, settings := some st } := by simp [State.withSegment, State.adoptSettings]

theorem State.withSegment_tgv : (s.withSegment st).tgv = { s.tgv with segCap := st.speedCap } := by
  simp [State.withSegment, State.adoptSettings]

theorem State.withSegment_pft : (s.withSegment st).pft = { s.pft with active := st.profile } := State.activateProfile_pft _ _

theorem State.withSegment_clt : (s.withSegment st).clt = s.clt := by simp [State.withSegment]

theorem State.withSegment_ctu : (s.withSegment st).ctu = s.ctu := by simp [State.withSegment]

theorem State.withSegment_cfs : (s.withSegment st).cfs = s.cfs := by simp [State.withSegment]

theorem State.withSegment_arc : (s.withSegment st).arc = s.arc := by simp [State.withSegment]

theorem State.withSegment_pba : (s.withSegment st).pba = s.pba := by simp [State.withSegment]

theorem State.withSegment_params : (s.withSegment st).params = s.params := by rw [State.params, State.withSegment_cfs]; rfl

theorem State.withSegment_profile : (s.withSegment st).profile = s.pft.profiles.get st.profile := by
  rw [State.profile, State.withSegment_pft]

theorem State.withSegment_bank (k : BankId) :
    ((s.withSegment st).spc.banks.get k).enabled = (s.spc.banks.get k).enabled ∧
      ((s.withSegment st).spc.banks.get k).dose = (s.spc.banks.get k).dose := State.activateProfile_bank _ _ k

theorem State.withSegment_orders : s.OrdersAs (s.withSegment st) where
  params := s.withSegment_params st
  stopin := by simp [State.withSegment]
  mode := by rw [State.withSegment_tgv]
  homed side := by rw [State.armHomed, State.chan, State.withSegment_ctu]; rfl

end withSegment

theorem State.segmentStart_started (s : State) : s.Started s.sge.atCursor.request.settings s.segmentStart := by
  rw [State.segmentStart_eq]
  generalize s.sge.atCursor.request.settings = st
  have orders := s.withSegment_orders st
  have program := (EquipKept.of_program (s.withSegment st).program).applyAllHeld st rfl
  have fresh := (EquipKept.of_freshness s.pba.freshness).applyAllHeld st (s := s.withSegment st)
    (by rw [State.withSegment_pba])
  have arc := (s.withSegment st).applyAllHeld_arc st
  have clt : ((s.withSegment st).applyAllHeld st).clt = s.clt := by rw [State.applyAllHeld_clt, State.withSegment_clt]
  have pft : ((s.withSegment st).applyAllHeld st).pft = { s.pft with active := st.profile } := by
    rw [State.applyAllHeld_pft, State.withSegment_pft]
  have tgv : ((s.withSegment st).applyAllHeld st).tgv = { s.tgv with segCap := st.speedCap } := by
    rw [State.applyAllHeld_tgv, State.withSegment_tgv]
  have ctu : ((s.withSegment st).applyAllHeld st).ctu = s.ctu := by rw [State.applyAllHeld_ctu, State.withSegment_ctu]
  have cfs : ((s.withSegment st).applyAllHeld st).cfs = s.cfs := by rw [State.applyAllHeld_cfs, State.withSegment_cfs]
  have kept := State.applyAllHeld_bank_kept (s := s.withSegment st) (st := st)
  have set := fun held k {eff w} => State.applyAllHeld_bank_set (s := s.withSegment st) (st := st) held k (eff := eff) (w := w)
  rw [State.withSegment_clt, State.withSegment_profile, State.withSegment_params] at set
  rw [State.withSegment_clt] at kept arc
  rw [orders.orderedArm, orders.orderedArm, orders.orderedPickup, State.withSegment_arc] at arc
  have core : ((s.withSegment st).applyAllHeld st).sge.core = (s.withSegment st).sge.core := congrArg Prod.fst program
  generalize (s.withSegment st).applyAllHeld st = u at *
  have bank (k : BankId) : u.startFigures.spraySegmentStart.spc.banks.get k = { u.spc.banks.get k with doseShort := false } :=
    PerBank.get_map _ _ _
  refine ⟨?_, pft, tgv, clt, ctu, cfs, fun k => by rw [bank], arc, fun other k => ?_, fun held k eff w hEff hWidth => ?_⟩
  · rw [State.withSegment_sge] at core
    have unplanned : u.sge.unplanned = s.sge.unplanned := (Sge.unplanned_of_core core :)
    have same (g : SegFigures) := congrArg (fun e : Sge => { e with unplanned := 0 }) (Sge.with_figures_of_core core g)
    have figures : u.startFigures.spraySegmentStart.sge = { u.sge with
        figures := {
          distance := 0
          leadIn := u.sge.unplanned
          water := 0
          stalls := 0
          flags := startFlags u.clt (u.pba.freshness == .stale) }
        unplanned := 0 } := rfl
    rw [figures, clt, fresh, unplanned]
    exact same {
      distance := 0
      leadIn := s.sge.unplanned
      water := 0
      stalls := 0
      flags := startFlags s.clt (s.pba.freshness == .stale) }
  · rw [bank]
    obtain ⟨same, enabled⟩ := kept other k
    obtain ⟨enabled', dose⟩ := s.withSegment_bank st k
    exact ⟨enabled.trans enabled', same.dose.trans dose⟩
  · have enabled := (s.withSegment_bank st k).1
    obtain ⟨h1, h2, h3, h4, h5, h6, h7⟩ := set held k hEff hWidth
    rw [bank]
    rw [enabled] at h1
    have terms : u.startFigures.spraySegmentStart.termsOf k = u.termsOf k :=
      State.termsOf_congr rfl rfl rfl rfl rfl rfl (by rw [bank]) rfl
    exact ⟨h1, h2, h3, h4, h5, h6.trans terms.symm, h7⟩

end Sys2Proof.Machine

/-! PROOF. The start, the control and the advance of the segment program (R138 to R154): O46 to O48. -/

namespace Sys2Proof.Machine

/-! ## PGM_START (R107, R138, R139) -/

theorem Claim.onStart_held (c : Claim) : c.onStart.holder = .program ↔ c.holder ≠ .cab := by cases c <;> decide

theorem Claim.onStart_lender (c : Claim) : c.onStart.lender = (c.holder == .cab) := by cases c <;> rfl

theorem replied_response (t : State) (f : Frame) (c : Cmd) (st : Status) :
    ((t.replied f c st).port f.port).response = { status := st, code := c.code, payload := [] } := by
  rw [State.replied_port]
  split
  · rfl
  · next other => exact absurd rfl other

theorem enableOf_eq (mask : Option (BitVec 4)) (k : BankId) (before : Bool) : enableOf mask k before = (match mask with
    | some m => m.getLsbD (match k with
      | .b0 => 0
      | .b1 => 1
      | .b2 => 2
      | .b3 => 3)
    | none => before) := by
  cases mask with
  | none => rfl
  | some m => cases k <;> rfl

theorem State.orderedArm_eq (s : State) (side : Side) (setting : ArmSetting) (angle : Option Int) :
    s.orderedArm side setting angle (s.arm side) = (match setting with
      | .stow => (s.armStow side .command).1.arm side
      | .work => (s.armDeploy side angle).1.arm side
      | .keep => s.arm side) := by
  cases setting with
  | stow => exact (s.armStow_arm side .command).symm
  | work => exact (s.armDeploy_arm side angle).symm
  | keep => rfl

theorem State.orderedPickup_eq (s : State) (setting : PickupSetting) :
    s.orderedPickup setting s.arc.pickup = (match setting with
      | .up => s.pickupUp.1.arc.pickup
      | .work => s.pickupWork.1.arc.pickup
      | .keep => s.arc.pickup) := by
  cases setting with
  | up => exact s.pickupUp_pickup.symm
  | work => exact s.pickupWork_pickup.symm
  | keep => rfl

/-- An arm after a segment start (R139, R140). -/
theorem State.Started.arm {s t : State} {st : Settings} (h : s.Started st t) (side : Side) : t.arm side =
    if (s.clt.get (armResource side)).holder = .program then s.orderedArm side (st.arm side).1 (st.arm side).2 (s.arm side)
    else s.arm side := by
  rw [State.arm, h.arc]
  cases side <;> rfl

theorem State.Started.pickup {s t : State} {st : Settings} (h : s.Started st t) : t.arc.pickup =
    if (s.clt.get .pickup).holder = .program then s.orderedPickup st.pickup s.arc.pickup else s.arc.pickup := by rw [h.arc]

/-- The state whose cursor descriptor an accepted PGM_START starts (R107, R138). -/
def State.atStart (s : State) (p : PortId) (i : Fin 32) : State :=
  { s with
    clt := s.clt.map Claim.onStart
    sge := { s.sge with startPort := startPortOf p, unplanned := 0, completed := 0, endKind := .none, cursor := i } }

theorem State.startProgram_started (s : State) (p : PortId) (i : Fin 32) :
    (s.atStart p i).Started (s.sge.ring.get i).request.settings (s.startProgram p i) :=
  (s.atStart p i).segmentStart_started

theorem State.atStart_held (s : State) (p : PortId) (i : Fin 32) (r : Resource) :
    ((s.atStart p i).clt.get r).holder = .program ↔ (s.clt.get r).holder ≠ .cab := by
  rw [State.atStart, PerResource.get_map, Claim.onStart_held]

theorem startFlags_onStart (c : Clt) (stale : Bool) : startFlags (c.map Claim.onStart) stale = { SegFlags.clear with
    overL := (c.armL.holder == .cab)
    overR := (c.armR.holder == .cab)
    overPickup := (c.pickup.holder == .cab)
    overSpray := (c.spray.holder == .cab)
    staleSeen := stale } := by
  rw [← Claim.onStart_lender, ← Claim.onStart_lender, ← Claim.onStart_lender, ← Claim.onStart_lender]
  rfl

/-- Settles O46: the tests, then the start of the segment on the claims of a running program. -/
theorem programStarts : Obligations.ProgramStarts := by
  intro s f heard
  refine ⟨fun high => exec_replied .pgmStart heard (forDescriptor_of_none ((descIndexOf_eq_none _).mpr high)),
    fun i x hi hx => ?_⟩
  have named {act : Fin 32 → Done} : forDescriptor f (s.atBlock f) act = act i :=
    forDescriptor_of_some ((descIndexOf_eq_some _ i).mpr hi)
  have start {t : State} {st : Status} (does : (if s.sge.state ≠ .idle then (s.atBlock f).done .state
      else if s.stopin then (s.atBlock f).done .state
      else if s.tgv.mode = .transport then (s.atBlock f).done .state
      else if x.owner = .master then (s.atBlock f).done .owned
      else ((s.atBlock f).startProgram f.port i).done .ok) = t.done st) :
      exec (.pgmStart f) s = .next (t.replied f .pgmStart st) := by
    subst hx
    exact exec_replied .pgmStart heard (named.trans does)
  refine ⟨fun barred => start ?_, fun idle free road master => start ?_, fun idle free road engine => ?_⟩
  · by_cases busy : s.sge.state ≠ .idle
    · exact if_pos busy
    · refine (if_neg busy).trans ?_
      by_cases stop : s.stopin = true
      · exact if_pos stop
      · refine (if_neg stop).trans (if_pos ?_)
        obtain h | h | h := barred
        · exact absurd h busy
        · exact absurd h stop
        · exact h
  · rw [if_neg (not_not.mpr idle), if_neg (by rw [free]; decide), if_neg road, if_pos master]
  · have held := (s.atBlock f).atStart_held f.port i
    have begun := (s.atBlock f).startProgram_started f.port i
    have orders : s.OrdersAs ((s.atBlock f).atStart f.port i) := ⟨rfl, rfl, rfl, fun _ => rfl⟩
    have named : x.request.settings = ((s.atBlock f).sge.ring.get i).request.settings := by rw [hx]; rfl
    rw [← named] at begun
    refine ⟨((s.atBlock f).startProgram f.port i).replied f .pgmStart .ok, start ?_, replied_response _ _ _ _, ?_⟩
    · rw [if_neg (not_not.mpr idle), if_neg (by rw [free]; decide), if_neg road, if_neg (by rw [engine]; decide)]
    generalize (s.atBlock f).startProgram f.port i = t at begun ⊢
    refine ⟨begun.clt.trans (congrArg s.clt.map ?_), begun.sge.trans ?_, begun.pft, begun.tgv, begun.short, begun.ctu, begun.cfs,
      fun side setting angle mine settings => ?_, fun side theirs => ?_, ?_, fun theirs k => ?_,
      fun mine k b eff w hb hEff hWidth => ?_⟩
    · funext c
      cases c <;> rfl
    · rw [State.atStart, startFlags_onStart]
      rfl
    · have given : x.request.settings.arm side = (setting, angle) := by rw [settings]; cases side <;> rfl
      refine (begun.arm side).trans ((if_pos ((held _).mpr mine)).trans ?_)
      rw [given, orders.orderedArm]
      exact s.orderedArm_eq side setting angle
    · exact (begun.arm side).trans (if_neg fun h => (held _).mp h theirs)
    · refine begun.pickup.trans ((if_congr (held .pickup) rfl rfl).trans ?_)
      rw [orders.orderedPickup, ite_not]
      exact if_congr Iff.rfl rfl (s.orderedPickup_eq _)
    · exact begun.kept (fun h => (held .spray).mp h theirs) k
    · obtain ⟨enabled, dose, inEffect, width, clamp, terms, permissive⟩ :=
        begun.set ((held .spray).mpr mine) k eff w hEff hWidth
      subst hb
      exact ⟨enabled.trans (enableOf_eq _ _ _), dose, inEffect, width, clamp, terms, permissive⟩

end Sys2Proof.Machine

/-! PROOF. The control of the segment program (R147, R149, R150, R153): O47. -/

namespace Sys2Proof.Machine

theorem State.stopAllHeld_arm (s : State) (side : Side) : s.stopAllHeld.arm side =
    if (s.clt.get (armResource side)).holder = .program then s.stowArm .command (s.arm side) else s.arm side := by
  rw [State.arm, State.stopAllHeld_arc]
  cases side <;> rfl

theorem State.stopAllHeld_pickup (s : State) : s.stopAllHeld.arc.pickup =
    if s.clt.pickup.holder = .program then s.upPickup s.arc.pickup else s.arc.pickup := by rw [State.stopAllHeld_arc]; rfl

theorem Claim.holder_program (c : Claim) : c.holder = .program ↔ c = .program := by cases c <;> decide

/-- The stop's settings leave the engine record but for the figures (R117, R148). -/
theorem State.stopAllHeld_core (s : State) : s.stopAllHeld.sge.core = s.sge.core :=
  congrArg Prod.fst ((EquipKept.of_program s.program).stopAllHeld rfl)

theorem State.stopAllHeld_keeps {s : State} {p : PortId} {k : Notice} (posted : (s.port p).hasNotice k = true) :
    (s.stopAllHeld.port p).hasNotice k = true :=
  ((State.Posts.equipKept s (K := fun _ => true) fun _ _ => rfl).stopAllHeld (.refl s)).keeps posted

theorem State.post_has (s : State) (k : Notice) (p : PortId) : ((s.post k).port p).hasNotice k = true := by
  rw [State.post_port, Port.postIf_hasNotice_same, Bool.or_true]

theorem State.post_keeps {s : State} {p : PortId} {k : Notice} (j : Notice) (posted : (s.port p).hasNotice k = true) :
    ((s.post j).port p).hasNotice k = true := by
  rw [State.post_port, Port.postIf_hasNotice, posted, Bool.true_or]

/-- The record at the cursor after a writeback (R144). -/
theorem Sge.writtenBack_get (e : Sge) (st : SegStatus) (i : Fin 32) : (e.writtenBack st).ring.get i =
    if i = e.cursor then { e.atCursor with owner := .master, result := some (e.resultOf st) } else e.ring.get i := by
  by_cases same : i = e.cursor
  · rw [if_pos same, same]
    exact ring_get_set_same _ _ _
  · rw [if_neg same]
    exact ring_get_set_other _ _ same

theorem State.fetch_eq (s : State) : s.fetch = if s.sge.atCursor.owner = .engine then s.segmentStart
    else ({ s with sge := { s.sge with state := .starved } } : State).post .pgmStarved := by
  unfold State.fetch
  cases s.sge.atCursor.owner <;> rfl

theorem State.abortSegment_orders (s : State) : s.OrdersAs s.abortSegment := by
  unfold State.abortSegment
  split <;> exact ⟨rfl, rfl, rfl, fun _ => rfl⟩

theorem replied_hasNotice (t : State) (f : Frame) (c : Cmd) (st : Status) (p : PortId) (k : Notice) :
    ((t.replied f c st).port p).hasNotice k = (t.port p).hasNotice k := by
  rw [State.replied_port]
  split
  · next here => rw [here]; rfl
  · rfl

/-- What an abort leaves (R153). -/
structure State.Aborted (s t : State) : Prop where
  sge : t.sge = s.abortSegment.stopAllHeld.sge.ended .abort
  clt : t.clt = s.clt.map Claim.onEnd
  tgv : t.tgv = { s.tgv with segCap := none, stopRequest := false }
  ended : ∀ p, (t.port p).hasNotice .pgmEnd = true
  done : s.sge.present = true → ∀ p, (t.port p).hasNotice .segDone = true
  arm : ∀ side, t.arm side = if s.clt.get (armResource side) = .program then s.stowArm .command (s.arm side) else s.arm side
  pickup : t.arc.pickup = if s.clt.pickup = .program then s.upPickup s.arc.pickup else s.arc.pickup
  bank : ∀ k, (t.spc.banks.get k).enabled = (if s.clt.spray = .program then false else (s.spc.banks.get k).enabled) ∧
    (s.spc.banks.get k).SameDose (t.spc.banks.get k)
  ctu : t.ctu = s.ctu
  pft : t.pft = s.pft
  cfs : t.cfs = s.cfs

theorem State.abortSegment_clt (s : State) : s.abortSegment.clt = s.clt := by unfold State.abortSegment; split <;> rfl
theorem State.abortSegment_tgv (s : State) : s.abortSegment.tgv = s.tgv := by unfold State.abortSegment; split <;> rfl
theorem State.abortSegment_arc (s : State) : s.abortSegment.arc = s.arc := by unfold State.abortSegment; split <;> rfl
theorem State.abortSegment_spc (s : State) : s.abortSegment.spc = s.spc := by unfold State.abortSegment; split <;> rfl
theorem State.abortSegment_ctu (s : State) : s.abortSegment.ctu = s.ctu := by unfold State.abortSegment; split <;> rfl
theorem State.abortSegment_pft (s : State) : s.abortSegment.pft = s.pft := by unfold State.abortSegment; split <;> rfl
theorem State.abortSegment_cfs (s : State) : s.abortSegment.cfs = s.cfs := by unfold State.abortSegment; split <;> rfl

theorem State.abort_aborted (s : State) : s.Aborted (s.abortSegment.stopAllHeld.programEnd .abort) where
  sge := rfl
  clt := congrArg (PerResource.map · Claim.onEnd) ((State.stopAllHeld_clt _).trans s.abortSegment_clt)
  tgv := by
    have kept : s.abortSegment.stopAllHeld.tgv = s.tgv := (State.stopAllHeld_tgv _).trans s.abortSegment_tgv
    rw [← kept]
    exact if_neg fun h => absurd h.2 (by decide)
  ended p := State.post_has _ _ p
  done present p := State.post_keeps (s := { s.abortSegment.stopAllHeld with
      sge := s.abortSegment.stopAllHeld.sge.ended .abort
      clt := s.abortSegment.stopAllHeld.clt.map Claim.onEnd
      tgv := s.abortSegment.stopAllHeld.tgv.programEnded .abort }) _ (State.stopAllHeld_keeps (by
    rw [State.abortSegment, if_pos present]
    exact State.post_has _ _ p))
  arm side := by
    rw [State.programEnd_arm, State.stopAllHeld_arm, s.abortSegment_orders.stowArm, s.abortSegment_clt, State.arm,
      s.abortSegment_arc]
    exact if_congr (Claim.holder_program _) rfl rfl
  pickup := by
    rw [State.programEnd_arc, State.stopAllHeld_pickup, s.abortSegment_orders.upPickup, s.abortSegment_clt,
      s.abortSegment_arc]
    exact if_congr (Claim.holder_program _) rfl rfl
  bank k := by
    obtain ⟨enabled, same⟩ := s.abortSegment.stopAllHeld_bank k
    rw [s.abortSegment_clt, s.abortSegment_spc] at enabled
    rw [s.abortSegment_spc] at same
    exact ⟨enabled.trans (if_congr (Claim.holder_program _) rfl rfl), same⟩
  ctu := (State.stopAllHeld_ctu _).trans s.abortSegment_ctu
  pft := (State.stopAllHeld_pft _).trans s.abortSegment_pft
  cfs := (State.stopAllHeld_cfs _).trans s.abortSegment_cfs

/-- The engine record after an abort but for the figures (R144, R153, R154). -/
theorem State.Aborted.core {s t : State} (h : s.Aborted t) : t.sge.core = (s.abortSegment.sge.ended .abort).core := by
  rw [h.sge]
  exact congrArg (Sge.ended · .abort) s.abortSegment.stopAllHeld_core

/-- The rest of the engine record after an abort. -/
theorem State.Aborted.rest {s t : State} (h : s.Aborted t) :
    { t.sge with ring := s.sge.ring, figures := s.sge.figures } =
      { s.sge with
        state := .idle, suspendCause := .none, returnState := .none, present := false, endKind := .abort } := by
  have aborted : { s.abortSegment.sge.ended .abort with ring := s.sge.ring, figures := s.sge.figures } =
      { s.sge with
        state := .idle, suspendCause := .none, returnState := .none, present := false, endKind := .abort } := by
    unfold State.abortSegment
    split <;> rfl
  rw [← aborted]
  exact congrArg (fun e : Sge => { e with ring := s.sge.ring, figures := s.sge.figures }) h.core

theorem State.Aborted.ring {s t : State} (h : s.Aborted t) (i : Fin 32) : t.sge.ring.get i =
    if s.sge.present = true ∧ i = s.sge.cursor then
      { s.sge.ring.get s.sge.cursor with
        owner := .master
        result := some { status := .aborted, figures := s.sge.figures } }
    else s.sge.ring.get i := by
  rw [Sge.ring_of_core h.core]
  unfold State.abortSegment
  by_cases present : s.sge.present = true
  · rw [if_pos present]
    refine (s.sge.writtenBack_get .aborted i).trans (if_congr ⟨fun h => ⟨present, h⟩, And.right⟩ rfl rfl)
  · rw [if_neg present, if_neg fun h => present h.1]
    rfl

/-- Settles O47, command by command and by the state of the engine. -/
theorem programControl : Obligations.ProgramControl := by
  intro s f running hrun
  obtain rfl : running = State.segmentStart := funext hrun
  refine ⟨fun heard => ?_, fun heard => ?_, fun heard => ?_, fun heard => ?_⟩
  · have begun := (s.atBlock f).segmentStart_started
    refine ⟨fun starved engine => ⟨?_, ?_, ?_, ?_, ?_⟩, fun other => ?_⟩
    · exact exec_replied .pgmPoll heard (congrArg (State.done · .ok) (if_pos ⟨starved, engine⟩))
    · rw [begun.sge]
    · rw [begun.sge]
    · rw [begun.sge]; rfl
    · rw [begun.sge]
    · refine exec_replied .pgmPoll heard (congrArg (State.done · .ok) (if_neg ?_))
      rintro ⟨starved, engine⟩
      obtain h | h := other
      · exact h starved
      · exact absurd (engine.symm.trans h) (by decide)
  · have body {t : State} {st : Status} (does : (match s.sge.state with
        | .running => ((s.atBlock f).suspend .command .running).done .ok
        | .starved => ((s.atBlock f).suspend .command .starved).done .ok
        | .suspended => (s.atBlock f).done .ok
        | .stopping | .idle => (s.atBlock f).done .state) = t.done st) :
        exec (.pgmSuspend f) s = .next (t.replied f .pgmSuspend st) := exec_replied .pgmSuspend heard does
    refine ⟨fun h => body ?_, fun h => body ?_, fun h => body ?_, fun h => body ?_⟩
    · rw [h]; rfl
    · rw [h]; rfl
    · rw [h]
    · obtain h | h := h <;> rw [h]
  · have body {t : State} {st : Status} (suspended : s.sge.state = .suspended) (does : (match s.sge.suspendCause with
        | .command | .none => (s.atBlock f).returned.done .ok
        | .pauseEnd => if s.stopin then (s.atBlock f).done .state else (s.atBlock f).resumePause.done .ok
        | .stopInput => if s.stopin then (s.atBlock f).done .state else (s.atBlock f).remakeSettings.returned.done .ok) =
          t.done st) : exec (.pgmResume f) s = .next (t.replied f .pgmResume st) :=
      exec_replied .pgmResume heard ((if_neg (not_not.mpr suspended)).trans does)
    refine ⟨fun other => exec_replied .pgmResume heard (if_pos other), fun back suspended cause ret => body suspended ?_,
      fun suspended cause stop => body suspended ?_, fun suspended cause free => body suspended ?_,
      fun st t suspended cause free settings ret ht => body suspended ?_⟩
    · rw [cause]
      have next : back = s.sge.returnState.engine := by
        obtain ⟨was, goes⟩ | ⟨was, goes⟩ := ret <;> rw [was, goes] <;> rfl
      subst next
      rfl
    · obtain cause | cause := cause <;> rw [cause] <;> exact if_pos stop
    · rw [cause]
      exact (if_neg (by rw [free]; decide)).trans (congrArg (State.done · .ok) (State.fetch_eq _))
    · rw [cause]
      refine (if_neg (by rw [free]; decide)).trans (congrArg (State.done · .ok) ?_)
      have remade : (s.atBlock f).remakeSettings = t := by
        rw [ht, State.remakeSettings, State.atBlock_sge, settings]
      have core : t.sge.core = s.sge.core := by
        rw [← remade]
        exact congrArg Prod.fst ((EquipKept.of_program (s.atBlock f).program).remakeSettings rfl)
      have same : t.sge.returnState = s.sge.returnState := (congrArg Sge.returnState core : t.sge.core.returnState = _)
      have goes : s.sge.returnState.engine = if s.sge.returnState = .running then .running else .starved := by
        obtain was | was := ret <;> rw [was] <;> rfl
      rw [remade, State.returned, same, goes]
  · refine ⟨fun idle => exec_replied .pgmAbort heard (if_pos idle), fun busy =>
      ⟨_, exec_replied .pgmAbort heard (if_neg busy), replied_response _ _ _ _, ?_⟩⟩
    have aborted := (s.atBlock f).abort_aborted
    generalize (s.atBlock f).abortSegment.stopAllHeld.programEnd .abort = t at aborted ⊢
    have rest := aborted.rest
    refine ⟨(congrArg Sge.state rest :), (congrArg Sge.endKind rest :), (congrArg Sge.present rest :),
      (congrArg Sge.suspendCause rest :), (congrArg Sge.returnState rest :), (congrArg Sge.cursor rest :),
      (congrArg Sge.completed rest :), (congrArg Sge.settings rest :), (congrArg Sge.unplanned rest :), fun present => ?_, fun i other => ?_,
      aborted.clt, aborted.tgv, fun p => ?_, fun present p => ?_, fun side => ?_, ?_,
      fun k => ?_, aborted.ctu, aborted.pft, aborted.cfs⟩
    · rw [State.replied_sge, aborted.ring]
      exact if_pos ⟨present, rfl⟩
    · rw [State.replied_sge, aborted.ring]
      refine if_neg ?_
      rintro ⟨present, here⟩
      obtain h | h := other
      · exact h here
      · exact absurd (present.symm.trans h) (by decide)
    · rw [replied_hasNotice, aborted.ended]
    · rw [replied_hasNotice, aborted.done present]
    · rw [State.armStow_arm]
      exact aborted.arm side
    · rw [State.pickupUp_pickup]
      exact aborted.pickup
    · obtain ⟨enabled, same⟩ := aborted.bank k
      exact ⟨enabled, same.dose, same.doseInEffect, same.width⟩

end Sys2Proof.Machine

/-! PROOF. The advance of the segment program (R141, R143 to R148): O48. -/

namespace Sys2Proof.Machine

/-! ## The distance of the current segment -/

theorem Sge.addWater_distance (e : Sge) (ml : Nat) : (e.addWater ml).figures.distance = e.figures.distance := by
  unfold Sge.addWater Sge.note
  split <;> rfl

theorem Sge.addStall_distance (e : Sge) : e.addStall.figures.distance = e.figures.distance := by
  unfold Sge.addStall Sge.note
  split <;> rfl

theorem State.sprayRefresh_distance (s : State) : s.sprayRefresh.sge.figures.distance = s.sge.figures.distance := by
  simp [State.sprayRefresh, State.settleBanks_sge, Sge.addWater_distance]

theorem State.refreshIf_distance (s : State) (changed : Bool) :
    (s.refreshIf changed).sge.figures.distance = s.sge.figures.distance := by
  cases changed
  · rfl
  · exact s.sprayRefresh_distance

/-- The equipment leaves the distance swept. -/
theorem EquipKept.of_distance (x : Nat) : EquipKept fun s => s.sge.figures.distance = x where
  fault := id
  lane _ _ := id
  clamp _ _ _ := id
  stall {s} h := s.sge.addStall_distance.trans h
  arm _ h := (State.refreshIf_distance _ _).trans h
  pickup _ h := (State.refreshIf_distance _ _).trans h
  clock _ _ := id
  setting _ _ h := (State.sprayRefresh_distance _).trans h
  disable {s} h := by
    unfold State.disableBanks
    split
    · exact (State.sprayRefresh_distance _).trans h
    · exact h

/-! ## The end of a segment -/

/-- The state with the distance of the current segment at `n`. -/
def State.swept (s : State) (n : Nat) : State :=
  { s with sge := { s.sge with figures := { s.sge.figures with distance := n } } }

/-- The state with the swept segment written back DONE (R144). -/
def State.finished (s : State) (n : Nat) : State := (s.swept n).writeback .done

theorem State.engineMm_ends {s : State} (running : s.sge.state = .running)
    (full : s.sge.figures.distance + 1 = s.sge.atCursor.request.lengthMm) :
    s.engineMm = (s.swept s.sge.atCursor.request.lengthMm).segmentEnd := by
  unfold State.engineMm
  rw [running]
  refine (if_pos full).trans ?_
  rw [full]
  rfl

theorem Fin.succ_ne_cursor : ∀ i : Fin 32, i + 1 ≠ i := by decide

theorem State.finished_atCursor (s : State) (n : Nat) :
    (s.finished n).advanceCursor.sge.atCursor = s.sge.ring.get (s.sge.cursor + 1) :=
  ((s.swept n).sge.writtenBack_get .done _).trans (if_neg (Fin.succ_ne_cursor _))

theorem State.fetch_ring (s : State) : s.fetch.sge.ring = s.sge.ring := by
  rw [State.fetch_eq]
  split
  · rw [s.segmentStart_started.sge]
  · rfl

theorem State.fetch_completed (s : State) : s.fetch.sge.completed = s.sge.completed := by
  rw [State.fetch_eq]
  split
  · rw [s.segmentStart_started.sge]
  · rfl

theorem Tgv.programEnded_segCap (g : Tgv) (k : EndKind) : (g.programEnded k).segCap = none := by
  unfold Tgv.programEnded
  dsimp only
  split <;> rfl

/-- A segment of length `n` has been written back DONE on the way from `s` to `t`. -/
structure State.WroteBack (s : State) (n : Nat) (t : State) : Prop where
  cursor : t.sge.ring.get s.sge.cursor = { s.sge.atCursor with
    owner := .master
    result := some { status := .done, figures := { s.sge.figures with distance := n } } }
  others : ∀ i, i ≠ s.sge.cursor → t.sge.ring.get i = s.sge.ring.get i
  completed : t.sge.completed = min 65535 (s.sge.completed + 1)
  told : ∀ p, (t.port p).hasNotice .segDone = true

/-- What follows a writeback leaves the ring and the count. -/
theorem State.wroteBack {s t : State} {n : Nat} (ring : t.sge.ring = (s.finished n).sge.ring)
    (completed : t.sge.completed = (s.finished n).sge.completed) (posts : (s.finished n).Posts (fun _ => true) t) :
    s.WroteBack n t where
  cursor := by rw [ring]; exact ((s.swept n).sge.writtenBack_get .done _).trans (if_pos rfl)
  others i other := by rw [ring]; exact ((s.swept n).sge.writtenBack_get .done i).trans (if_neg other)
  completed := completed
  told p := posts.keeps (State.post_has _ _ p)

theorem State.segmentEnd_wroteBack {s : State} {n : Nat} (moves : s.sge.atCursor.request.endAction ≠ .stop) :
    s.WroteBack n (s.swept n).segmentEnd := by
  have kept := State.Posts.distanceKept (s.finished n)
  have next : (s.finished n).Posts (fun _ => true) (s.finished n).advanceCursor := .of_ports rfl
  have ends : s.WroteBack n ((s.finished n).programEnd .last) := State.wroteBack rfl rfl (kept.programEnd .last (.refl _))
  have fetches : s.WroteBack n (s.finished n).advanceCursor.fetch :=
    State.wroteBack (State.fetch_ring _) (State.fetch_completed _) (kept.fetch next)
  have pauses : s.WroteBack n ((s.finished n).advanceCursor.suspend .pauseEnd .none) :=
    State.wroteBack rfl rfl (kept.suspend .pauseEnd .none next)
  have same : (s.swept n).sge.atCursor = s.sge.atCursor := rfl
  unfold State.segmentEnd
  dsimp only
  rw [same]
  cases action : s.sge.atCursor.request.endAction with
  | cont =>
    dsimp only
    split
    · exact ends
    · exact fetches
  | pause =>
    dsimp only
    split
    · exact ends
    · exact pauses
  | stop => exact absurd action moves

theorem State.segmentEnd_last {s : State} {n : Nat} (moves : s.sge.atCursor.request.endAction ≠ .stop)
    (last : s.sge.atCursor.request.last = true) : (s.swept n).segmentEnd = (s.finished n).programEnd .last := by
  have same : (s.swept n).sge.atCursor = s.sge.atCursor := rfl
  unfold State.segmentEnd
  dsimp only
  rw [same]
  cases action : s.sge.atCursor.request.endAction with
  | cont => exact if_pos last
  | pause => exact if_pos last
  | stop => exact absurd action moves

theorem State.segmentEnd_pause {s : State} {n : Nat} (action : s.sge.atCursor.request.endAction = .pause)
    (more : s.sge.atCursor.request.last = false) :
    (s.swept n).segmentEnd = (s.finished n).advanceCursor.suspend .pauseEnd .none := by
  have same : (s.swept n).sge.atCursor = s.sge.atCursor := rfl
  unfold State.segmentEnd
  dsimp only
  rw [same, action]
  exact if_neg (by rw [more]; decide)

theorem State.segmentEnd_cont {s : State} {n : Nat} (action : s.sge.atCursor.request.endAction = .cont)
    (more : s.sge.atCursor.request.last = false) : (s.swept n).segmentEnd = (s.finished n).advanceCursor.fetch := by
  have same : (s.swept n).sge.atCursor = s.sge.atCursor := rfl
  unfold State.segmentEnd
  dsimp only
  rw [same, action]
  exact if_neg (by rw [more]; decide)

/-- The state whose equipment a stop at the end of a segment stops (R148). -/
def State.atStop (s : State) : State :=
  { s with
    sge := { s.sge with state := .stopping }
    tgv := { s.tgv with stopRequest := true, stopReported := false } }

theorem State.segmentEnd_stop {s : State} {n : Nat} (action : s.sge.atCursor.request.endAction = .stop) :
    (s.swept n).segmentEnd = (s.swept n).atStop.stopAllHeld := by
  have same : (s.swept n).sge.atCursor = s.sge.atCursor := rfl
  unfold State.segmentEnd
  dsimp only
  rw [same, action]
  rfl

/-- Settles O48, by the state of the engine and the end action of the segment. -/
theorem segmentsAdvance : Obligations.SegmentsAdvance := by
  intro s t d next ht hd hnext
  subst ht hd hnext
  refine ⟨?_, fun starved => ?_, fun running short => ?_, fun running full => ?_⟩
  · rintro (h | h | h) <;> rw [State.engineMm, h]
  · rw [State.engineMm, starved]; rfl
  · rw [State.engineMm, running]; exact if_neg short
  rw [State.engineMm_ends running full]
  generalize s.sge.atCursor.request.lengthMm = n
  refine ⟨fun action => ?_, fun moves => ?_⟩
  · rw [State.segmentEnd_stop action]
    have core := (s.swept n).atStop.stopAllHeld_core
    have orders : s.OrdersAs (s.swept n).atStop := ⟨rfl, rfl, rfl, fun _ => rfl⟩
    refine ⟨Sge.state_of_core core, (congrArg Sge.present core :), (EquipKept.of_distance n).stopAllHeld rfl,
      State.stopAllHeld_tgv _, (Sge.ring_of_core core :), State.stopAllHeld_clt _, fun side => ?_, ?_, fun k => ?_⟩
    · rw [State.stopAllHeld_arm, orders.stowArm, State.armStow_arm]
      rfl
    · rw [State.stopAllHeld_pickup, orders.upPickup, State.pickupUp_pickup]
      rfl
    · obtain ⟨enabled, same⟩ := (s.swept n).atStop.stopAllHeld_bank k
      exact ⟨enabled, same.dose, same.doseInEffect, same.width⟩
  have back := State.segmentEnd_wroteBack (n := n) moves
  refine ⟨back.cursor, back.others, back.completed, back.told, fun last => ?_, fun more action => ?_,
    fun more action master => ?_, fun more action engine st hst => ?_⟩
  · rw [State.segmentEnd_last moves last]
    exact ⟨rfl, rfl, rfl, rfl, Tgv.programEnded_segCap _ _, fun p => State.post_has _ _ p⟩
  · rw [State.segmentEnd_pause action more]
    exact ⟨rfl, rfl, rfl, rfl, rfl, rfl, rfl, fun p => State.post_has _ _ p⟩
  · rw [State.segmentEnd_cont action more, State.fetch_eq, State.finished_atCursor, if_neg (by rw [master]; decide)]
    exact ⟨rfl, rfl, rfl, rfl, rfl, rfl, fun p => State.post_has _ _ p⟩
  · rw [State.segmentEnd_cont action more, State.fetch_eq, State.finished_atCursor, if_pos engine]
    have begun := (s.finished n).advanceCursor.segmentStart_started
    have orders : s.OrdersAs (s.finished n).advanceCursor := ⟨rfl, rfl, rfl, fun _ => rfl⟩
    rw [State.finished_atCursor, ← hst] at begun
    generalize (s.finished n).advanceCursor.segmentStart = t at begun ⊢
    refine ⟨?_, ?_, ?_, ?_, ?_, ?_, begun.pft, begun.tgv, begun.clt, begun.short, fun side setting angle settings => ?_, ?_,
      begun.kept, fun held k b eff w hb hEff hWidth => ?_⟩
    · rw [begun.sge]
    · rw [begun.sge]
    · rw [begun.sge]; rfl
    · rw [begun.sge]
    · rw [begun.sge]
    · rw [begun.sge]; rfl
    · have given : st.arm side = (setting, angle) := by rw [settings]; cases side <;> rfl
      refine (begun.arm side).trans (if_congr Iff.rfl ?_ rfl)
      rw [given, orders.orderedArm]
      exact s.orderedArm_eq side setting angle
    · refine begun.pickup.trans (if_congr Iff.rfl ?_ rfl)
      rw [orders.orderedPickup]
      exact s.orderedPickup_eq _
    · obtain ⟨enabled, dose, inEffect, width, clamp, terms, permissive⟩ := begun.set held k eff w hEff hWidth
      subst hb
      exact ⟨enabled.trans (enableOf_eq _ _ _), dose, inEffect, width, clamp, terms, permissive⟩

end Sys2Proof.Machine

/-! PROOF. Port reset, its release and the silence of a port (R168 to R171): O50. -/

namespace Sys2Proof.Machine

/-- Settles O50, event by event. -/
theorem portResetAndSilence : Obligations.PortResetAndSilence := by
  intro s p x b lost hx hb hlost
  obtain rfl : lost = State.cabLost := funext hlost
  subst hx hb
  refine ⟨fun t ht => ⟨fun held => ?_, fun clear free => ?_, fun clear held => ?_⟩, fun clear => ?_,
    fun held => ?_, fun t ht => ?_⟩
  · exact congrArg Host.Outcome.next (if_pos held)
  · refine congrArg Host.Outcome.next ((if_neg (by rw [State.port, clear]; decide)).trans
      ((if_neg (by rw [free]; decide)).trans ?_))
    subst ht
    cases p <;> rfl
  · exact congrArg Host.Outcome.next ((if_neg (by rw [State.port, clear]; decide)).trans (if_pos held))
  · exact congrArg Host.Outcome.next (if_pos (by rw [State.port, clear]; rfl))
  · exact congrArg Host.Outcome.next (if_neg (by rw [State.port, held]; decide))
  · refine ⟨fun runs => ?_, fun out active => ?_, fun out silent => ?_⟩
    · exact congrArg Host.Outcome.next (if_neg fun h => runs ((Timer.ranOut_iff _).mp h))
    · refine congrArg Host.Outcome.next ((if_pos ((Timer.ranOut_iff _).mpr out)).trans ?_)
      subst ht
      exact if_congr (and_iff_left active) rfl rfl
    · refine congrArg Host.Outcome.next ((if_pos ((Timer.ranOut_iff _).mpr out)).trans ?_)
      subst ht
      exact if_neg fun h => absurd (silent.symm.trans h.2) (by decide)

end Sys2Proof.Machine

/-! PROOF. The withdrawal of the cab's claims (R109, R110): O51. -/

namespace Sys2Proof.Machine

/-! ## A return event and a withdrawal on the records -/

section records

variable (s : State)

/-- A return event on the record of an arm (R152). -/
def State.returnedArm (side : Side) (a : Arm) : Arm :=
  match s.sge.state with
  | .running | .starved | .suspended =>
    match s.sge.settings with
    | some st => s.orderedArm side (st.arm side).1 (st.arm side).2 a
    | none => a
  | .stopping => s.stowArm .command a
  | .idle => a

/-- A return event on the record of the pickup (R152). -/
def State.returnedPickup (u : Pickup) : Pickup :=
  match s.sge.state with
  | .running | .starved | .suspended =>
    match s.sge.settings with
    | some st => s.orderedPickup st.pickup u
    | none => u
  | .stopping => s.upPickup u
  | .idle => u

/-- A withdrawal on the record of an arm whose entry stood in `c` (R82, R109). -/
def State.withdrawnArm (c : Claim) (side : Side) (a : Arm) : Arm :=
  match c with
  | .cab => s.stowArm .claimLoss a
  | .lent => s.returnedArm side a
  | .free | .program => a

/-- A withdrawal on the record of the pickup (R95, R109). -/
def State.withdrawnPickup (c : Claim) (u : Pickup) : Pickup :=
  match c with
  | .cab => if u.state = .lowering ∨ u.state = .working then u.raised .claimLoss s.params.moveTimeout else u
  | .lent => s.returnedPickup u
  | .free | .program => u

end records

theorem State.withdrawnArm_congr {s t : State} (orders : s.OrdersAs t) (core : t.sge.core = s.sge.core) (c : Claim) (side : Side)
    (a : Arm) : t.withdrawnArm c side a = s.withdrawnArm c side a := by
  have settings : t.sge.settings = s.sge.settings := (congrArg Sge.settings core :)
  unfold State.withdrawnArm State.returnedArm
  rw [Sge.state_of_core core, settings, orders.stowArm, orders.stowArm]
  simp only [orders.orderedArm]

theorem State.withdrawnPickup_congr {s t : State} (orders : s.OrdersAs t) (core : t.sge.core = s.sge.core) (c : Claim)
    (u : Pickup) : t.withdrawnPickup c u = s.withdrawnPickup c u := by
  have settings : t.sge.settings = s.sge.settings := (congrArg Sge.settings core :)
  unfold State.withdrawnPickup State.returnedPickup
  rw [Sge.state_of_core core, settings, orders.upPickup, orders.params]
  simp only [orders.orderedPickup]

theorem State.returnEvent_arm_arc {s : State} {side : Side} (held : (s.clt.get (armResource side)).holder = .program) :
    (s.returnEvent (armResource side)).arc = s.arc.setArm side (s.returnedArm side (s.arm side)) := by
  have stays : s.arc = s.arc.setArm side (s.arm side) := (Arc.setArm_arm _ _).symm
  have settings : (match s.sge.settings with
      | some st => s.applyHeld st (armResource side)
      | none => s).arc = s.arc.setArm side (match s.sge.settings with
        | some st => s.orderedArm side (st.arm side).1 (st.arm side).2 (s.arm side)
        | none => s.arm side) := by
    cases s.sge.settings with
    | none => exact stays
    | some st => exact (s.applyHeld_arm_arc st side).trans (congrArg (s.arc.setArm side) (if_pos held))
  unfold State.returnEvent State.returnedArm
  cases s.sge.state with
  | idle => exact stays
  | stopping => exact (s.stopHeld_arm_arc side).trans (congrArg (s.arc.setArm side) (if_pos held))
  | running => exact settings
  | starved => exact settings
  | suspended => exact settings

theorem State.returnEvent_pickup_arc {s : State} (held : (s.clt.get .pickup).holder = .program) :
    (s.returnEvent .pickup).arc = { s.arc with pickup := s.returnedPickup s.arc.pickup } := by
  have settings : (match s.sge.settings with
      | some st => s.applyHeld st .pickup
      | none => s).arc = { s.arc with pickup := match s.sge.settings with
        | some st => s.orderedPickup st.pickup s.arc.pickup
        | none => s.arc.pickup } := by
    cases s.sge.settings with
    | none => rfl
    | some st => exact (s.applyHeld_pickup_arc st).trans (congrArg (fun u => { s.arc with pickup := u }) (if_pos held))
  unfold State.returnEvent State.returnedPickup
  cases s.sge.state with
  | idle => rfl
  | stopping => exact s.stopHeld_pickup_arc.trans (congrArg (fun u => { s.arc with pickup := u }) (if_pos held))
  | running => exact settings
  | starved => exact settings
  | suspended => exact settings

theorem State.pickupClaimLoss_arc (s : State) :
    s.pickupClaimLoss.arc = { s.arc with pickup := s.withdrawnPickup .cab s.arc.pickup } := by
  unfold State.pickupClaimLoss State.withdrawnPickup
  dsimp only
  cases s.arc.pickup.state
  case lowering => exact State.raisePickup_arc _ _
  case working => exact State.raisePickup_arc _ _
  all_goals rfl

theorem State.withdrawEffect_arm_arc {s : State} {c : Claim} {side : Side}
    (held : c = .lent → (s.clt.get (armResource side)).holder = .program) :
    (s.withdrawEffect c (armResource side)).arc = s.arc.setArm side (s.withdrawnArm c side (s.arm side)) := by
  cases c with
  | cab => cases side <;> exact s.armStow_arc _ _
  | lent => exact State.returnEvent_arm_arc (held rfl)
  | free => exact (Arc.setArm_arm _ _).symm
  | program => exact (Arc.setArm_arm _ _).symm

theorem State.withdrawEffect_pickup_arc {s : State} {c : Claim} (held : c = .lent → (s.clt.get .pickup).holder = .program) :
    (s.withdrawEffect c .pickup).arc = { s.arc with pickup := s.withdrawnPickup c s.arc.pickup } := by
  cases c with
  | cab => exact s.pickupClaimLoss_arc
  | lent => exact State.returnEvent_pickup_arc (held rfl)
  | free => rfl
  | program => rfl

theorem State.withdrawEffect_idle {s : State} {c : Claim} {r : Resource} (idle : c = .free ∨ c = .program) :
    s.withdrawEffect c r = s := by obtain rfl | rfl := idle <;> rfl

/-! ## What a withdrawal leaves -/

/-- The claims withdrawn and the cab told, before the equipment moves (R109, R110). -/
def State.atWithdrawal (s : State) : State :=
  { s with
    clt := s.clt.map Claim.withdrawn
    ports := { s.ports with cab := s.ports.cab.postIf .claimLost (Clt.anyCab s.clt) } }

/-- A withdrawal up to the banks. -/
def State.unitsWithdrawn (s : State) : State :=
  ((s.atWithdrawal.withdrawEffect s.clt.armL .armL).withdrawEffect s.clt.armR .armR).withdrawEffect s.clt.pickup .pickup

theorem State.withdrawCab_eq (s : State) : s.withdrawCab = s.unitsWithdrawn.withdrawEffect s.clt.spray .spray := rfl

theorem State.OrdersAs.withdrawEffect (s : State) (c : Claim) (r : Resource) : s.OrdersAs (s.withdrawEffect c r) := by
  constructor <;> simp

theorem State.withdrawEffect_core (s : State) (c : Claim) (r : Resource) : (s.withdrawEffect c r).sge.core = s.sge.core :=
  congrArg Prod.fst ((EquipKept.of_program s.program).withdrawEffect c r rfl)

theorem State.atWithdrawal_held {s u : State} {r : Resource} (clt : u.clt = s.atWithdrawal.clt) (lent : s.clt.get r = .lent) :
    (u.clt.get r).holder = .program := by
  rw [clt, State.atWithdrawal, PerResource.get_map, lent]
  rfl

/-- The arms and the pickup after a withdrawal. -/
theorem State.unitsWithdrawn_arc (s : State) : s.unitsWithdrawn.arc = { s.arc with
    left := s.withdrawnArm s.clt.armL .left s.arc.left
    right := s.withdrawnArm s.clt.armR .right s.arc.right
    pickup := s.withdrawnPickup s.clt.pickup s.arc.pickup } := by
  have r0 : s.OrdersAs s.atWithdrawal := ⟨rfl, rfl, rfl, fun _ => rfl⟩
  have r1 := r0.trans (.withdrawEffect _ s.clt.armL .armL)
  have r2 := r1.trans (.withdrawEffect _ s.clt.armR .armR)
  have c1 : (s.atWithdrawal.withdrawEffect s.clt.armL .armL).sge.core = s.sge.core := State.withdrawEffect_core _ _ _
  have c2 := (State.withdrawEffect_core (s.atWithdrawal.withdrawEffect s.clt.armL .armL) s.clt.armR .armR).trans c1
  have left : (s.atWithdrawal.withdrawEffect s.clt.armL .armL).arc = _ :=
    State.withdrawEffect_arm_arc (side := .left) fun lent => State.atWithdrawal_held rfl lent
  have right : ((s.atWithdrawal.withdrawEffect s.clt.armL .armL).withdrawEffect s.clt.armR .armR).arc = _ :=
    State.withdrawEffect_arm_arc (side := .right) fun lent => State.atWithdrawal_held (by simp) lent
  have pickup : s.unitsWithdrawn.arc = _ :=
    State.withdrawEffect_pickup_arc fun lent => State.atWithdrawal_held (by simp) lent
  rw [State.withdrawnArm_congr r0 rfl] at left
  rw [State.withdrawnArm_congr r1 c1, State.arm, left] at right
  rw [State.withdrawnPickup_congr r2 c2] at pickup
  exact pickup.trans ((congrArg (fun r : Arc => ({ r with pickup := s.withdrawnPickup s.clt.pickup r.pickup } : Arc))
    right).trans rfl)

/-- A return event to the spray resource and a withdrawal of it leave the arms and the pickup. -/
theorem State.withdrawEffect_spray_arc (s : State) (c : Claim) : (s.withdrawEffect c .spray).arc = s.arc := by
  have settings : (match s.sge.settings with
      | some st => s.applyHeld st .spray
      | none => s).arc = s.arc := by
    cases s.sge.settings with
    | none => rfl
    | some st => exact s.applyHeld_spray_arc st
  cases c with
  | cab => exact s.disableBanks_arc
  | lent =>
    unfold State.withdrawEffect State.returnEvent
    dsimp only
    cases s.sge.state with
    | idle => rfl
    | stopping => exact s.stopHeld_spray_arc
    | running => exact settings
    | starved => exact settings
    | suspended => exact settings
  | free => rfl
  | program => rfl

theorem State.withdrawCab_arm (s : State) (side : Side) :
    s.withdrawCab.arm side = s.withdrawnArm (s.clt.get (armResource side)) side (s.arm side) := by
  rw [State.arm, State.withdrawCab_eq, State.withdrawEffect_spray_arc, State.unitsWithdrawn_arc]
  cases side <;> rfl

theorem State.withdrawCab_pickup (s : State) : s.withdrawCab.arc.pickup = s.withdrawnPickup s.clt.pickup s.arc.pickup := by
  rw [State.withdrawCab_eq, State.withdrawEffect_spray_arc, State.unitsWithdrawn_arc]

/-! ## The settings of the banks -/

namespace State.SameSettings

/-- A setting of an arm or of the pickup leaves the settings of the banks. -/
theorem applySetting (s : State) {r : Resource} (unit : r ≠ .spray) (st : Settings) : s.SameSettings (s.applySetting r st) := by
  have arm (side : Side) (setting : ArmSetting) (angle : Option Int) : s.SameSettings (s.applyArm side setting angle) := by
    cases setting with
    | stow => exact (armKept s).armStow side _ (refl s)
    | work => exact (armKept s).armDeploy side angle (refl s)
    | keep => exact refl s
  cases r with
  | armL => exact arm _ _ _
  | armR => exact arm _ _ _
  | pickup =>
    unfold State.applySetting State.applyPickup
    dsimp only
    split
    · exact (armKept s).pickupUp (refl s)
    · exact (armKept s).pickupWork (refl s)
    · exact refl s
  | spray => exact absurd rfl unit

theorem stopResource (s : State) {r : Resource} (unit : r ≠ .spray) : s.SameSettings (s.stopResource r) := by
  cases r with
  | armL => exact (armKept s).armStow .left _ (refl s)
  | armR => exact (armKept s).armStow .right _ (refl s)
  | pickup => exact (armKept s).pickupUp (refl s)
  | spray => exact absurd rfl unit

theorem claimLossStow (s : State) {r : Resource} (unit : r ≠ .spray) : s.SameSettings (s.claimLossStow r) := by
  cases r with
  | armL => exact (armKept s).armStow .left _ (refl s)
  | armR => exact (armKept s).armStow .right _ (refl s)
  | pickup => exact (armKept s).pickupClaimLoss (refl s)
  | spray => exact absurd rfl unit

theorem returnEvent (s : State) {r : Resource} (unit : r ≠ .spray) : s.SameSettings (s.returnEvent r) := by
  have going : s.SameSettings (match s.sge.settings with
      | some st => s.applyHeld st r
      | none => s) := by
    split
    · unfold State.applyHeld
      split
      · exact applySetting s unit _
      · exact refl s
    · exact refl s
  unfold State.returnEvent
  cases s.sge.state with
  | idle => exact refl s
  | stopping =>
    dsimp only
    unfold State.stopHeld
    split
    · exact stopResource s unit
    · exact refl s
  | running => exact going
  | starved => exact going
  | suspended => exact going

theorem withdrawEffect (s : State) (c : Claim) {r : Resource} (unit : r ≠ .spray) : s.SameSettings (s.withdrawEffect c r) := by
  cases c with
  | cab => exact claimLossStow s unit
  | lent => exact returnEvent s unit
  | free => exact refl s
  | program => exact refl s

theorem unitsWithdrawn (s : State) : s.SameSettings s.unitsWithdrawn :=
  (of_rfl (t := s.atWithdrawal) rfl).trans
    (((withdrawEffect _ _ (r := .armL) (by decide)).trans (withdrawEffect _ _ (r := .armR) (by decide))).trans
      (withdrawEffect _ _ (r := .pickup) (by decide)))

end State.SameSettings

/-! ## The way back of a Lent entry -/

/-- What `back` is for a resource that goes back to the program: the setting in force, the stop's setting, or nothing
(R152). -/
def State.GoesBack (s : State) (r : Resource) (back : State → State) : Prop :=
  (∃ st, s.sge.settings = some st ∧ (s.sge.state = .running ∨ s.sge.state = .starved ∨ s.sge.state = .suspended) ∧
    ∀ u, back u = u.applySetting r st) ∨
  (s.sge.state = .stopping ∧ ∀ u, back u = u.stopResource r) ∨ (s.sge.state = .idle ∧ ∀ u, back u = u)

theorem State.GoesBack.returnEvent {s u : State} {r : Resource} {back : State → State} (h : s.GoesBack r back)
    (core : u.sge.core = s.sge.core) (held : (u.clt.get r).holder = .program) : u.returnEvent r = back u := by
  have settings : u.sge.settings = s.sge.settings := (congrArg Sge.settings core :)
  have state := Sge.state_of_core core
  obtain ⟨st, set, going, back⟩ | ⟨stopping, back⟩ | ⟨idle, back⟩ := h
  · rw [← settings] at set
    rw [← state] at going
    rw [State.returnEvent_settings held set going, back]
  · rw [State.returnEvent_stopping held (state.trans stopping), back]
  · rw [State.returnEvent, state, idle, back]

theorem State.GoesBack.arm {s : State} {side : Side} {back : State → State} (h : s.GoesBack (armResource side) back) :
    (back s).arm side = s.returnedArm side (s.arm side) := by
  obtain ⟨st, set, going, back⟩ | ⟨stopping, back⟩ | ⟨idle, back⟩ := h
  · have ordered : s.returnedArm side (s.arm side) = s.orderedArm side (st.arm side).1 (st.arm side).2 (s.arm side) := by
      unfold State.returnedArm
      obtain h | h | h := going <;> rw [h, set]
    rw [back, ordered, State.arm]
    cases side
    · exact congrArg (Arc.arm · .left) (s.applyArm_arc .left _ _)
    · exact congrArg (Arc.arm · .right) (s.applyArm_arc .right _ _)
  · rw [back, State.returnedArm, stopping]
    cases side
    · exact s.armStow_arm .left _
    · exact s.armStow_arm .right _
  · rw [back, State.returnedArm, idle]

theorem State.GoesBack.pickup {s : State} {back : State → State} (h : s.GoesBack .pickup back) :
    (back s).arc.pickup = s.returnedPickup s.arc.pickup := by
  obtain ⟨st, set, going, back⟩ | ⟨stopping, back⟩ | ⟨idle, back⟩ := h
  · have ordered : s.returnedPickup s.arc.pickup = s.orderedPickup st.pickup s.arc.pickup := by
      unfold State.returnedPickup
      obtain h | h | h := going <;> rw [h, set]
    rw [back, ordered]
    exact congrArg Arc.pickup (s.applyPickup_arc _)
  · rw [back, State.returnedPickup, stopping]
    exact s.pickupUp_pickup
  · rw [back, State.returnedPickup, idle]

/-- The settings that the way back gives a bank are those it would have given before the other resources. -/
theorem State.GoesBack.bank {s u : State} {back : State → State} (h : s.GoesBack .spray back) (same : s.SameSettings u)
    (params : u.params = s.params) (profile : u.profile = s.profile) : (back s).SameSettings (back u) := by
  intro k
  obtain ⟨before, enabled⟩ := same k
  obtain ⟨st, _, _, back⟩ | ⟨_, back⟩ | ⟨_, back⟩ := h
  · have first := s.spraySetting_bank st.spray st.dose k rfl rfl
    have second := u.spraySetting_bank st.spray st.dose k rfl rfl
    rw [params, profile, enabled] at second
    rw [back, back]
    exact ⟨⟨second.dose.trans first.dose.symm, second.doseInEffect.trans first.doseInEffect.symm,
      second.width.trans first.width.symm, second.widthClamp.trans first.widthClamp.symm⟩,
      second.enabled.trans first.enabled.symm⟩
  · obtain ⟨first, off⟩ := s.disableBanks_bank k
    obtain ⟨second, off'⟩ := u.disableBanks_bank k
    have chain := before.trans second
    rw [back, back]
    exact ⟨⟨chain.dose.trans first.dose.symm, chain.doseInEffect.trans first.doseInEffect.symm,
      chain.width.trans first.width.symm, chain.widthClamp.trans first.widthClamp.symm⟩, off'.trans off.symm⟩
  · rw [back, back]
    exact same k

/-! ## The notices of a withdrawal -/

theorem State.withdrawCab_posts (s : State) : s.atWithdrawal.Posts Notice.ofEquipment s.withdrawCab :=
  have kept := State.Posts.equipKept s.atWithdrawal (K := Notice.ofEquipment) fun _ h => h
  kept.withdrawEffect _ _ (kept.withdrawEffect _ _ (kept.withdrawEffect _ _ (kept.withdrawEffect _ _ (.refl _))))

theorem State.withdrawCab_told (s : State) (p : PortId) : (s.withdrawCab.port p).hasNotice .claimLost =
    ((s.port p).hasNotice .claimLost || (p == .cab && Clt.anyCab s.clt)) := by
  rw [s.withdrawCab_posts.only rfl]
  cases p with
  | cab => exact Port.postIf_hasNotice_same _ _ _
  | chassis => exact (Bool.or_false _).symm
  | route => exact (Bool.or_false _).symm

theorem PerResource.ext_get {α : Type} {v w : PerResource α} (same : ∀ r, v.get r = w.get r) : v = w := by
  obtain ⟨a, b, c, d⟩ := v
  obtain ⟨a', b', c', d'⟩ := w
  have first : a = a' := same .armL
  have second : b = b' := same .armR
  have third : c = c' := same .pickup
  have fourth : d = d' := same .spray
  rw [first, second, third, fourth]

theorem State.withdrawCab_core (s : State) : s.withdrawCab.sge.core = s.sge.core := by
  rw [State.withdrawCab_eq, State.withdrawEffect_core, State.unitsWithdrawn, State.withdrawEffect_core,
    State.withdrawEffect_core, State.withdrawEffect_core]
  rfl

/-! ## The whole withdrawal of a single Lent entry -/

theorem State.withdrawCab_single {s : State} {r : Resource} {back : State → State} (lent : s.clt.get r = .lent)
    (h : s.GoesBack r back) (others : ∀ x, x ≠ r → s.clt.get x = .free ∨ s.clt.get x = .program) :
    s.withdrawCab = back { s.setClaim r .program with ports := { s.ports with cab := s.ports.cab.postIf .claimLost true } } := by
  have any : Clt.anyCab s.clt = true := by
    have cab : (s.clt.get r).heldByCab = true := by rw [lent]; rfl
    rw [Clt.anyCab]
    simp only [Bool.or_eq_true]
    cases r with
    | armL => exact .inl (.inl (.inl cab))
    | armR => exact .inl (.inl (.inr cab))
    | pickup => exact .inl (.inr cab)
    | spray => exact .inr cab
  have clt : s.clt.map Claim.withdrawn = s.clt.set r .program := PerResource.ext_get fun x => by
    rw [PerResource.get_map, PerResource.get_set]
    by_cases here : x = r
    · rw [if_pos here, here, lent]
      rfl
    · rw [if_neg here]
      obtain idle | idle := others x here <;> rw [idle] <;> rfl
  have start : s.atWithdrawal =
      { s.setClaim r .program with ports := { s.ports with cab := s.ports.cab.postIf .claimLost true } } := by
    rw [State.atWithdrawal, any, clt]
    rfl
  have returned : s.atWithdrawal.returnEvent r = back s.atWithdrawal :=
    h.returnEvent rfl (State.atWithdrawal_held rfl lent)
  rw [← start, ← returned]
  have idle {u : State} {x : Resource} (ne : x ≠ r) : u.withdrawEffect (s.clt.get x) x = u :=
    State.withdrawEffect_idle (others x ne)
  have here {u : State} : u.withdrawEffect (s.clt.get r) r = u.returnEvent r := by rw [lent]; rfl
  have chain : s.withdrawCab = (((s.atWithdrawal.withdrawEffect (s.clt.get .armL) .armL).withdrawEffect (s.clt.get .armR)
      .armR).withdrawEffect (s.clt.get .pickup) .pickup).withdrawEffect (s.clt.get .spray) .spray := rfl
  rw [chain]
  cases r with
  | armL => rw [idle (x := .spray) nofun, idle (x := .pickup) nofun, idle (x := .armR) nofun, here]
  | armR => rw [idle (x := .spray) nofun, idle (x := .pickup) nofun, here, idle (x := .armL) nofun]
  | pickup => rw [idle (x := .spray) nofun, here, idle (x := .armR) nofun, idle (x := .armL) nofun]
  | spray => rw [here, idle (x := .pickup) nofun, idle (x := .armR) nofun, idle (x := .armL) nofun]

/-- Settles O51, resource by resource. -/
theorem cabClaimsWithdrawn : Obligations.CabClaimsWithdrawn := by
  intro s t ht
  subst ht
  have clt : s.withdrawCab.clt = s.clt.map Claim.withdrawn := by simp [State.withdrawCab]
  have core := s.withdrawCab_core
  have kept := State.SameSettings.unitsWithdrawn s
  refine ⟨fun r => ?_, fun side cab => ?_, fun side idle => ?_, fun cab => ?_, fun cab i => ?_, fun idle => ?_, fun idle i => ?_,
    fun notLent i => ?_, fun r back lent goes => ?_, s.withdrawCab_told, State.withdrawCab_tgv s, State.withdrawCab_ctu s,
    State.withdrawCab_pft s, State.withdrawCab_cfs s, Sge.state_of_core core, Sge.ring_of_core core⟩
  · rw [clt, PerResource.get_map]
    cases s.clt.get r <;> rfl
  · rw [State.withdrawCab_arm, cab]
    unfold State.withdrawnArm State.stowArm
    dsimp only
    cases h : (s.arm side).state <;> simp
  · rw [State.withdrawCab_arm]
    obtain idle | idle := idle <;> rw [idle] <;> rfl
  · rw [State.withdrawCab_pickup, cab]
    rfl
  · rw [State.withdrawCab_eq, cab]
    exact (s.unitsWithdrawn.disableBanks_bank i).2
  · rw [State.withdrawCab_pickup]
    obtain idle | idle := idle <;> rw [idle] <;> rfl
  · rw [State.withdrawCab_eq, State.withdrawEffect_idle idle]
    exact (kept i).2
  · have same : (s.spc.banks.get i).SameDose (s.withdrawCab.spc.banks.get i) := by
      rw [State.withdrawCab_eq]
      cases entry : s.clt.spray with
      | cab => exact (kept i).1.trans (s.unitsWithdrawn.disableBanks_bank i).1
      | lent => exact absurd entry notLent
      | free => exact (kept i).1
      | program => exact (kept i).1
    exact ⟨same.dose, same.doseInEffect, same.width⟩
  · have goes : s.GoesBack r back := goes
    refine ⟨fun side here => ?_, fun here => ?_, fun here i => ?_, State.withdrawCab_single lent goes⟩
    · subst here
      rw [State.withdrawCab_arm, lent, goes.arm]
      rfl
    · subst here
      rw [State.withdrawCab_pickup, show s.clt.pickup = .lent from lent, goes.pickup]
      rfl
    · subst here
      have params : s.unitsWithdrawn.params = s.params := by simp [State.unitsWithdrawn]; rfl
      have profile : s.unitsWithdrawn.profile = s.profile := by simp [State.unitsWithdrawn]; rfl
      have core : s.unitsWithdrawn.sge.core = s.sge.core := by
        rw [← s.withdrawCab_core, State.withdrawCab_eq, State.withdrawEffect_core]
      have returned : s.withdrawCab = back s.unitsWithdrawn := by
        rw [State.withdrawCab_eq, show s.clt.spray = .lent from lent]
        exact goes.returnEvent core (State.atWithdrawal_held (by simp [State.unitsWithdrawn]) lent)
      obtain ⟨same, enabled⟩ := goes.bank kept params profile i
      rw [returned]
      exact ⟨enabled, same.dose, same.doseInEffect, same.width⟩

end Sys2Proof.Machine

/-! PROOF. The stop input (R73, R97, R118, R119, R151): O49. -/

namespace Sys2Proof.Machine

/-! ## The arms and the pickup under STOPIN (R97) -/

/-- STOPIN on the record of an arm. -/
def Arm.stopped (a : Arm) (timeout : Nat) : Arm :=
  match a.state with
  | .deploying | .working => a.lifted .stop timeout
  | .homing => { a with deployPending := false }
  | .stowed | .lifting | .fault => a

/-- STOPIN on the record of the pickup. -/
def Pickup.stopped (u : Pickup) (timeout : Nat) : Pickup :=
  match u.state with
  | .lowering | .working => u.raised .stop timeout
  | .up | .raising | .fault => u

theorem State.stopArm_arc (s : State) (side : Side) :
    (s.stopArm side).arc = s.arc.setArm side ((s.arm side).stopped s.params.moveTimeout) := by
  unfold State.stopArm Arm.stopped
  cases homing : (s.arm side).state
  case deploying => exact State.liftArm_arc _ _ _
  case working => exact State.liftArm_arc _ _ _
  case homing =>
    dsimp only
    rw [← homing]
    rfl
  all_goals exact (Arc.setArm_arm _ _).symm

theorem State.stopPickup_arc (s : State) :
    s.stopPickup.arc = { s.arc with pickup := s.arc.pickup.stopped s.params.moveTimeout } := by
  unfold State.stopPickup Pickup.stopped
  cases s.arc.pickup.state
  case lowering => exact State.raisePickup_arc _ _
  case working => exact State.raisePickup_arc _ _
  all_goals rfl

/-- The assertion at the Spray Controller, the arms and the pickup: all but the engine and the notice. -/
def State.unitsStopped (s : State) : State :=
  ((({ s with stopin := true } : State).sprayRefresh.stopArm .left).stopArm .right).stopPickup

theorem State.unitsStopped_arc (s : State) : s.unitsStopped.arc = { s.arc with
    left := s.arc.left.stopped s.params.moveTimeout
    right := s.arc.right.stopped s.params.moveTimeout
    pickup := s.arc.pickup.stopped s.params.moveTimeout } := by
  have params : (({ s with stopin := true } : State).sprayRefresh).params = s.params := by simp; rfl
  have arc : (({ s with stopin := true } : State).sprayRefresh).arc = s.arc := State.sprayRefresh_arc _
  unfold State.unitsStopped
  generalize (({ s with stopin := true } : State).sprayRefresh) = u at *
  have left := u.stopArm_arc .left
  have right := (u.stopArm .left).stopArm_arc .right
  rw [State.stopArm_params, State.arm, left, params, State.arm, arc] at right
  rw [State.stopPickup_arc, State.stopArm_params, State.stopArm_params, params]
  exact (congrArg (fun r : Arc => ({ r with pickup := r.pickup.stopped s.params.moveTimeout } : Arc)) right).trans rfl

/-! ## The banks under STOPIN (R118, R119) -/

/-- STOPIN holds, every valve is closed on T7, and the latches are `latch`. -/
def State.Shut (latch : BankId → Option Term) (s : State) : Prop :=
  s.stopin = true ∧ ∀ i, (s.spc.banks.get i).valve = false ∧ (s.spc.banks.get i).terms.t7 = false ∧
    (s.spc.banks.get i).firstFailing = latch i

theorem Terms.all_of_t7 {t : Terms} (t7 : t.t7 = false) : t.all = false := by rw [Terms.all, t7, Bool.and_false]

theorem State.Shut.sprayRefresh {latch : BankId → Option Term} {s : State} (h : s.Shut latch) : s.sprayRefresh.Shut latch := by
  obtain ⟨stop, banks⟩ := h
  have off (u : State) (i : BankId) (stop : u.stopin = true) : (u.termsOf i).t7 = false := by rw [State.termsOf, stop]; rfl
  have stop' : s.sprayRefresh.stopin = true := (State.sprayRefresh_stopin s).trans stop
  refine ⟨stop', fun i => ?_⟩
  obtain ⟨valve, t7, latched⟩ := banks i
  have before := Terms.all_of_t7 (off s i stop)
  rw [State.sprayRefresh_bank]
  refine ⟨by rw [Bank.settled_valve, valve, Bool.false_and], off _ i stop', ?_⟩
  rw [Bank.settled_firstFailing _ _ fun all => absurd (before.symm.trans all) (by decide), Terms.all_of_t7 t7, before]
  exact latched

/-- The arms and the pickup leave the banks shut. -/
theorem State.Shut.armKept (latch : BankId → Option Term) : ArmKept (State.Shut latch) where
  fault h := h
  lane _ _ h := h
  clamp _ _ _ h := h
  stall h := h
  arm {s side x} _ h := by
    unfold State.putArm State.refreshIf
    split
    · exact State.Shut.sprayRefresh h
    · exact h
  pickup {s x} _ h := by
    unfold State.putPickup State.refreshIf
    split
    · exact State.Shut.sprayRefresh h
    · exact h
  clock _ _ h := h

/-- The banks as the assertion leaves them, before the latches of a race are settled. -/
theorem State.unitsStopped_shut (s : State) :
    s.unitsStopped.Shut fun i => (({ s with stopin := true } : State).sprayRefresh.spc.banks.get i).firstFailing := by
  have kept := State.Shut.armKept
    fun i => (({ s with stopin := true } : State).sprayRefresh.spc.banks.get i).firstFailing
  refine kept.stopPickup (kept.stopArm .right (kept.stopArm .left ⟨State.sprayRefresh_stopin _, fun i => ?_⟩))
  have off : (({ s with stopin := true } : State).sprayRefresh.termsOf i).t7 = false := by
    rw [State.termsOf, State.sprayRefresh_stopin]
    rfl
  refine ⟨?_, ?_, rfl⟩
  · rw [State.sprayRefresh_bank, Bank.settled_valve, Terms.all_of_t7 off, Bool.and_false]
  · rw [State.sprayRefresh_bank]
    exact off

/-- STOPIN takes a permissive away by T7 (R119). -/
theorem State.stopRefresh_latch {s : State} {i : BankId} (all : (s.spc.banks.get i).terms.all = true)
    (current : s.termsOf i = (s.spc.banks.get i).terms) :
    (({ s with stopin := true } : State).sprayRefresh.spc.banks.get i).firstFailing = some .t7 := by
  have before : ({ s with stopin := true } : State).termsOf i = { s.termsOf i with t7 := false } := rfl
  rw [← current] at all
  have off : (({ s with stopin := true } : State).termsOf i).all = false := Terms.all_of_t7 rfl
  rw [State.sprayRefresh_bank, Bank.settled_firstFailing _ _ fun a => absurd (off.symm.trans a) (by decide)]
  have was : (({ s with stopin := true } : State).spc.banks.get i).terms.all = true := by rw [← all, current]
  rw [was, off, before]
  simp only [Terms.all, Bool.and_eq_true] at all
  obtain ⟨⟨⟨⟨⟨⟨t1, t2⟩, t3⟩, t4⟩, t5⟩, t6⟩, _⟩ := all
  simp [Terms.firstFalse, t1, t2, t3, t4, t5, t6]

theorem State.unitsStopped_enabled (s : State) : s.SameSettings s.unitsStopped :=
  have first : s.SameSettings ({ s with stopin := true } : State).sprayRefresh :=
    (State.SameSettings.of_rfl (t := { s with stopin := true }) rfl).trans (.sprayRefresh _)
  have kept := State.SameSettings.armKept s
  kept.stopPickup (kept.stopArm .right (kept.stopArm .left first))

/-! ## The latch of a race (R119) -/

theorem State.closingMl_closedBefore_le {s : State} {ml : BankId → Nat} (hml : ∀ j, ml j = if (s.spc.banks.get j).valve then
      ((s.spc.banks.get j).remainder + s.params.nozzleFlow j * (s.spc.banks.get j).openTime) / 1000 else 0)
    (rank : Config.StopEvent → Nat) (t : State) (i : BankId) : s.closingMl (closedBefore rank s t i) ≤ match i with
      | .b0 => ml .b1 + ml .b2 + ml .b3
      | .b1 => ml .b0 + ml .b2 + ml .b3
      | .b2 | .b3 => ml .b0 + ml .b1 := by
  have part (j : BankId) : (s.spc.banks.get j).closingMl (closedBefore rank s t i j (s.spc.banks.get j)) (s.params.nozzleFlow j) ≤
      ml j := by
    rw [hml, Bank.closingMl, closedBefore]
    cases (s.spc.banks.get j).valve with
    | false => exact Nat.le_refl _
    | true =>
      rw [if_pos rfl]
      split
      · exact Nat.le_refl _
      · exact Nat.zero_le _
  have own {j : BankId} (same : equipEvent j = equipEvent i) :
      (s.spc.banks.get j).closingMl (closedBefore rank s t i j (s.spc.banks.get j)) (s.params.nozzleFlow j) = 0 := by
    rw [closedBefore_same same]
    rfl
  rw [State.closingMl_eq]
  have p0 := part .b0
  have p1 := part .b1
  have p2 := part .b2
  have p3 := part .b3
  cases i with
  | b0 =>
    have own0 := own (j := .b0) rfl
    dsimp only
    omega
  | b1 =>
    have own1 := own (j := .b1) rfl
    dsimp only
    omega
  | b2 =>
    have own2 := own (j := .b2) rfl
    have own3 := own (j := .b3) rfl
    dsimp only
    omega
  | b3 =>
    have own2 := own (j := .b2) rfl
    have own3 := own (j := .b3) rfl
    dsimp only
    omega

/-! ## The engine under STOPIN (R151) -/

section engine

variable {s : State}

theorem State.engineStopInput_running (h : s.sge.state = .running) :
    s.engineStopInput = ({ s with sge := s.sge.noteStopInput } : State).suspend .stopInput .running := by
  rw [State.engineStopInput, h]

theorem State.engineStopInput_starved (h : s.sge.state = .starved) :
    s.engineStopInput = s.suspend .stopInput .starved := by rw [State.engineStopInput, h]

theorem State.engineStopInput_suspended (h : s.sge.state = .suspended) : s.engineStopInput =
    if s.sge.suspendCause = .command then { s with sge := { s.sge.noteStopInput with suspendCause := .stopInput } } else s := by
  rw [State.engineStopInput, h]

theorem State.engineStopInput_stopping (h : s.sge.state = .stopping) :
    s.engineStopInput = { s with sge := s.sge.noteStopInput } := by rw [State.engineStopInput, h]

theorem State.engineStopInput_idle (h : s.sge.state = .idle) : s.engineStopInput = s := by rw [State.engineStopInput, h]

theorem Sge.noteStopInput_flag {e : Sge} (present : e.present = true) : e.noteStopInput.figures.flags.stoppedByInput = true := by
  rw [Sge.noteStopInput, Sge.note, if_pos present]
  rfl

/-- What is left of the engine record: the place in the ring. -/
theorem State.engineStopInput_place (s : State) :
    s.engineStopInput.sge.ring = s.sge.ring ∧ s.engineStopInput.sge.cursor = s.sge.cursor := by
  have ring := Sge.ring_of_core s.sge.noteStopInput_core
  have cursor : s.sge.noteStopInput.cursor = s.sge.cursor := (congrArg Sge.cursor s.sge.noteStopInput_core :)
  cases h : s.sge.state with
  | running => rw [State.engineStopInput_running h]; exact ⟨ring, cursor⟩
  | starved => rw [State.engineStopInput_starved h]; exact ⟨rfl, rfl⟩
  | suspended =>
    rw [State.engineStopInput_suspended h]
    split
    · exact ⟨ring, cursor⟩
    · exact ⟨rfl, rfl⟩
  | stopping => rw [State.engineStopInput_stopping h]; exact ⟨ring, cursor⟩
  | idle => rw [State.engineStopInput_idle h]; exact ⟨rfl, rfl⟩

/-- The flag of a segment that STOPIN stops (R142, R151). -/
theorem State.engineStopInput_flag (present : s.sge.present = true)
    (stopped : s.sge.state = .running ∨ s.sge.state = .stopping ∨ s.sge.state = .suspended ∧ s.sge.suspendCause = .command) :
    s.engineStopInput.sge.figures.flags.stoppedByInput = true := by
  obtain h | h | ⟨h, command⟩ := stopped
  · rw [State.engineStopInput_running h]; exact Sge.noteStopInput_flag present
  · rw [State.engineStopInput_stopping h]; exact Sge.noteStopInput_flag present
  · rw [State.engineStopInput_suspended h, if_pos command]; exact Sge.noteStopInput_flag present

theorem State.engineStopInput_going (h : s.sge.state = .running ∨ s.sge.state = .starved) :
    s.engineStopInput.sge.state = .suspended ∧ s.engineStopInput.sge.suspendCause = .stopInput ∧
      s.engineStopInput.sge.returnState = (if s.sge.state = .running then .running else .starved) ∧
      ∀ p, (s.engineStopInput.port p).hasNotice .pgmSuspended = true := by
  obtain h | h := h
  · rw [State.engineStopInput_running h, if_pos h]
    exact ⟨rfl, rfl, rfl, fun p => State.post_has _ _ p⟩
  · rw [State.engineStopInput_starved h, h]
    exact ⟨rfl, rfl, rfl, fun p => State.post_has _ _ p⟩

theorem State.engineStopInput_held (h : s.sge.state = .suspended) : s.engineStopInput.sge.state = .suspended ∧
    s.engineStopInput.sge.returnState = s.sge.returnState ∧
    s.engineStopInput.sge.suspendCause = (if s.sge.suspendCause = .command then .stopInput else s.sge.suspendCause) := by
  rw [State.engineStopInput_suspended h]
  split
  · exact ⟨(Sge.state_of_core s.sge.noteStopInput_core).trans h, (congrArg Sge.returnState s.sge.noteStopInput_core :), rfl⟩
  · exact ⟨h, rfl, rfl⟩

theorem State.engineStopInput_still (h : s.sge.state = .stopping ∨ s.sge.state = .idle) :
    s.engineStopInput.sge.state = s.sge.state := by
  obtain h | h := h
  · rw [State.engineStopInput_stopping h]; exact Sge.state_of_core s.sge.noteStopInput_core
  · rw [State.engineStopInput_idle h]

end engine

theorem State.unitsStopped_core (s : State) : s.unitsStopped.sge.core = s.sge.core := by
  have hP := EquipKept.of_program ({ s with stopin := true } : State).sprayRefresh.program
  have kept : s.unitsStopped.program = ({ s with stopin := true } : State).sprayRefresh.program :=
    hP.stopPickup (hP.stopArm .right (hP.stopArm .left rfl))
  have core : s.unitsStopped.sge.core = ({ s with stopin := true } : State).sprayRefresh.sge.core := congrArg Prod.fst kept
  exact core.trans (State.sprayRefresh_core _)

/-! ## The assertion and the release -/

theorem resolveLatch_bank (s t : State) (i : BankId) :
    (resolveLatch s t).spc.banks.get i = latchOf s t i (t.spc.banks.get i) := PerBank.get_map _ _ _

theorem State.stopEffects_spc (s : State) : s.stopEffects.spc = s.unitsStopped.spc := State.engineStopInput_spc _

theorem Spc.followStop_bank (c : Spc) (stopin : Bool) (i : BankId) : (c.followStop stopin).banks.get i =
    { c.banks.get i with terms := { (c.banks.get i).terms with t7 := !stopin } } := PerBank.get_map _ _ _

theorem State.stopEffects_arc (s : State) : s.stopEffects.arc = { s.arc with
    left := s.arc.left.stopped s.params.moveTimeout
    right := s.arc.right.stopped s.params.moveTimeout
    pickup := s.arc.pickup.stopped s.params.moveTimeout } :=
  (State.engineStopInput_arc _).trans s.unitsStopped_arc

theorem State.stopEffects_arm (s : State) (side : Side) :
    s.stopEffects.arm side = (s.arm side).stopped s.params.moveTimeout := by
  rw [State.arm, State.stopEffects_arc]
  cases side <;> rfl

/-- A bank after an assertion (R118, R119). -/
theorem State.stopEffects_bank (s : State) (i : BankId) :
    ((resolveLatch s s.stopEffects).spc.banks.get i).valve = false ∧
      ((resolveLatch s s.stopEffects).spc.banks.get i).terms.t7 = false ∧
      ((resolveLatch s s.stopEffects).spc.banks.get i).enabled = (s.spc.banks.get i).enabled := by
  obtain ⟨valve, t7, _⟩ := s.unitsStopped_shut.2 i
  have enabled := (s.unitsStopped_enabled i).2
  rw [resolveLatch_bank, State.stopEffects_spc, latchOf]
  split <;> exact ⟨valve, t7, enabled⟩

/-- The latch of a bank that had its permissive (R119, R124). -/
theorem State.stopEffects_latch {s : State} {i : BankId} (all : (s.spc.banks.get i).terms.all = true)
    (current : s.termsOf i = (s.spc.banks.get i).terms) :
    ((resolveLatch s s.stopEffects).spc.banks.get i).firstFailing = some .t7 ∨
      ((resolveLatch s s.stopEffects).spc.banks.get i).firstFailing = some .t4 ∨
      ((resolveLatch s s.stopEffects).spc.banks.get i).firstFailing = some .t2 ∧
        crossesReserve s.params.reserve s.spc.estimate (s.spc.estimate -
          s.closingMl (closedBefore (Config.stopRank s.raceCount) s s.stopEffects i)) = true := by
  rw [resolveLatch_bank, State.stopEffects_spc]
  obtain ⟨_, alone⟩ | ⟨_, latched⟩ := latchOf_cases s s.stopEffects i (s.unitsStopped.spc.banks.get i)
  · rw [alone]
    exact .inl ((s.unitsStopped_shut.2 i).2.2.trans (State.stopRefresh_latch all current))
  · rw [latched]
    obtain ⟨term, crosses⟩ | term | term := latchedTerm_cases (Config.stopRank s.raceCount) s s.stopEffects i
    · exact .inr (.inr ⟨congrArg some term, crosses⟩)
    · exact .inr (.inl (congrArg some term))
    · exact .inl (congrArg some term)

/-- Settles O49, by the level of STOPIN and of RSTN. -/
theorem stopInputActs : Obligations.StopInputActs := by
  intro s
  have asserted (free : s.stopin = false) (runs : s.rstnHeld = false) :
      exec .stopinAsserted s = .next (resolveLatch s s.stopEffects) :=
    congrArg Host.Outcome.next ((if_neg (by rw [free]; decide)).trans (if_neg (by rw [runs]; decide)))
  have released (stop : s.stopin = true) (runs : s.rstnHeld = false) :
      exec .stopinReleased s = .next ((({ s with stopin := false } : State).rearm.sprayRefresh).post .stopInput) :=
    congrArg Host.Outcome.next ((if_neg (by rw [stop]; decide)).trans (if_neg (by rw [runs]; decide)))
  refine ⟨fun stop => congrArg Host.Outcome.next (if_pos stop),
    fun free => congrArg Host.Outcome.next (if_pos (by rw [free]; rfl)),
    fun free runs => ⟨_, asserted free runs, ?_⟩, fun stop runs => ⟨_, released stop runs, ?_⟩, fun held =>
      ⟨fun free => ⟨{ s with stopin := true, spc := s.spc.followStop true }, ?_, rfl, fun i => Spc.followStop_bank _ _ i⟩,
        fun stop => ⟨{ s with stopin := false, spc := s.spc.followStop false }, ?_, rfl,
          fun i => Spc.followStop_bank _ _ i⟩⟩⟩
  · have core := s.unitsStopped_core
    have state : s.unitsStopped.sge.state = s.sge.state := Sge.state_of_core core
    have cause : s.unitsStopped.sge.suspendCause = s.sge.suspendCause := Sge.cause_of_core core
    have back : s.unitsStopped.sge.returnState = s.sge.returnState := (congrArg Sge.returnState core :)
    have present : s.unitsStopped.sge.present = s.sge.present := (congrArg Sge.present core :)
    have cursor : s.unitsStopped.sge.cursor = s.sge.cursor := (congrArg Sge.cursor core :)
    have ring : s.unitsStopped.sge.ring = s.sge.ring := Sge.ring_of_core core
    obtain ⟨ringKept, cursorKept⟩ := s.unitsStopped.engineStopInput_place
    have frame : (resolveLatch s s.stopEffects).stopin = true ∧ (resolveLatch s s.stopEffects).tgv = s.tgv ∧
        (resolveLatch s s.stopEffects).ctu = s.ctu ∧ (resolveLatch s s.stopEffects).clt = s.clt ∧
        (resolveLatch s s.stopEffects).pft = s.pft ∧ (resolveLatch s s.stopEffects).cfs = s.cfs := by
      simp [resolveLatch, State.stopEffects]
    obtain ⟨stopin, tgv, ctu, clt, pft, cfs⟩ := frame
    refine ⟨stopin, fun i => ?_, fun side out => ?_, fun side homing => ?_, fun side still => ?_, fun out => ?_, fun still => ?_,
      fun going => ?_, fun held => ?_, fun still => ?_, fun here stopped => ?_, ringKept.trans ring, cursorKept.trans cursor,
      fun p => State.post_has _ _ p, tgv, ctu, clt, pft, cfs⟩
    · obtain ⟨valve, t7, enabled⟩ := s.stopEffects_bank i
      refine ⟨valve, t7, enabled, fun all current => ?_⟩
      obtain h | h | ⟨h, crosses⟩ := State.stopEffects_latch all current
      · exact .inl h
      · exact .inr (.inl h)
      · simp only [crossesReserve, Bool.and_eq_true, decide_eq_true_eq] at crosses
        obtain ⟨above, below⟩ := crosses
        refine .inr (.inr ⟨h, above, fun ml hml => ?_⟩)
        have water := State.closingMl_closedBefore_le hml (Config.stopRank s.raceCount) s.stopEffects i
        exact Nat.le_trans (Nat.sub_le_iff_le_add.mp below) (Nat.add_le_add_left water _)
    · refine (s.stopEffects_arm side).trans ?_
      obtain out | out := out <;> rw [Arm.stopped, out]
    · refine (s.stopEffects_arm side).trans ?_
      simp only [Arm.stopped, homing]
    · refine (s.stopEffects_arm side).trans ?_
      obtain still | still | still := still <;> rw [Arm.stopped, still]
    · refine (congrArg Arc.pickup s.stopEffects_arc).trans ?_
      dsimp only
      obtain out | out := out <;> rw [Pickup.stopped, out]
    · refine (congrArg Arc.pickup s.stopEffects_arc).trans ?_
      dsimp only
      obtain still | still | still := still <;> rw [Pickup.stopped, still]
    · rw [← state] at going ⊢
      obtain ⟨suspended, why, goesTo, told⟩ := State.engineStopInput_going going
      exact ⟨suspended, why, goesTo, fun p => State.post_keeps _ (told p)⟩
    · rw [← state] at held
      rw [← back, ← cause]
      exact State.engineStopInput_held held
    · rw [← state] at still ⊢
      exact State.engineStopInput_still still
    · rw [← present] at here
      rw [← state, ← cause] at stopped
      exact State.engineStopInput_flag here stopped
  · have core : ({ s with stopin := false } : State).rearm.sprayRefresh.sge.core = s.sge.core := State.sprayRefresh_core _
    refine ⟨State.sprayRefresh_stopin _, State.sprayRefresh_tgv _, State.sprayRefresh_arc _, Sge.state_of_core core, fun i => ?_,
      fun p => State.post_has _ _ p, State.sprayRefresh_ctu _, State.sprayRefresh_clt _, State.sprayRefresh_pft _,
      State.sprayRefresh_cfs _⟩
    have on : (({ s with stopin := false } : State).rearm.sprayRefresh.termsOf i).t7 = true := by
      rw [State.termsOf, State.sprayRefresh_stopin]
      rfl
    refine (congrArg (fun b : Bank => b.terms.t7) (State.sprayRefresh_bank _ i)).trans on
  · exact congrArg Host.Outcome.next ((if_neg (by rw [free]; decide)).trans (if_pos held))
  · exact congrArg Host.Outcome.next ((if_neg (by rw [stop]; decide)).trans (if_pos held))

end Sys2Proof.Machine

/-! PROOF. No operation of the model reads or writes the queue (section 4.4): first the operations of the Spray Controller and of
the Arm Controller. -/

namespace Sys2Proof.Machine

/-- The state with another queue. -/
def State.withQueue (s : State) (q : List Instr) : State := { s with pending := q }

/-- `t` is `s` with the queue `q`. An operation that takes such states to such states does not look at the queue. -/
def State.Requeued (q : List Instr) (s t : State) : Prop := t = s.withQueue q

/-- The same for an operation that answers a status. -/
def AnswersRequeued (q : List Instr) (r r' : State × Status) : Prop := r.1.Requeued q r'.1 ∧ r'.2 = r.2

section fields

variable (s : State) (q : List Instr)

theorem State.withQueue_stopin : (s.withQueue q).stopin = s.stopin := rfl
theorem State.withQueue_tgv : (s.withQueue q).tgv = s.tgv := rfl
theorem State.withQueue_arc : (s.withQueue q).arc = s.arc := rfl
theorem State.withQueue_sge : (s.withQueue q).sge = s.sge := rfl
theorem State.withQueue_cfs : (s.withQueue q).cfs = s.cfs := rfl
theorem State.withQueue_arm (side : Side) : (s.withQueue q).arm side = s.arm side := rfl
theorem State.withQueue_port (p : PortId) : (s.withQueue q).port p = s.port p := rfl
theorem State.withQueue_armHomed (side : Side) : (s.withQueue q).armHomed side = s.armHomed side := rfl
theorem State.withQueue_params : (s.withQueue q).params = s.params := rfl

end fields

namespace State.Requeued

variable {q : List Instr} {s t : State}

/-- A choice on a test that does not look at the queue. -/
theorem ite {c : Prop} [Decidable c] {a b a' b' : State} (ha : a.Requeued q a') (hb : b.Requeued q b') :
    (if c then a else b).Requeued q (if c then a' else b') := by
  split
  · exact ha
  · exact hb

/-! ## Postings and lanes -/

theorem post (h : s.Requeued q t) (k : Notice) : (s.post k).Requeued q (t.post k) := by
  obtain rfl := h
  exact rfl

theorem raiseClamp (h : s.Requeued q t) (l : LaneId) (k : ClampKind) (sat : Bool) :
    (s.raiseClamp l k sat).Requeued q (t.raiseClamp l k sat) := by
  obtain rfl := h
  exact rfl

theorem publishLane (h : s.Requeued q t) (l : LaneId) (r : LaneReq) : (s.publishLane l r).Requeued q (t.publishLane l r) := by
  obtain rfl := h
  exact rfl

/-! ## The Spray Controller -/

theorem evalTerms (h : s.Requeued q t) : s.evalTerms.Requeued q t.evalTerms := by
  obtain rfl := h
  exact rfl

theorem closeWhere (h : s.Requeued q t) (p : BankId → Bank → Bool) : (s.closeWhere p).Requeued q (t.closeWhere p) := by
  obtain rfl := h
  exact rfl

theorem settleBanks (h : s.Requeued q t) : s.settleBanks.Requeued q t.settleBanks :=
  ((h.evalTerms.closeWhere _).evalTerms).closeWhere _

theorem setPump (h : s.Requeued q t) : s.setPump.Requeued q t.setPump := by
  obtain rfl := h
  exact rfl

theorem publishSpry (h : s.Requeued q t) : s.publishSpry.Requeued q t.publishSpry := by
  obtain rfl := h
  exact .ite rfl (.setPump (.publishLane rfl _ _))

theorem sprayRefresh (h : s.Requeued q t) : s.sprayRefresh.Requeued q t.sprayRefresh := h.settleBanks.publishSpry

theorem refreshIf (h : s.Requeued q t) (changed : Bool) : (s.refreshIf changed).Requeued q (t.refreshIf changed) :=
  .ite h.sprayRefresh h

theorem profilePublished (h : s.Requeued q t) : s.profilePublished.Requeued q t.profilePublished := by
  obtain rfl := h
  exact rfl

theorem spraySetting (h : s.Requeued q t) (mask : Option (BitVec 4)) (dose : Option Nat) :
    (s.spraySetting mask dose).Requeued q (t.spraySetting mask dose) := by
  obtain rfl := h
  exact .sprayRefresh rfl

theorem disableBanks (h : s.Requeued q t) : s.disableBanks.Requeued q t.disableBanks := by
  obtain rfl := h
  exact .ite (.sprayRefresh rfl) rfl

theorem distanceMark (h : s.Requeued q t) : s.distanceMark.Requeued q t.distanceMark := by
  obtain rfl := h
  exact rfl

theorem spraySegmentStart (h : s.Requeued q t) : s.spraySegmentStart.Requeued q t.spraySegmentStart := by
  obtain rfl := h
  exact rfl

theorem pulseExpired (h : s.Requeued q t) (i : BankId) : (s.pulseExpired i).Requeued q (t.pulseExpired i) := by
  obtain rfl := h
  exact .refreshIf rfl _

theorem setEstimate (h : s.Requeued q t) (ml : Nat) : (s.setEstimate ml).Requeued q (t.setEstimate ml) := by
  obtain rfl := h
  exact .refreshIf rfl _

/-! ## The arms and the pickup -/

theorem setArm (h : s.Requeued q t) (side : Side) (x : Arm) : (s.setArm side x).Requeued q (t.setArm side x) := by
  obtain rfl := h
  exact rfl

theorem putArm (h : s.Requeued q t) (side : Side) (x : Arm) : (s.putArm side x).Requeued q (t.putArm side x) := by
  obtain rfl := h
  exact .refreshIf (.setArm rfl _ _) _

theorem putPickup (h : s.Requeued q t) (x : Pickup) : (s.putPickup x).Requeued q (t.putPickup x) := by
  obtain rfl := h
  exact .refreshIf rfl _

theorem liftArm (h : s.Requeued q t) (side : Side) (cause : Cause) : (s.liftArm side cause).Requeued q (t.liftArm side cause) := by
  obtain rfl := h
  exact .putArm (.publishLane rfl _ _) _ _

theorem faultArm (h : s.Requeued q t) (side : Side) (cause : Cause) :
    (s.faultArm side cause).Requeued q (t.faultArm side cause) := by
  obtain rfl := h
  exact .post (.putArm (.publishLane rfl _ _) _ _) _

theorem pickupLanesOff (h : s.Requeued q t) : s.pickupLanesOff.Requeued q t.pickupLanesOff :=
  (h.publishLane _ _).publishLane _ _

theorem raisePickup (h : s.Requeued q t) (cause : Cause) : (s.raisePickup cause).Requeued q (t.raisePickup cause) := by
  obtain rfl := h
  exact .putPickup (.pickupLanesOff rfl) _

theorem faultPickup (h : s.Requeued q t) (cause : Cause) : (s.faultPickup cause).Requeued q (t.faultPickup cause) := by
  obtain rfl := h
  exact .post (.putPickup (.pickupLanesOff rfl) _) _

theorem armRetarget (h : s.Requeued q t) (side : Side) (angle : Int) :
    AnswersRequeued q (s.armRetarget side angle) (t.armRetarget side angle) := by
  obtain rfl := h
  unfold State.armRetarget
  rw [withQueue_arm, withQueue_params]
  dsimp only
  split
  · exact ⟨rfl, rfl⟩
  · exact ⟨rfl, rfl⟩

theorem armDeploy (h : s.Requeued q t) (side : Side) (angle : Option Int) :
    AnswersRequeued q (s.armDeploy side angle) (t.armDeploy side angle) := by
  obtain rfl := h
  have same : AnswersRequeued q (s, .state) (s.withQueue q, .state) := ⟨rfl, rfl⟩
  have moving : AnswersRequeued q (match angle with
      | none => (s, .ok)
      | some x => s.armRetarget side x) (match angle with
        | none => (s.withQueue q, .ok)
        | some x => (s.withQueue q).armRetarget side x) := by
    cases angle with
    | none => exact ⟨rfl, rfl⟩
    | some x => exact armRetarget rfl side x
  unfold State.armDeploy
  rw [withQueue_arm, withQueue_params, withQueue_stopin, withQueue_tgv, withQueue_armHomed]
  dsimp only
  split
  · exact same
  cases (s.arm side).state with
  | stowed =>
    dsimp only
    split
    · exact ⟨rfl, rfl⟩
    · exact ⟨rfl, rfl⟩
  | homing => exact ⟨rfl, rfl⟩
  | deploying => exact moving
  | working => exact moving
  | lifting => exact same
  | fault => exact same

theorem armStow (h : s.Requeued q t) (side : Side) (cause : Cause) :
    AnswersRequeued q (s.armStow side cause) (t.armStow side cause) := by
  obtain rfl := h
  have lifts : AnswersRequeued q (s.liftArm side cause, .ok) ((s.withQueue q).liftArm side cause, .ok) :=
    ⟨.liftArm rfl _ _, rfl⟩
  unfold State.armStow
  rw [withQueue_arm]
  cases (s.arm side).state with
  | homing => exact lifts
  | deploying => exact lifts
  | working => exact lifts
  | stowed => exact ⟨rfl, rfl⟩
  | lifting => exact ⟨rfl, rfl⟩
  | fault => exact ⟨rfl, rfl⟩

theorem armClear (h : s.Requeued q t) (side : Side) : AnswersRequeued q (s.armClear side) (t.armClear side) := by
  obtain rfl := h
  unfold State.armClear
  rw [withQueue_arm]
  dsimp only
  split
  · exact ⟨rfl, rfl⟩
  · split
    · exact ⟨rfl, rfl⟩
    · exact ⟨.liftArm rfl _ _, rfl⟩

theorem pickupWork (h : s.Requeued q t) : AnswersRequeued q s.pickupWork t.pickupWork := by
  obtain rfl := h
  unfold State.pickupWork
  rw [withQueue_arc, withQueue_stopin, withQueue_tgv, withQueue_params]
  split
  · exact ⟨rfl, rfl⟩
  cases s.arc.pickup.state with
  | up => exact ⟨.putPickup rfl _, rfl⟩
  | lowering => exact ⟨rfl, rfl⟩
  | working => exact ⟨rfl, rfl⟩
  | raising => exact ⟨rfl, rfl⟩
  | fault => exact ⟨rfl, rfl⟩

theorem pickupUp (h : s.Requeued q t) : AnswersRequeued q s.pickupUp t.pickupUp := by
  obtain rfl := h
  have raises : AnswersRequeued q (s.raisePickup .command, .ok) ((s.withQueue q).raisePickup .command, .ok) :=
    ⟨.raisePickup rfl _, rfl⟩
  unfold State.pickupUp
  rw [withQueue_arc]
  dsimp only
  cases s.arc.pickup.state with
  | up => exact ⟨rfl, rfl⟩
  | raising => exact ⟨rfl, rfl⟩
  | lowering => exact raises
  | working => exact raises
  | fault =>
    dsimp only
    split
    · exact ⟨rfl, rfl⟩
    · split
      · exact ⟨.putPickup rfl _, rfl⟩
      · exact raises

theorem pickupClaimLoss (h : s.Requeued q t) : s.pickupClaimLoss.Requeued q t.pickupClaimLoss := by
  obtain rfl := h
  unfold State.pickupClaimLoss
  rw [withQueue_arc]
  cases s.arc.pickup.state with
  | lowering => exact .raisePickup rfl _
  | working => exact .raisePickup rfl _
  | up => exact rfl
  | raising => exact rfl
  | fault => exact rfl

theorem indexEvent (h : s.Requeued q t) (side : Side) : (s.indexEvent side).Requeued q (t.indexEvent side) := by
  obtain rfl := h
  exact .ite (.ite rfl rfl) rfl

theorem armTimeout (h : s.Requeued q t) (side : Side) : (s.armTimeout side).Requeued q (t.armTimeout side) := by
  obtain rfl := h
  have expires : (if (s.arm side).moveTimer.ranOut then s.faultArm side .timeout else s).Requeued q
      (if (s.arm side).moveTimer.ranOut then (s.withQueue q).faultArm side .timeout else s.withQueue q) :=
    .ite (.faultArm rfl _ _) rfl
  unfold State.armTimeout
  rw [withQueue_arm]
  cases (s.arm side).state with
  | homing => exact expires
  | deploying => exact expires
  | lifting => exact expires
  | stowed => exact rfl
  | working => exact rfl
  | fault => exact rfl

theorem pickupTimeout (h : s.Requeued q t) : s.pickupTimeout.Requeued q t.pickupTimeout := by
  obtain rfl := h
  have expires : (if s.arc.pickup.moveTimer.ranOut then s.faultPickup .timeout else s).Requeued q
      (if s.arc.pickup.moveTimer.ranOut then (s.withQueue q).faultPickup .timeout else s.withQueue q) :=
    .ite (.faultPickup rfl _) rfl
  unfold State.pickupTimeout
  rw [withQueue_arc]
  cases s.arc.pickup.state with
  | lowering => exact expires
  | raising => exact expires
  | up => exact rfl
  | working => exact rfl
  | fault => exact rfl

theorem armSwitch (h : s.Requeued q t) (side : Side) (sw : SwitchEnd) (active : Bool) :
    (s.armSwitch side sw active).Requeued q (t.armSwitch side sw active) := by
  obtain rfl := h
  exact .ite (.faultArm (.setArm rfl _ _) _ _) rfl

theorem pickupSwitch (h : s.Requeued q t) (sw : SwitchEnd) (active : Bool) :
    (s.pickupSwitch sw active).Requeued q (t.pickupSwitch sw active) := by
  obtain rfl := h
  exact .ite (.faultPickup rfl _) (.putPickup rfl _)

theorem stopArm (h : s.Requeued q t) (side : Side) : (s.stopArm side).Requeued q (t.stopArm side) := by
  obtain rfl := h
  unfold State.stopArm
  rw [withQueue_arm]
  cases (s.arm side).state with
  | deploying => exact .liftArm rfl _ _
  | working => exact .liftArm rfl _ _
  | homing => exact rfl
  | stowed => exact rfl
  | lifting => exact rfl
  | fault => exact rfl

theorem stopPickup (h : s.Requeued q t) : s.stopPickup.Requeued q t.stopPickup := by
  obtain rfl := h
  unfold State.stopPickup
  rw [withQueue_arc]
  cases s.arc.pickup.state with
  | lowering => exact .raisePickup rfl _
  | working => exact .raisePickup rfl _
  | up => exact rfl
  | raising => exact rfl
  | fault => exact rfl

/-! ## The arm update -/

theorem starveArm (h : s.Requeued q t) (side : Side) : (s.starveArm side).Requeued q (t.starveArm side) := by
  obtain rfl := h
  exact .ite (.liftArm rfl _ _) rfl

theorem starvePickup (h : s.Requeued q t) : s.starvePickup.Requeued q t.starvePickup := by
  obtain rfl := h
  exact .ite (.raisePickup rfl _) rfl

theorem stallEvent (h : s.Requeued q t) : s.stallEvent.Requeued q t.stallEvent := by
  obtain rfl := h
  exact rfl

theorem stallArm (h : s.Requeued q t) (side : Side) : (s.stallArm side).Requeued q (t.stallArm side) := by
  obtain rfl := h
  exact .ite (.liftArm (.stallEvent (.setArm rfl _ _)) _ _) rfl

theorem stallPickup (h : s.Requeued q t) : s.stallPickup.Requeued q t.stallPickup := by
  obtain rfl := h
  exact .ite (.raisePickup (.stallEvent rfl) _) rfl

theorem progressArm (h : s.Requeued q t) (side : Side) : (s.progressArm side).Requeued q (t.progressArm side) := by
  obtain rfl := h
  have aimed : (s.withQueue q).aimed side = s.aimed side := rfl
  have set (x : Arm) : (s.setArm side x).Requeued q ((s.withQueue q).setArm side x) := rfl
  unfold State.progressArm
  rw [aimed, withQueue_armHomed]
  dsimp only
  cases (s.aimed side).state with
  | deploying =>
    refine .ite (.liftArm (set _) _ _) ?_
    cases (s.aimed side).phase with
    | slew => exact .ite (set _) (set _)
    | lower => exact set _
    | spinup => exact .ite (.putArm rfl _ _) (set _)
  | working => exact .ite (.liftArm (set _) _ _) (set _)
  | lifting => exact .ite (set _) (set _)
  | stowed => exact set _
  | homing => exact set _
  | fault => exact set _

theorem slewArm (h : s.Requeued q t) (side : Side) : (s.slewArm side).Requeued q (t.slewArm side) := by
  obtain rfl := h
  exact rfl

theorem brushArm (h : s.Requeued q t) (side : Side) : (s.brushArm side).Requeued q (t.brushArm side) := by
  obtain rfl := h
  exact rfl

theorem brushMain (h : s.Requeued q t) : s.brushMain.Requeued q t.brushMain := by
  obtain rfl := h
  exact rfl

theorem brushFan (h : s.Requeued q t) : s.brushFan.Requeued q t.brushFan := by
  obtain rfl := h
  exact rfl

theorem armPublish (h : s.Requeued q t) : s.armPublish.Requeued q t.armPublish := by
  obtain rfl := h
  exact rfl

theorem armUpdate (h : s.Requeued q t) : s.armUpdate.Requeued q t.armUpdate := by
  have safe : s.armSafety.Requeued q t.armSafety :=
    ((((h.starveArm _).starveArm _).starvePickup.stallArm _).stallArm _).stallPickup
  have moved : s.armSafety.armMotion.Requeued q t.armSafety.armMotion :=
    (((safe.progressArm _).progressArm _).slewArm _).slewArm _
  have driven : s.armSafety.armMotion.armDrives.Requeued q t.armSafety.armMotion.armDrives :=
    ((moved.brushArm _).brushArm _).brushMain.brushFan
  have published : _ = _ := driven.armPublish
  unfold State.armUpdate
  dsimp only
  rw [published]
  exact rfl

theorem arcOnGrants (h : s.Requeued q t) : s.arcOnGrants.Requeued q t.arcOnGrants := by
  obtain rfl := h
  exact rfl

end State.Requeued

end Sys2Proof.Machine

/-! PROOF. No operation of the model reads or writes the queue (section 4.4): the allocator, the engine, travel, the counters and
the lines. -/

namespace Sys2Proof.Machine

namespace State.Requeued

variable {q : List Instr} {s t : State}

/-! ## The allocator and the engine -/

theorem publishGrants (h : s.Requeued q t) : s.publishGrants.Requeued q t.publishGrants := by
  obtain rfl := h
  exact rfl

theorem allocate (h : s.Requeued q t) : s.allocate.Requeued q t.allocate := by
  have published : _ = _ := h.publishGrants.arcOnGrants
  have served : t.sprayServed = s.sprayServed := by
    obtain rfl := h
    rfl
  have granted : t.publishGrants.arcOnGrants.sprayServed = s.publishGrants.arcOnGrants.sprayServed := by
    rw [published]
    rfl
  unfold State.allocate
  dsimp only
  rw [served, granted]
  exact .setPump (.refreshIf published _)

theorem activateProfile (h : s.Requeued q t) (i : Fin 8) : (s.activateProfile i).Requeued q (t.activateProfile i) := by
  obtain rfl := h
  exact .ite rfl (.profilePublished rfl)

theorem rearm (h : s.Requeued q t) : s.rearm.Requeued q t.rearm := by
  obtain rfl := h
  exact rfl

theorem applyArm (h : s.Requeued q t) (side : Side) (setting : ArmSetting) (angle : Option Int) :
    (s.applyArm side setting angle).Requeued q (t.applyArm side setting angle) := by
  cases setting with
  | stow => exact (h.armStow side .command).1
  | work => exact (h.armDeploy side angle).1
  | keep => exact h

theorem applyPickup (h : s.Requeued q t) (setting : PickupSetting) :
    (s.applyPickup setting).Requeued q (t.applyPickup setting) := by
  cases setting with
  | up => exact h.pickupUp.1
  | work => exact h.pickupWork.1
  | keep => exact h

theorem applySetting (h : s.Requeued q t) (r : Resource) (st : Settings) :
    (s.applySetting r st).Requeued q (t.applySetting r st) := by
  cases r with
  | armL => exact h.applyArm _ _ _
  | armR => exact h.applyArm _ _ _
  | pickup => exact h.applyPickup _
  | spray => exact h.spraySetting _ _

theorem applyHeld (h : s.Requeued q t) (st : Settings) (r : Resource) : (s.applyHeld st r).Requeued q (t.applyHeld st r) := by
  obtain rfl := h
  exact .ite (.applySetting rfl _ _) rfl

theorem stopResource (h : s.Requeued q t) (r : Resource) : (s.stopResource r).Requeued q (t.stopResource r) := by
  cases r with
  | armL => exact (h.armStow _ _).1
  | armR => exact (h.armStow _ _).1
  | pickup => exact h.pickupUp.1
  | spray => exact h.disableBanks

theorem stopHeld (h : s.Requeued q t) (r : Resource) : (s.stopHeld r).Requeued q (t.stopHeld r) := by
  obtain rfl := h
  exact .ite (.stopResource rfl _) rfl

theorem stopAllHeld (h : s.Requeued q t) : s.stopAllHeld.Requeued q t.stopAllHeld :=
  (((h.stopHeld _).stopHeld _).stopHeld _).stopHeld _

theorem applyAllHeld (h : s.Requeued q t) (st : Settings) : (s.applyAllHeld st).Requeued q (t.applyAllHeld st) :=
  (((h.applyHeld st _).applyHeld st _).applyHeld st _).applyHeld st _

theorem startFigures (h : s.Requeued q t) : s.startFigures.Requeued q t.startFigures := by
  obtain rfl := h
  exact rfl

theorem segmentStart (h : s.Requeued q t) : s.segmentStart.Requeued q t.segmentStart := by
  obtain rfl := h
  exact .spraySegmentStart (.startFigures (.applyAllHeld (.activateProfile rfl _) _))

theorem writeback (h : s.Requeued q t) (st : SegStatus) : (s.writeback st).Requeued q (t.writeback st) := by
  obtain rfl := h
  exact rfl

theorem programEnd (h : s.Requeued q t) (k : EndKind) : (s.programEnd k).Requeued q (t.programEnd k) := by
  obtain rfl := h
  exact rfl

theorem fetch (h : s.Requeued q t) : s.fetch.Requeued q t.fetch := by
  obtain rfl := h
  unfold State.fetch
  rw [withQueue_sge]
  cases s.sge.atCursor.owner with
  | engine => exact .segmentStart rfl
  | master => exact rfl

theorem advanceCursor (h : s.Requeued q t) : s.advanceCursor.Requeued q t.advanceCursor := by
  obtain rfl := h
  exact rfl

theorem suspend (h : s.Requeued q t) (c : SuspendCause) (r : ReturnState) : (s.suspend c r).Requeued q (t.suspend c r) := by
  obtain rfl := h
  exact rfl

theorem beginStopping (h : s.Requeued q t) : s.beginStopping.Requeued q t.beginStopping := by
  obtain rfl := h
  exact .stopAllHeld rfl

theorem segmentEnd (h : s.Requeued q t) : s.segmentEnd.Requeued q t.segmentEnd := by
  have done := h.writeback .done
  have request : t.sge.atCursor.request = s.sge.atCursor.request := by
    obtain rfl := h
    rfl
  unfold State.segmentEnd
  dsimp only
  rw [request]
  cases s.sge.atCursor.request.endAction with
  | cont => exact .ite (done.programEnd _) done.advanceCursor.fetch
  | pause => exact .ite (done.programEnd _) (done.advanceCursor.suspend _ _)
  | stop => exact h.beginStopping

theorem engineMm (h : s.Requeued q t) : s.engineMm.Requeued q t.engineMm := by
  obtain rfl := h
  unfold State.engineMm
  rw [withQueue_sge]
  cases s.sge.state with
  | running => exact .ite (.segmentEnd rfl) rfl
  | starved => exact rfl
  | idle => exact rfl
  | suspended => exact rfl
  | stopping => exact rfl

theorem stopComplete (h : s.Requeued q t) : s.stopComplete.Requeued q t.stopComplete := by
  obtain rfl := h
  exact .ite rfl rfl

theorem returnEvent (h : s.Requeued q t) (r : Resource) : (s.returnEvent r).Requeued q (t.returnEvent r) := by
  obtain rfl := h
  have settings : (match s.sge.settings with
      | some st => s.applyHeld st r
      | none => s).Requeued q (match s.sge.settings with
        | some st => (s.withQueue q).applyHeld st r
        | none => s.withQueue q) := by
    cases s.sge.settings with
    | none => exact rfl
    | some st => exact .applyHeld rfl _ _
  unfold State.returnEvent
  rw [withQueue_sge]
  cases s.sge.state with
  | running => exact settings
  | starved => exact settings
  | suspended => exact settings
  | stopping => exact .stopHeld rfl _
  | idle => exact rfl

theorem engineStopInput (h : s.Requeued q t) : s.engineStopInput.Requeued q t.engineStopInput := by
  obtain rfl := h
  unfold State.engineStopInput
  rw [withQueue_sge]
  cases s.sge.state with
  | running => exact rfl
  | starved => exact rfl
  | suspended => exact .ite rfl rfl
  | stopping => exact rfl
  | idle => exact rfl

theorem claimLossStow (h : s.Requeued q t) (r : Resource) : (s.claimLossStow r).Requeued q (t.claimLossStow r) := by
  cases r with
  | armL => exact (h.armStow _ _).1
  | armR => exact (h.armStow _ _).1
  | pickup => exact h.pickupClaimLoss
  | spray => exact h.disableBanks

theorem withdrawEffect (h : s.Requeued q t) (before : Claim) (r : Resource) :
    (s.withdrawEffect before r).Requeued q (t.withdrawEffect before r) := by
  cases before with
  | cab => exact h.claimLossStow r
  | lent => exact h.returnEvent r
  | free => exact h
  | program => exact h

theorem withdrawCab (h : s.Requeued q t) : s.withdrawCab.Requeued q t.withdrawCab := by
  obtain rfl := h
  exact .withdrawEffect (.withdrawEffect (.withdrawEffect (.withdrawEffect rfl _ _) _ _) _ _) _ _

theorem cabLost (h : s.Requeued q t) : s.cabLost.Requeued q t.cabLost := h.withdrawCab.rearm

theorem markMm (h : s.Requeued q t) : s.markMm.Requeued q t.markMm := by
  obtain rfl := h
  exact .ite (.distanceMark rfl) rfl

theorem forwardMm (h : s.Requeued q t) : s.forwardMm.Requeued q t.forwardMm := by
  obtain rfl := h
  exact .markMm (.engineMm rfl)

theorem forwardMms (n : Nat) (h : s.Requeued q t) : (State.forwardMms n s).Requeued q (State.forwardMms n t) := by
  induction n generalizing s t with
  | zero => exact h
  | succ n ih => exact ih h.forwardMm

theorem forwardCount (h : s.Requeued q t) : s.forwardCount.Requeued q t.forwardCount := by
  obtain rfl := h
  exact .forwardMms _ rfl

/-! ## Travel -/

theorem travelStages (h : s.Requeued q t) : s.travelStages.Requeued q t.travelStages := by
  obtain rfl := h
  exact .raiseClamp (.publishLane rfl _ _) _ _ _

theorem travelTick (h : s.Requeued q t) : s.travelTick.Requeued q t.travelTick := by
  have staged : _ = _ := h.travelStages
  unfold State.travelTick
  dsimp only
  rw [staged]
  exact .ite (.stopComplete rfl) rfl

/-! ## The Counter Unit -/

theorem setChan (h : s.Requeued q t) (c : ChanId) (x : Channel) : (s.setChan c x).Requeued q (t.setChan c x) := by
  obtain rfl := h
  exact rfl

/-- The Spray Controller takes a changed measured speed: the state before has another queue, too. -/
theorem speedRefresh {u v : State} (h : s.Requeued q t) (before : u.Requeued q v) :
    (s.speedRefresh u).Requeued q (t.speedRefresh v) := by
  obtain rfl := h
  obtain rfl := before
  exact .refreshIf rfl _

theorem countEdge (h : s.Requeued q t) (c : ChanId) (e : Edge) : (s.countEdge c e).Requeued q (t.countEdge c e) := by
  obtain rfl := h
  exact .ite (.forwardCount (.setChan rfl _ _)) rfl

theorem publishSpeed (h : s.Requeued q t) (c : ChanId) : (s.publishSpeed c).Requeued q (t.publishSpeed c) := by
  obtain rfl := h
  exact .speedRefresh rfl rfl

theorem setGroundFault (h : s.Requeued q t) : s.setGroundFault.Requeued q t.setGroundFault := by
  obtain rfl := h
  exact .speedRefresh rfl rfl

theorem plausibility (h : s.Requeued q t) : s.plausibility.Requeued q t.plausibility := by
  obtain rfl := h
  exact .ite (.setGroundFault rfl) rfl

theorem gateExpired (h : s.Requeued q t) (c : ChanId) :
    (if c = .gnd then (s.publishSpeed c).plausibility else s.publishSpeed c).Requeued q
      (if c = .gnd then (t.publishSpeed c).plausibility else t.publishSpeed c) :=
  .ite (h.publishSpeed c).plausibility (h.publishSpeed c)

theorem millisecond (h : s.Requeued q t) : s.millisecond.Requeued q t.millisecond := by
  obtain rfl := h
  exact rfl

/-! ## The lines -/

theorem stopEffects (h : s.Requeued q t) : s.stopEffects.Requeued q t.stopEffects := by
  obtain rfl := h
  exact .post (.engineStopInput (.stopPickup (.stopArm (.stopArm (.sprayRefresh rfl) _) _))) _

theorem resolveLatch {u v : State} (before : u.Requeued q v) (h : s.Requeued q t) :
    (resolveLatch u s).Requeued q (resolveLatch v t) := by
  obtain rfl := h
  obtain rfl := before
  exact rfl

theorem portReset (h : s.Requeued q t) (p : PortId) : (s.portReset p).Requeued q (t.portReset p) := by
  obtain rfl := h
  exact rfl

theorem setPort (h : s.Requeued q t) (p : PortId) (x : Port) : (s.setPort p x).Requeued q (t.setPort p x) := by
  obtain rfl := h
  exact rfl

theorem fullReset (h : s.Requeued q t) (held : Bool) : (s.fullReset held).Requeued q (t.fullReset held) := by
  obtain rfl := h
  exact rfl

/-! ## The ports -/

theorem ignored (h : s.Requeued q t) (p : PortId) (n : Nat) : (s.ignored p n).Requeued q (t.ignored p n) := by
  obtain rfl := h
  exact .ite rfl rfl

theorem heard (h : s.Requeued q t) (f : Frame) : (s.heard f).Requeued q (t.heard f) := by
  obtain rfl := h
  exact rfl

theorem atBlock (h : s.Requeued q t) (f : Frame) : (s.atBlock f).Requeued q (t.atBlock f) := by
  obtain rfl := h
  exact rfl

theorem nextPart (h : s.Requeued q t) (p : PortId) : (s.nextPart p).Requeued q (t.nextPart p) := by
  obtain rfl := h
  unfold State.nextPart
  rw [withQueue_port]
  cases (s.port p).held with
  | none => exact rfl
  | some held => exact rfl

theorem badServed (h : s.Requeued q t) (p : PortId) (bytes : List Byte) (st : Status) :
    (s.badServed p bytes st).Requeued q (t.badServed p bytes st) := by
  obtain rfl := h
  exact rfl

end State.Requeued

end Sys2Proof.Machine

/-! PROOF. Every command completes, and none reads or writes the queue (section 4.4, R183): O2. -/

namespace Sys2Proof.Machine

/-! ## What a block answers -/

/-- The same answer, on states that differ in the queue alone. -/
structure Done.Requeued (q : List Instr) (d d' : Done) : Prop where
  state : d.state.Requeued q d'.state
  status : d'.status = d.status
  content : d'.content = d.content

namespace Done.Requeued

variable {q : List Instr} {s t : State}

theorem done (h : s.Requeued q t) (st : Status) : (s.done st).Requeued q (t.done st) := ⟨h, rfl, rfl⟩

theorem readOk (h : s.Requeued q t) (content : List Byte) : (s.readOk content).Requeued q (t.readOk content) := ⟨h, rfl, rfl⟩

theorem doneOf {r r' : State × Status} (h : AnswersRequeued q r r') : (doneOf r).Requeued q (doneOf r') := ⟨h.1, h.2, rfl⟩

theorem ite {c : Prop} [Decidable c] {a b a' b' : Done} (ha : a.Requeued q a') (hb : b.Requeued q b') :
    (if c then a else b).Requeued q (if c then a' else b') := by
  split
  · exact ha
  · exact hb

theorem forResource (h : s.Requeued q t) (f : Frame) {act act' : Resource → Done} (acts : ∀ r, (act r).Requeued q (act' r)) :
    (forResource f s act).Requeued q (forResource f t act') := by
  unfold Machine.forResource
  cases resourceOf (f.payload.getD 0 0) with
  | none => exact done h _
  | some r => exact acts r

theorem forChannel (h : s.Requeued q t) (f : Frame) {act act' : ChanId → Done} (acts : ∀ c, (act c).Requeued q (act' c)) :
    (forChannel f s act).Requeued q (forChannel f t act') := by
  unfold Machine.forChannel
  cases chanOf (f.payload.getD 0 0) with
  | none => exact done h _
  | some c => exact acts c

theorem forDescriptor (h : s.Requeued q t) (f : Frame) {act act' : Fin 32 → Done} (acts : ∀ i, (act i).Requeued q (act' i)) :
    (forDescriptor f s act).Requeued q (forDescriptor f t act') := by
  unfold Machine.forDescriptor
  cases descIndexOf (f.payload.getD 0 0) with
  | none => exact done h _
  | some i => exact acts i

theorem gated (h : s.Requeued q t) (r : Resource) {act act' : Done} (acts : act.Requeued q act') :
    (gated s r act).Requeued q (gated t r act') := by
  obtain rfl := h
  exact .ite acts (done rfl _)

theorem forArm (h : s.Requeued q t) (f : Frame) {act act' : Side → Done} (acts : ∀ side, (act side).Requeued q (act' side)) :
    (forArm f s act).Requeued q (forArm f t act') := by
  unfold Machine.forArm
  cases sideOf (f.payload.getD 0 0) with
  | none => exact done h _
  | some side => exact gated h _ (acts side)

end Done.Requeued

theorem State.Requeued.answer {q : List Instr} {d d' : Done} (h : d.Requeued q d') (p : PortId) (code : Byte) :
    (d.answer p code).Requeued q (d'.answer p code) := by
  obtain ⟨state, status, content⟩ := d'
  have states : state = d.state.withQueue q := h.state
  have statuses : status = d.status := h.status
  have contents : content = d.content := h.content
  subst states statuses contents
  exact .ite rfl rfl

/-! ## The blocks -/

section bodies

variable {q : List Instr} {s t : State} (h : s.Requeued q t) (f : Frame)
include h

theorem noticeMaskBody_requeued : (noticeMaskBody f s).Requeued q (noticeMaskBody f t) := by
  obtain rfl := h
  exact .ite ⟨rfl, rfl, rfl⟩ ⟨rfl, rfl, rfl⟩

theorem readCountBody_requeued : (readCountBody f s).Requeued q (readCountBody f t) := by
  obtain rfl := h
  unfold readCountBody
  cases chanOf (f.payload.getD 0 0) with
  | none => exact ⟨rfl, rfl, rfl⟩
  | some c => exact ⟨rfl, rfl, rfl⟩

theorem readSnapBody_requeued : (readSnapBody f s).Requeued q (readSnapBody f t) := by
  obtain rfl := h
  exact .ite ⟨rfl, rfl, rfl⟩ ⟨rfl, rfl, rfl⟩

theorem profileReadBody_requeued : (profileReadBody f s).Requeued q (profileReadBody f t) := by
  obtain rfl := h
  unfold profileReadBody
  cases profileIndexOf (f.payload.getD 0 0) with
  | none => exact ⟨rfl, rfl, rfl⟩
  | some i => exact ⟨rfl, rfl, rfl⟩

theorem descReadBody_requeued : (descReadBody f s).Requeued q (descReadBody f t) := by
  obtain rfl := h
  unfold descReadBody
  cases descIndexOf (f.payload.getD 0 0) with
  | none => exact ⟨rfl, rfl, rfl⟩
  | some i => exact ⟨rfl, rfl, rfl⟩

theorem cfgReadBody_requeued : (cfgReadBody f s).Requeued q (cfgReadBody f t) := by
  obtain rfl := h
  unfold cfgReadBody
  cases paramIdOf (f.payload.getD 0 0) with
  | none => exact ⟨rfl, rfl, rfl⟩
  | some i => exact ⟨rfl, rfl, rfl⟩

theorem chEnableBody_requeued : (chEnableBody f s).Requeued q (chEnableBody f t) := by
  obtain rfl := h
  exact .forChannel rfl f fun c => .ite ⟨rfl, rfl, rfl⟩ ⟨rfl, rfl, rfl⟩

theorem chDisableBody_requeued : (chDisableBody f s).Requeued q (chDisableBody f t) := by
  obtain rfl := h
  exact .forChannel rfl f fun c => .ite (.done (.speedRefresh rfl rfl) _) ⟨rfl, rfl, rfl⟩

theorem setCountBody_requeued : (setCountBody f s).Requeued q (setCountBody f t) := by
  obtain rfl := h
  exact .forChannel rfl f fun c => .ite ⟨rfl, rfl, rfl⟩ ⟨rfl, rfl, rfl⟩

theorem chClearBody_requeued : (chClearBody f s).Requeued q (chClearBody f t) := by
  obtain rfl := h
  exact .forChannel rfl f fun c => .done (.speedRefresh rfl rfl) _

theorem gndFaultClearBody_requeued : (gndFaultClearBody s).Requeued q (gndFaultClearBody t) := by
  obtain rfl := h
  exact .ite (.ite ⟨rfl, rfl, rfl⟩ (.done (.speedRefresh rfl rfl) _)) ⟨rfl, rfl, rfl⟩

theorem budgetBody_requeued : (budgetBody f s).Requeued q (budgetBody f t) := by
  obtain rfl := h
  exact .done (.publishSpry (.refreshIf rfl _)) _

theorem tankBody_requeued : (tankBody f s).Requeued q (tankBody f t) := .done (h.setEstimate _) _

theorem cfgWriteBody_requeued : (cfgWriteBody f s).Requeued q (cfgWriteBody f t) := by
  obtain rfl := h
  unfold cfgWriteBody
  cases paramIdOf (f.payload.getD 0 0) with
  | none => exact ⟨rfl, rfl, rfl⟩
  | some i => exact .ite ⟨rfl, rfl, rfl⟩ ⟨rfl, rfl, rfl⟩

theorem cfgCommitBody_requeued : (cfgCommitBody s).Requeued q (cfgCommitBody t) := by
  obtain rfl := h
  refine .ite ⟨rfl, rfl, rfl⟩ ?_
  rw [State.withQueue_cfs]
  cases s.cfs.pendingSet.crossCheck with
  | none => exact .done (State.Requeued.settleBanks rfl) _
  | slewLimits => exact ⟨rfl, rfl, rfl⟩
  | transportMax => exact ⟨rfl, rfl, rfl⟩
  | tractionFloor => exact ⟨rfl, rfl, rfl⟩
  | fallback => exact ⟨rfl, rfl, rfl⟩

theorem travelReqBody_requeued : (travelReqBody f s).Requeued q (travelReqBody f t) := by
  obtain rfl := h
  have refusal (m : TravelMode) (speed : Nat) : (s.withQueue q).travelRefusal m speed = s.travelRefusal m speed := rfl
  unfold travelReqBody
  cases modeOf (f.payload.getD 0 0) with
  | none => exact ⟨rfl, rfl, rfl⟩
  | some m =>
    cases directionOf (f.payload.getD 1 0) with
    | none => exact ⟨rfl, rfl, rfl⟩
    | some d =>
      dsimp only
      rw [refusal]
      cases s.travelRefusal m (travelSpeedOf f) with
      | none => exact ⟨rfl, rfl, rfl⟩
      | some st => exact ⟨rfl, rfl, rfl⟩

theorem claimBody_requeued : (claimBody f s).Requeued q (claimBody f t) := by
  obtain rfl := h
  exact .forResource rfl f fun r => ⟨rfl, rfl, rfl⟩

theorem takeBody_requeued : (takeBody f s).Requeued q (takeBody f t) := by
  obtain rfl := h
  exact .forResource rfl f fun r => ⟨rfl, rfl, rfl⟩

theorem releaseBody_requeued : (releaseBody f s).Requeued q (releaseBody f t) := by
  obtain rfl := h
  exact .forResource rfl f fun r => .done (.ite (.returnEvent rfl _) rfl) _

theorem armSetBody_requeued : (armSetBody f s).Requeued q (armSetBody f t) := by
  refine .forArm h f fun side => ?_
  cases armActionOf (f.payload.getD 1 0) with
  | none => exact .done h _
  | some action =>
    cases action with
    | deploy => exact .doneOf (h.armDeploy _ _)
    | stow => exact .doneOf (h.armStow _ _)
    | retarget =>
      dsimp only
      unfold armAct
      cases armAngleOf f with
      | none => exact .done h _
      | some a => exact .doneOf (h.armRetarget _ _)

theorem pickupSetBody_requeued : (pickupSetBody f s).Requeued q (pickupSetBody f t) := by
  refine .gated h _ ?_
  cases pickupActionOf (f.payload.getD 0 0) with
  | none => exact .done h _
  | some action =>
    cases action with
    | work => exact .doneOf h.pickupWork
    | up => exact .doneOf h.pickupUp

theorem spraySetBody_requeued : (spraySetBody f s).Requeued q (spraySetBody f t) :=
  .gated h _ (.done (h.spraySetting _ _) _)

theorem profileSelectBody_requeued : (profileSelectBody f s).Requeued q (profileSelectBody f t) := by
  obtain rfl := h
  refine .ite ⟨rfl, rfl, rfl⟩ ?_
  cases profileIndexOf (f.payload.getD 0 0) with
  | none => exact ⟨rfl, rfl, rfl⟩
  | some i => exact .ite (.done (.activateProfile rfl _) _) ⟨rfl, rfl, rfl⟩

theorem profileWriteBody_requeued : (profileWriteBody f s).Requeued q (profileWriteBody f t) := by
  obtain rfl := h
  unfold profileWriteBody
  cases profileIndexOf (f.payload.getD 0 0) with
  | none => exact ⟨rfl, rfl, rfl⟩
  | some i => exact .ite ⟨rfl, rfl, rfl⟩ (.ite (.done (.ite (.profilePublished rfl) rfl) _) ⟨rfl, rfl, rfl⟩)

theorem descWriteBody_requeued : (descWriteBody f s).Requeued q (descWriteBody f t) := by
  obtain rfl := h
  refine .forDescriptor rfl f fun i => .ite ⟨rfl, rfl, rfl⟩ (.ite ⟨rfl, rfl, rfl⟩ ?_)
  cases (descFields f.payload).request with
  | none => exact ⟨rfl, rfl, rfl⟩
  | some r => exact .ite ⟨rfl, rfl, rfl⟩ ⟨rfl, rfl, rfl⟩

theorem descReturnBody_requeued : (descReturnBody f s).Requeued q (descReturnBody f t) := by
  obtain rfl := h
  exact .forDescriptor rfl f fun i => .ite ⟨rfl, rfl, rfl⟩ ⟨rfl, rfl, rfl⟩

theorem pgmStartBody_requeued : (pgmStartBody f s).Requeued q (pgmStartBody f t) := by
  obtain rfl := h
  exact .forDescriptor rfl f fun i => .ite ⟨rfl, rfl, rfl⟩ (.ite ⟨rfl, rfl, rfl⟩ (.ite ⟨rfl, rfl, rfl⟩
    (.ite ⟨rfl, rfl, rfl⟩ (.done (State.Requeued.segmentStart rfl) _))))

theorem pgmPollBody_requeued : (pgmPollBody s).Requeued q (pgmPollBody t) := by
  obtain rfl := h
  exact .done (.ite (.segmentStart rfl) rfl) _

theorem pgmSuspendBody_requeued : (pgmSuspendBody s).Requeued q (pgmSuspendBody t) := by
  obtain rfl := h
  unfold pgmSuspendBody
  rw [State.withQueue_sge]
  cases s.sge.state <;> exact ⟨rfl, rfl, rfl⟩

theorem State.Requeued.returned : s.returned.Requeued q t.returned := by
  obtain rfl := h
  exact rfl

theorem State.Requeued.remakeSettings : s.remakeSettings.Requeued q t.remakeSettings := by
  obtain rfl := h
  unfold State.remakeSettings
  rw [State.withQueue_sge]
  cases s.sge.settings with
  | none => exact rfl
  | some st => exact .applyHeld (.applyHeld (.applyHeld rfl _ _) _ _) _ _

theorem pgmResumeBody_requeued : (pgmResumeBody s).Requeued q (pgmResumeBody t) := by
  obtain rfl := h
  refine .ite ⟨rfl, rfl, rfl⟩ ?_
  rw [State.withQueue_sge]
  cases s.sge.suspendCause with
  | command => exact ⟨rfl, rfl, rfl⟩
  | none => exact ⟨rfl, rfl, rfl⟩
  | pauseEnd => exact .ite ⟨rfl, rfl, rfl⟩ (.done (State.Requeued.fetch rfl) _)
  | stopInput => exact .ite ⟨rfl, rfl, rfl⟩ (.done (.returned (.remakeSettings rfl)) _)

theorem pgmAbortBody_requeued : (pgmAbortBody s).Requeued q (pgmAbortBody t) := by
  obtain rfl := h
  exact .ite ⟨rfl, rfl, rfl⟩ (.done (.programEnd (.stopAllHeld (.ite (.writeback rfl _) rfl)) _) _)

/-- No block reads or writes the queue. -/
theorem blockOf_requeued (c : Cmd) : (blockOf c f s).Requeued q (blockOf c f t) := by
  cases c with
  | nop => exact .done h _
  | noticeRead => obtain rfl := h; exact ⟨rfl, rfl, rfl⟩
  | noticeMask => exact noticeMaskBody_requeued h f
  | readCount => exact readCountBody_requeued h f
  | readSnap => exact readSnapBody_requeued h f
  | readLanes => obtain rfl := h; exact ⟨rfl, rfl, rfl⟩
  | profileRead => exact profileReadBody_requeued h f
  | travelRead => obtain rfl := h; exact ⟨rfl, rfl, rfl⟩
  | armRead => obtain rfl := h; exact ⟨rfl, rfl, rfl⟩
  | claimRead => obtain rfl := h; exact ⟨rfl, rfl, rfl⟩
  | sprayRead => obtain rfl := h; exact ⟨rfl, rfl, rfl⟩
  | descRead => exact descReadBody_requeued h f
  | pgmRead => obtain rfl := h; exact ⟨rfl, rfl, rfl⟩
  | cfgRead => exact cfgReadBody_requeued h f
  | snapshot => obtain rfl := h; exact ⟨rfl, rfl, rfl⟩
  | chEnable => exact chEnableBody_requeued h f
  | chDisable => exact chDisableBody_requeued h f
  | setCount => exact setCountBody_requeued h f
  | chClear => exact chClearBody_requeued h f
  | gndFaultClear => exact gndFaultClearBody_requeued h
  | budget => exact budgetBody_requeued h f
  | tank => exact tankBody_requeued h f
  | lanesClear => obtain rfl := h; exact ⟨rfl, rfl, rfl⟩
  | cfgWrite => exact cfgWriteBody_requeued h f
  | cfgCommit => exact cfgCommitBody_requeued h
  | travelReq => exact travelReqBody_requeued h f
  | claim => exact claimBody_requeued h f
  | take => exact takeBody_requeued h f
  | release => exact releaseBody_requeued h f
  | armSet => exact armSetBody_requeued h f
  | armClear => exact .forArm h f fun side => .doneOf (h.armClear side)
  | pickupSet => exact pickupSetBody_requeued h f
  | spraySet => exact spraySetBody_requeued h f
  | profileSelect => exact profileSelectBody_requeued h f
  | profileWrite => exact profileWriteBody_requeued h f
  | descWrite => exact descWriteBody_requeued h f
  | descReturn => exact descReturnBody_requeued h f
  | pgmStart => exact pgmStartBody_requeued h f
  | pgmPoll => exact pgmPollBody_requeued h
  | pgmSuspend => exact pgmSuspendBody_requeued h
  | pgmResume => exact pgmResumeBody_requeued h
  | pgmAbort => exact pgmAbortBody_requeued h

end bodies

/-! ## Transactions -/

namespace State.Requeued

variable {q : List Instr} {s t : State} (h : s.Requeued q t)
include h

theorem transact (c : Cmd) (f : Frame) : (s.transact c f (blockOf c f)).Requeued q (t.transact c f (blockOf c f)) := by
  obtain rfl := h
  have refusal : (s.withQueue q).refusal c f = s.refusal c f := rfl
  refine .ite (.ignored rfl _ _) ?_
  unfold State.served
  rw [refusal]
  cases s.refusal c f with
  | none => exact .answer (blockOf_requeued (State.Requeued.atBlock rfl f) f c) _ _
  | some st => exact .answer (.done (.atBlock rfl f) _) _ _

theorem nopServed (f : Frame) : (s.nopServed f).Requeued q (t.nopServed f) := by
  obtain rfl := h
  exact .ite (.nextPart (.heard rfl f) _) (.answer (.done (.atBlock rfl f) _) _ _)

end State.Requeued

/-! ## The commands -/

/-- The same outcome, on states that differ in the queue alone. -/
inductive OutcomeRequeued (q : List Instr) :
    Host.Outcome State Fault Refusal → Host.Outcome State Fault Refusal → Prop where
  | next {s t : State} (h : s.Requeued q t) : OutcomeRequeued q (.next s) (.next t)
  | refused (r : Refusal) : OutcomeRequeued q (.refused r) (.refused r)

section commands

variable {q : List Instr} {s t : State} (h : s.Requeued q t)
include h

theorem execBadFrame_requeued (p : PortId) (bytes : List Byte) :
    OutcomeRequeued q (execBadFrame p bytes s) (execBadFrame p bytes t) := by
  obtain rfl := h
  unfold execBadFrame
  split
  · exact .refused _
  cases frameFault bytes with
  | none => exact .refused _
  | some st => exact .next (.ite (.ignored rfl _ _) (.badServed rfl _ _ _))

theorem execUnknownCommand_requeued (code : Byte) (f : Frame) :
    OutcomeRequeued q (execUnknownCommand code f s) (execUnknownCommand code f t) := by
  obtain rfl := h
  unfold execUnknownCommand
  cases Cmd.ofCode code with
  | none => exact .next (.ite (.ignored rfl _ _) (.answer (.done (.atBlock rfl f) _) _ _))
  | some c => exact .refused _

theorem State.Requeued.withSwitch (unit : Equip) (sw : SwitchEnd) (active : Bool) :
    (s.withSwitch unit sw active).Requeued q (t.withSwitch unit sw active) := by
  obtain rfl := h
  cases unit <;> exact rfl

theorem State.Requeued.switchChange (unit : Equip) (sw : SwitchEnd) (active : Bool) :
    (s.switchChange unit sw active).Requeued q (t.switchChange unit sw active) := by
  cases unit with
  | left => exact h.armSwitch _ _ _
  | right => exact h.armSwitch _ _ _
  | pickup => exact h.pickupSwitch _ _

/-- No command reads or writes the queue (section 4.4). -/
theorem exec_requeued (c : Instr) : OutcomeRequeued q (exec c s) (exec c t) := by
  have request (c : Cmd) (f : Frame) :
      OutcomeRequeued q (.next (s.transact c f (blockOf c f))) (.next (t.transact c f (blockOf c f))) :=
    .next (h.transact c f)
  cases c with
  | noticeRead f => exact request .noticeRead f
  | noticeMask f => exact request .noticeMask f
  | readCount f => exact request .readCount f
  | readSnap f => exact request .readSnap f
  | readLanes f => exact request .readLanes f
  | profileRead f => exact request .profileRead f
  | travelRead f => exact request .travelRead f
  | armRead f => exact request .armRead f
  | claimRead f => exact request .claimRead f
  | sprayRead f => exact request .sprayRead f
  | descRead f => exact request .descRead f
  | pgmRead f => exact request .pgmRead f
  | cfgRead f => exact request .cfgRead f
  | snapshot f => exact request .snapshot f
  | chEnable f => exact request .chEnable f
  | chDisable f => exact request .chDisable f
  | setCount f => exact request .setCount f
  | chClear f => exact request .chClear f
  | gndFaultClear f => exact request .gndFaultClear f
  | budget f => exact request .budget f
  | tank f => exact request .tank f
  | lanesClear f => exact request .lanesClear f
  | cfgWrite f => exact request .cfgWrite f
  | cfgCommit f => exact request .cfgCommit f
  | travelReq f => exact request .travelReq f
  | claim f => exact request .claim f
  | take f => exact request .take f
  | release f => exact request .release f
  | armSetDeploy f => exact request .armSet f
  | armSetRetarget f => exact request .armSet f
  | armSetStow f => exact request .armSet f
  | armClear f => exact request .armClear f
  | pickupSetWork f => exact request .pickupSet f
  | pickupSetUp f => exact request .pickupSet f
  | spraySet f => exact request .spraySet f
  | profileSelect f => exact request .profileSelect f
  | profileWrite f => exact request .profileWrite f
  | descWrite f => exact request .descWrite f
  | descReturn f => exact request .descReturn f
  | pgmStart f => exact request .pgmStart f
  | pgmPoll f => exact request .pgmPoll f
  | pgmSuspend f => exact request .pgmSuspend f
  | pgmResume f => exact request .pgmResume f
  | pgmAbort f => exact request .pgmAbort f
  | nop f => obtain rfl := h; exact .next (.ite (.ignored rfl _ _) (.nopServed rfl f))
  | badFrame p bytes => exact execBadFrame_requeued h p bytes
  | unknownCommand code f => exact execUnknownCommand_requeued h code f
  | quadratureChange ch a b => obtain rfl := h; exact .next (.ite (.countEdge rfl _ _) rfl)
  | pulseRisingEdge ch => obtain rfl := h; exact .next (.ite rfl rfl)
  | indexActive side => obtain rfl := h; exact .next (.ite rfl (.indexEvent rfl _))
  | indexInactive side => obtain rfl := h; exact .next rfl
  | positionSwitchChange unit sw active =>
    obtain rfl := h
    exact .next (.ite rfl (.ite (.withSwitch rfl _ _ _) (.switchChange rfl _ _ _)))
  | stopinAsserted => obtain rfl := h; exact .next (.ite rfl (.ite rfl (.resolveLatch rfl (.stopEffects rfl))))
  | stopinReleased => obtain rfl := h; exact .next (.ite rfl (.ite rfl (.post (.sprayRefresh rfl) _)))
  | prstnAsserted port =>
    obtain rfl := h
    exact .next (.ite rfl (.ite rfl (.ite (.cabLost (.portReset rfl _)) (.portReset rfl _))))
  | prstnReleased port => obtain rfl := h; exact .next (.ite rfl rfl)
  | fullReset kind => obtain rfl := h; exact .next rfl
  | rstnRelease => obtain rfl := h; exact .next (.ite rfl rfl)
  | uptimeTick => obtain rfl := h; exact .next (.ite rfl rfl)
  | gateExpiry ch => obtain rfl := h; exact .next (.ite (.gateExpired rfl ch) rfl)
  | freshnessExpiry => obtain rfl := h; exact .next (.ite rfl rfl)
  | allocationPeriodExpiry => obtain rfl := h; exact .next (.ite (.allocate rfl) rfl)
  | travelUpdate => obtain rfl := h; exact .next (.ite (.travelTick rfl) rfl)
  | armUpdate => obtain rfl := h; exact .next (.ite (.armUpdate rfl) rfl)
  | moveTimerExpiry unit =>
    cases unit with
    | left => exact .next (h.armTimeout _)
    | right => exact .next (h.armTimeout _)
    | pickup => exact .next h.pickupTimeout
  | pulseTimerExpiry bank => obtain rfl := h; exact .next (.ite (.pulseExpired rfl _) rfl)
  | silenceTimerExpiry port =>
    obtain rfl := h
    exact .next (.ite (.ite (.cabLost rfl) rfl) rfl)

end commands

theorem OutcomeRequeued.of_next {q : List Instr} {s : State} {o : Host.Outcome State Fault Refusal}
    (h : OutcomeRequeued q (.next s) o) : o = .next (s.withQueue q) := by
  cases h with
  | next h => rw [h]

/-- A frame whose code names no command completes, too (R160). -/
theorem exec_unknownCommand_completes {code : Byte} {f : Frame} (wf : (Instr.unknownCommand code f).wf = true) (s : State) :
    ∃ t, exec (.unknownCommand code f) s = .next t := by
  obtain ⟨_, row⟩ := Instr.wf_request rfl wf
  rw [← row, instrOf]
  cases known : Cmd.ofCode code with
  | none => exact ⟨_, exec_unknownCommand (Cmd.ofCode_eq_none.mp known) f s⟩
  | some c =>
    by_cases nop : c = .nop
    · subst nop
      exact ⟨_, exec_nop f s⟩
    · exact ⟨_, exec_toInstr nop f s⟩

/-- Settles O2: a command completes by its arm, and the same command on another queue does the same. -/
theorem commandsCompleteAndLeaveTheQueue : Obligations.CommandsCompleteAndLeaveTheQueue := by
  refine ⟨fun c s wf => ?_, fun c s t next => ?_⟩
  · cases c with
    | badFrame p bytes =>
      have bad : badBytes bytes = true := wf
      simp only [badBytes, Bool.and_eq_true, Bool.not_eq_true', List.isEmpty_eq_false_iff] at bad
      obtain ⟨bytes, fault⟩ := bad
      obtain ⟨st, fault⟩ := Option.isSome_iff_exists.mp fault
      exact ⟨_, exec_badFrame bytes fault s⟩
    | unknownCommand code f => exact exec_unknownCommand_completes wf s
    | _ => exact ⟨_, rfl⟩
  · have same (q : List Instr) : exec c (s.withQueue q) = .next (t.withQueue q) := by
      have outcome := exec_requeued (q := q) (s := s) rfl c
      rw [next] at outcome
      exact outcome.of_next
    refine ⟨?_, same⟩
    have again : Host.Outcome.next t = .next (t.withQueue s.pending) := next.symm.trans (same s.pending)
    injection again with again
    exact (congrArg State.pending again :)

end Sys2Proof.Machine
